-- ==== Sys2Proof/Word.lean ====
section
/-! DEFINITION. Bytes, register words and the bit-field arithmetic of the manual (R7, R8): fields are cut out of
and put into natural numbers, signed fields are read as integers. -/

namespace Sys2Proof

/-- A byte of flash, DRAM, SRAM or an image section. -/
abbrev Byte := BitVec 8

/-- A register of the 4 MiB window (32 bits). -/
abbrev Word := BitVec 32

/-- Bits `[hi:lo]` of `w` (R7: bit 0 is the least significant). -/
def bits (w hi lo : Nat) : Nat := w / 2 ^ lo % 2 ^ (hi + 1 - lo)

/-- `w` with its bits `[hi:lo]` replaced by the low bits of `v`. -/
def setBits (w hi lo v : Nat) : Nat :=
  w - bits w hi lo * 2 ^ lo + v % 2 ^ (hi + 1 - lo) * 2 ^ lo

/-- Bit `i` of `w`. -/
def bit (w i : Nat) : Bool := w / 2 ^ i % 2 == 1

/-- 1 for true, 0 for false, as register fields show it. -/
def flag (b : Bool) : Nat := if b then 1 else 0

/-- The signed reading of the low `n` bits of `w`. -/
def signed (n w : Nat) : Int :=
  if w % 2 ^ n < 2 ^ (n - 1) then (w % 2 ^ n : Nat) else (w % 2 ^ n : Nat) - (2 ^ n : Nat)

/-- The `n`-bit two's complement form of `v`. -/
def twos (n : Nat) (v : Int) : Nat := (v % (2 ^ n : Nat)).toNat

/-- `v` limited to the range `lo` to `hi`. -/
def clamp (lo hi v : Int) : Int := max lo (min hi v)

/-- Saturating increase of a counter by `k` up to `top`. -/
def satAdd (top c k : Nat) : Nat := min top (c + k)

/-- Little-endian value of a byte list (R7). -/
def leVal : List Byte → Nat
  | [] => 0
  | b :: t => b.toNat + 256 * leVal t

/-- The `n` little-endian bytes of `v` (R7). -/
def leBytes : Nat → Nat → List Byte
  | 0, _ => []
  | n + 1, v => BitVec.ofNat 8 v :: leBytes n (v / 256)

/-- Big-endian bytes of `v`, for structures of published standards and IEEE identifiers (R7). -/
def beBytes (n v : Nat) : List Byte := (leBytes n v).reverse

/-- `n` little-endian bytes of `l` from offset `o`; bytes past the end count as 0. -/
def field (l : List Byte) (o n : Nat) : Nat := leVal ((l.drop o).take n)

/-- Byte `o` of `l`, 0 past the end. -/
def u8 (l : List Byte) (o : Nat) : Nat := field l o 1
/-- Two little-endian bytes of `l` at `o`. -/
def u16 (l : List Byte) (o : Nat) : Nat := field l o 2
/-- Four little-endian bytes of `l` at `o`. -/
def u32 (l : List Byte) (o : Nat) : Nat := field l o 4
/-- Eight little-endian bytes of `l` at `o`. -/
def u64 (l : List Byte) (o : Nat) : Nat := field l o 8

/-- `n` zero bytes. -/
def zeros (n : Nat) : List Byte := List.replicate n 0

/-- `l` cut or padded with zeros to `n` bytes. -/
def padTo (n : Nat) (l : List Byte) : List Byte := l.take n ++ zeros (n - l.length)

/-- Whether every byte of `l` from `o` for `n` bytes is 0 (reserved fields). -/
def zeroAt (l : List Byte) (o n : Nat) : Bool := ((l.drop o).take n).all (· == 0)

/-- Ceiling of `a / b`. -/
def ceilDiv (a b : Nat) : Nat := (a + b - 1) / b

/-- A sparse map: pairs in strictly rising key order; a key that is not listed holds the map's default. -/
abbrev Sparse (β : Type) := List (Nat × β)

/-- Byte memory as the host's cells, in the form of `Sparse`. -/
abbrev Memory := Sparse Byte

end Sys2Proof
end

