-- ==== Sys2Proof/Syntax.lean ====
section
/-! DEFINITION. The commands of the block: one constructor of `Instr` for each row of spec/opcode_table.json, and the
operand types they carry. Operands hold what comes from outside the chip: straps, measurements, frames, command
fields and data, and the results of work whose inner course the spec does not fix. -/

namespace Sys2Proof

/-- Lane index L0 to L3 (R7, R14). -/
abbrev Lane := Fin 4
/-- PCIe port p (R46). -/
abbrev Port := Fin 2
/-- Sequencer index of R137: 0 to 3 LS0 to LS3, 4 HS, 5 BS, 6 KS. -/
abbrev SeqIx := Fin 7
/-- Priority FIFO of R182: 0 to 6 event queues, 7 telemetry. -/
abbrev QIx := Fin 8
/-- Block-mover channel (R485). -/
abbrev ChanIx := Fin 16

/-- The three variants of R1. -/
inductive Variant where
  | q | d | s
  deriving DecidableEq, Repr

/-- Who makes an access to the register window (R719). -/
inductive Requester where
  | port (p : Port)
  | sideband
  | seq (q : SeqIx)
  deriving DecidableEq, Repr

/-- Supply domains of the signal tables (R44 to R54). -/
inductive Domain where
  | pciePhy | vddio33 | vddq | vddAfe18 | vddio18
  deriving DecidableEq, Repr

/-- The captured level of each strap (R59, R750). -/
structure Straps where
  modeSel : Bool
  sbSel : Bool
  xspiSel : Bool
  testMode : Bool
  deriving DecidableEq, Repr

/-- What IMG takes from the flash's SFDP tables beside the density (R72): the 8D-8D-8D read command, its dummy cycles, and the program
and erase commands. -/
structure FlashCommands where
  read : Nat
  dummy : Nat
  program : Nat
  erase : Nat
  deriving DecidableEq, Repr

/-- What the PROBE stage found on the flash bus (R72, R73). -/
inductive ProbeResult where
  | noResponse
  | found (densityBytes : Nat) (octal : Bool) (cmds : FlashCommands)
  deriving DecidableEq, Repr

/-- One microword fetch: the word the ROM holds at the fetched address (its contents are not documented, R139) and
whether the word's register-window access received an error response (R147 COND 0x07). -/
structure Fetch where
  rom : BitVec 128
  portError : Bool
  deriving DecidableEq, Repr

/-- The five privileged sources in rank order (R161). -/
inductive PrivSource where
  | powerFail | lookout | cone3 | writeAbort | wedge
  deriving DecidableEq, Repr

/-- Blocks that gate their power (R129). -/
inductive GateBlock where
  | tpar | imgEng | xts | hif (p : Port) | bmv | fmt (n : Lane) | chn (n : Lane)
  deriving DecidableEq, Repr

/-- One bit cell of a lane as the ADCs of its readers A, B and C sampled it (R215, R218); none in a splice or servo field, where no sample
enters the equalizer (R227, R270). -/
abbrev Cell := Option (List Int)

/-- What the front end and decoder find of a sector (R243, R255 to R262): the local iteration in which every parity check comes to hold
(0: none), the local iterations completed when a full bank or a cap that asserts stops the decode, whether the CRC of the decoded bits matches
(R244, R751), the sector's bytes as read, and the measured loop values. `snr` rounds the SNR up where it is odd, and is the SNR where MSE is 0.
Where `cells` holds the rest of the sector's samples, all of this is computed from them (log entry 178), and `layers` are the decoder layers
completed when a full bank or a cap stops it. -/
structure DecodeResult where
  needs : Nat
  ran : Nat
  crcOk : Bool
  freqLimit : Bool
  data : List Byte
  tag : List Byte
  rawErrors : Nat
  mse : Nat
  snr : Nat
  agc : List (Nat × Int)
  asym : List (Nat × Int)
  phase : Nat
  freqPpm : Int
  cells : List Cell
  layers : Nat
  deriving DecidableEq, Repr

/-- What the framer sees up to the close of the backup window (R273): the distances below the threshold at the backup mark's positions, or,
where `cells` is not empty, the sector's samples that all distances are computed from. -/
structure BackupView where
  backup : List (Nat × Nat)
  cells : List Cell
  deriving DecidableEq, Repr

/-- How a percentage of the policy decision shows in its register (R439 states no rounding). -/
inductive Rounding where
  | down | up
  deriving DecidableEq, Repr

/-- What the preamp answers on the serial port (R289, R291): the data bits and the CRC byte of each of the two possible reads. -/
structure PspAnswer where
  data : Nat
  crc : Nat
  data2 : Nat
  crc2 : Nat
  deriving DecidableEq, Repr

/-- What the demodulator read at a wedge (R378 to R383): the servo cell at which it met the SAM, if any, the bits of the WEDGE, TRACK
and RRO fields, parity bits and all, and the burst correlations. -/
structure Demod where
  sam : Option Nat
  wedge : Nat
  track : Nat
  n : Int
  q : Int
  rro : Nat
  deriving DecidableEq, Repr

/-- What comes with a servo sample: V12 in mV (R346), the accelerometer conversions since the last sample of any lane
(R347), the wedge interval in units of 2.5 ns, whether the position came before the previous sample was finished (R333),
how many sectors of the write step are wholly written, and the voltage floor of R124. -/
structure SampleEnv where
  v12 : Nat
  acc : List (Int × Int)
  period : Nat
  late : Bool
  written : Nat
  floor : Nat
  deriving DecidableEq, Repr

/-- A SPIN_SAMPLE payload (R409) with the REF25_IN time of the frame's start in 5 ns units. -/
structure SpinFrame where
  iPh : Int
  bemf : Int
  zc : Bool
  zcAge : Nat
  time : Nat
  deriving DecidableEq, Repr

/-- A STATUS payload (R409). -/
structure MotorStatus where
  fault : Nat
  addr : Nat
  data : Nat
  vm : Nat
  deriving DecidableEq, Repr

/-- What a Kiln conversion measures (R626): a diode's ΔV in µV, a thermistor's ratio x in millionths, or an on-die
sensor's temperature in 0.1 °C. -/
inductive Conversion where
  | diode (uv : Int)
  | ntc (ppm : Int)
  | onDie (t : Int)
  deriving DecidableEq, Repr
/-- What the page code made of a page (R453): corrected, with the chips its symbols name and the chip and line on which an
error recurred after the scrub; rebuilt, naming one chip; or uncorrectable. -/
inductive PageResult where
  | corrected (chips : List Nat) (recurs : Option (Nat × Nat))
  | rebuilt (chip line : Nat)
  | uncorrectable
  deriving DecidableEq, Repr

/-- How the transfer of a command's data over the host interface goes (R537, R550, R611): done, an error response from host
memory, a bad PRP list, a bad SGL, or an interface CRC error on a data FIS. -/
inductive Xfer where
  | ok | hostError | badPrp | badSgl | crcError
  deriving DecidableEq, Repr

/-- What the buffer reports of a command's or destage's accesses: the blocks whose page reads as poisoned (R465), the
lines recovered by replay (R451) and the whole pages verified in shard mode (R457). -/
structure BufAccess where
  poisoned : List Nat
  replays : Nat
  verified : Nat
  deriving DecidableEq, Repr

/-- A block as the host sends it: 4,096 bytes (512 in 512e) and its 8 bytes of metadata, where it has any. -/
structure HostBlock where
  data : List Byte
  tag : List Byte
  deriving DecidableEq, Repr

/-- A 64-byte submission queue entry (R523): opcode, PSDT, command identifier, NSID, the first data pointer, and dwords
10 to 15. -/
structure SqEntry where
  opcode : Nat
  psdt : Nat
  cid : Nat
  nsid : Nat
  ptr : Nat
  cdw : List Nat
  deriving DecidableEq, Repr

/-- A register host-to-device FIS with the opcode of its row: FEATURES, LBA, COUNT and, for a queued command, its tag
and FUA. -/
structure AtaFis where
  features : Nat
  lba : Nat
  count : Nat
  tag : Nat
  fua : Bool
  deriving DecidableEq, Repr

/-- A PCIe configuration request (R97, R516): a read or write of a dword of the type 0 header, or a write of the MSI-X
Message Control (enable, Function Mask), of ASPM Control in Link Control (L1), or of the power state (D3hot); and, since no row of the table has them, a dword read or write of BAR0
(log entry 169). -/
inductive CfgRequest where
  | read (dw : Nat)
  | write (dw value : Nat)
  | msix (enable mask : Bool)
  | aspm (l1 : Bool)
  | power (d3hot : Bool)
  | barRead (off : Nat)
  | barWrite (off value : Nat)
  deriving DecidableEq, Repr


/-- What meets a block-mover descriptor while it moves (R500, R501, R504): the first source beat of 16 bytes answered with an
error, the first destination line answered with an error (the line after the data is the CRC block), how many lines had been
moved where an ABORT stopped it (none: the last line had been read), and how many lines were recovered by replay (R451). -/
structure MoveEnv where
  srcError : Option Nat
  dstError : Option Nat
  stopped : Option Nat
  replays : Nat
  deriving DecidableEq, Repr

/-- The commands: each row of spec/opcode_table.json, in its order. -/
inductive Instr where
  /-- POR_N_FALL (R58). POR_N falls and every output enters its reset state, acting directly on the pad drivers. -/
  | porNFall
  /-- POR_N_RISE (R70). POR_N rises: the straps are captured and the boot sequence starts from the FUSE stage. -/
  | porNRise (straps : Straps)
  /-- FUSE_STAGE_END (R97). The fuse read ends, XSPI_RESET_N is released and PCIe configuration requests are answered from then on. -/
  | fuseStageEnd (eccOk : Bool)
  /-- PROBE_STAGE_END (R73). SFDP is read, 8D-8D-8D entry is attempted or SLOW_FLASH is set, and the flash layout is computed. -/
  | probeStageEnd (r : ProbeResult)
  /-- SLOT_VERIFICATION_PASS (R92). One candidate slot has been read and checked: it is committed, or it is marked invalid and the next candidate is tried or hold is entered. -/
  | slotVerificationPass (readError : Bool)
  /-- LOCK_STAGE_END (R98). Fuse requests are applied, Mend and the match registers are loaded, LOCKED is set and the Lookout self-test runs. -/
  | lockStageEnd (burnFails : List Nat) (selfTestFails : List Nat)
  /-- DDR5_TRAINING_END (R444). DDR5 training ends on every chip, giving hold with DDR_TRAINING or degraded shard mode under R445. -/
  | ddr5TrainingEnd (fails : List (Nat × Nat)) (found : Nat × Nat × Nat) (checkFail : Bool)
  /-- MARCH_C_END (R473). The March C- test ends, the faulty pages are retired under R471 and BUF_MARCH_FAULTS is raised. -/
  | marchCEnd (faults : List Nat)
  /-- BUFFER_FILL_END (R449). The background zero fill of every page reaches the top and FILL_DONE is set. -/
  | bufferFillEnd
  /-- BULK_STAGE_END (R100). The Bulk sections have been read and checked against DIGEST, and CSTS.RDY or the SATA signature may follow. -/
  | bulkStageEnd (readError : Bool)
  /-- STAGE_TIMEOUT (R103). A boot stage limit from FUSE to BULK expires and the device enters hold with STAGE_TIMEOUT. -/
  | stageTimeout
  /-- SERVO_LOCK (R108). A lane completes its servo lock or fails with SERVO_FAIL within its limit in the SERVO stage. -/
  | servoLock (n : Lane) (locked : Bool) (profile : PspAnswer)
  /-- SYSTEM_AREA_READ_END (R237). A lane ends its system area read, applying matching refinement records, or it fails with SYSTEM_AREA_FAIL. -/
  | systemAreaReadEnd (n : Lane) (ok : Bool)
  /-- CRYSTAL_STOPPED (R119). No crystal edge arrives for 4 ms of Lookout time, so operating time and the Kiln scan switch to Lookout's oscillator. -/
  | crystalStopped
  /-- CRYSTAL_EDGE_RETURN (R119). The first returning crystal edge puts operating time and the scan back on the crystal. -/
  | crystalEdgeReturn
  /-- ADDRESS_MARK_MISSED (R122). A servo address mark is not found in its window, the synthesizer coasts, and a third miss declares loss of media time. -/
  | addressMarkMissed (n : Lane)
  /-- READ_FIFO_OVERFLOW (R124). A lane's read FIFO overflows, the sector fails with CHANNEL_OVERRUN and PWR raises its voltage request. -/
  | readFifoOverflow (n : Lane) (index : Nat) (floor : Nat)
  /-- WRITE_FIFO_UNDERRUN (R125). A lane's write FIFO underruns, FMT drops Ln_WGATE before the cell it cannot supply and PWR raises its request. -/
  | writeFifoUnderrun (n : Lane) (index : Nat) (floor : Nat)
  /-- GATE_IDLE_EXPIRY (R126). A block has had no pending handshake for IDLE_US and removes its own power. -/
  | gateIdleExpiry (b : GateBlock)
  /-- BLOCK_WAKE (R126). A handshake or register access reaches a gated block, which wakes and then completes it. -/
  | blockWake (b : GateBlock)
  /-- AVS_STEP_UP (R130). A backlog above half its depth for 10 µs makes PWR request one VDD_CORE step up. -/
  | avsStepUp (floor : Nat)
  /-- AVS_STEP_DOWN (R130). Every backlog below a quarter of its depth for 1 ms makes PWR request one step down, never below the floor. -/
  | avsStepDown (floor : Nat)
  /-- AVS_NO_RESPONSE (R132). The regulator does not acknowledge within 100 µs, so PWR retries and after three failures sets NO_RESPONSE. -/
  | avsNoResponse
  /-- NEXT (R149). A control word with SEQ NEXT executes and continues at PC+1. -/
  | next (q : SeqIx) (f : Fetch)
  /-- JUMP (R146). A control word with SEQ JUMP executes and continues at TARGET. -/
  | jump (q : SeqIx) (f : Fetch)
  /-- JT (R146). A control word with SEQ JT executes and continues at TARGET if COND holds. -/
  | jt (q : SeqIx) (f : Fetch)
  /-- JF (R146). A control word with SEQ JF executes and continues at TARGET if COND does not hold. -/
  | jf (q : SeqIx) (f : Fetch)
  /-- CALL (R146). A control word with SEQ CALL executes, pushes PC+1 and continues at TARGET. -/
  | call (q : SeqIx) (f : Fetch)
  /-- RET (R146). A control word with SEQ RET executes and continues at the popped return address. -/
  | ret (q : SeqIx) (f : Fetch)
  /-- LOOP (R146). A control word with SEQ LOOP decrements LC and branches to TARGET while LC is non-zero. -/
  | loop (q : SeqIx) (f : Fetch)
  /-- WAIT (R202). A WAIT pops one item from the sequencer's event queue into G29 to G31, stalling while the queue is empty. -/
  | wait (q : SeqIx) (f : Fetch)
  /-- RETD (R146). A control word with SEQ RETD returns from the dispatcher and clears IN_DISP. -/
  | retd (q : SeqIx) (f : Fetch)
  /-- RETP (R162). A RETP returns from a privileged handler, popping the address and restoring the previous rank. -/
  | retp (q : SeqIx) (f : Fetch)
  /-- SEQ_RESTART_RESUME (R166). A faulted sequencer restores its checkpoint and resumes at the recorded address. -/
  | seqRestartResume (q : SeqIx)
  /-- WATCHDOG_TRIP (R164). The 4,096th instruction after a safe point is not a safe point, so the watchdog trips and a fault follows. -/
  | watchdogTrip (q : SeqIx)
  /-- PRIVILEGED_SOURCE_ASSERT (R163). A privileged source asserts for a lane sequencer: its latch is set, or the assertion is lost and PRIV_LOST is raised. -/
  | privilegedSourceAssert (n : Lane) (src : PrivSource)
  /-- EVENT_RAISE (R184). An event is raised and delivered by its routing word to Cairn, the alert, a queue, MSI-X or a block-mover trigger. -/
  | eventRaise (id : Fin 2048) (payloads : List Nat)
  /-- TQ_POP_LO_READ (R203). A read of EVT.TQ_POP_LO pops one telemetry item and captures it for TQ_POP_HI. -/
  | tqPopLoRead (r : Requester)
  /-- TQ_POP_TIMEOUT (R203). A telemetry read that found the queue empty returns the empty marker after 10 µs. -/
  | tqPopTimeout (r : Requester)
  /-- Q_STATUS_WRITE (R206). A write clears OVERRUN or LVL_HIT of a queue, arming the level notice if DEPTH is below LEVEL. -/
  | qStatusWrite (r : Requester) (q : QIx) (v : Word)
  /-- MSIX_UNMASK (R191). An MSI-X entry with its pending bit set is unmasked and the held message is sent. -/
  | msixUnmask (p : Port) (vector : Nat) (mask : Bool)
  /-- SECTOR_PREAMBLE_START (R246). A sector's preamble begins and takes a bank slot, cutting the decoding sector with BANK_CUT if all 12 are occupied. -/
  | sectorPreambleStart (n : Lane) (index pba : Nat) (cut : DecodeResult)
  /-- FRAMING_DECISION (R274). The framer decides a sector's framing from the primary and backup marks, or fails it with NO_SYNC. -/
  | framingDecision (n : Lane) (index : Nat) (primary : List (Nat × Nat)) (backup : BackupView)
  /-- SECTOR_DECODE_END (R243). A sector's LDPC decode ends, and the sector is delivered or fails with NOT_CONVERGED or CRC_MISMATCH. -/
  | sectorDecodeEnd (n : Lane) (r : DecodeResult)
  /-- MARGIN_RUN (R251). A write of RUN starts a margin measurement from the next preamble, clearing the results. -/
  | marginRun (n : Lane) (r : Requester) (v : Word)
  /-- MARGIN_ABORT (R252). A write of ABORT stops a margin measurement at once and raises no event. -/
  | marginAbort (n : Lane) (r : Requester)
  /-- WRITE_STEP_START (R385). FMT raises Ln_WGATE for a write step once the engine is in FOLLOW with two good samples, after preheat. -/
  | writeStepStart (n : Lane) (pbas : List Nat)
  /-- PFAULT_N_FALL (R279). Ln_PFAULT_N falls: FMT drops the write gate within 8 cells, signals a write abort and reads FAULT. -/
  | pfaultNFall (n : Lane) (fault : PspAnswer)
  /-- PSP_WRITE_FRAME (R291). A preamp register write frame is sent and verified by a read-back, with one repeat and FMT_PSP_ERROR on a second failure. -/
  | pspWriteFrame (n : Lane) (addr data : Nat) (a : PspAnswer) (retry : PspAnswer)
  /-- PSP_READ_FRAME (R289). A preamp register read frame is sent and its CRC is checked, with one repeat. -/
  | pspReadFrame (n : Lane) (addr : Nat) (a : PspAnswer)
  /-- PSP_ACCESS_GO (R299). A write of GO runs one diagnostic preamp frame, refusing writes to addresses 0x01 to 0x0A. -/
  | pspAccessGo (n : Lane) (r : Requester) (v : Word) (a retry : PspAnswer)
  /-- PARITY_REBUILD (R286). A stale track-parity group is rebuilt after PARITY_REBUILD_MS and its stale bit is cleared if no write intervened. -/
  | parityRebuild (n : Lane) (head track group : Nat)
  /-- STALE_BITMAP_SAVE (R288). Changed stale-bitmap and pending-list pages are written to the system area at least once per second. -/
  | staleBitmapSave
  /-- LADDER_START (R300). Failed sectors of one read step on one track enter a retry ladder and the time budget starts. -/
  | ladderStart (n : Lane)
  /-- LADDER_ATTEMPT (R302). One ladder attempt ends, and its recovered targets are delivered while the next attempt is predicted against the limit. -/
  | ladderAttempt (n : Lane) (us : Nat) (unread : List Nat)
  /-- LADDER_TIME_LIMIT (R311). The command's recovery limit expires during an attempt, which stops at the next sector boundary. -/
  | ladderTimeLimit (n : Lane) (us : Nat)
  /-- IN_PLACE_VERIFY (R321). KS verifies a sector rewritten in place and removes it from the pending list or reallocates it. -/
  | inPlaceVerify (n : Lane) (pba : Nat) (ok : Bool)
  /-- SERVO_SAMPLE (R331). A wedge position is delivered, and the servo engine computes and sends u_vcm and u_ma while Lookout checks the write limits. -/
  | servoSample (n : Lane) (d : Demod) (e : SampleEnv)
  /-- SVE_ARM (R357). A write of ARM, with AUTO 0, asks for a bank swap at the next sample boundary. -/
  | sveArm (n : Lane) (r : Requester)
  /-- TF_OFFSET_WRITE (R348). A write of the track-follow offset applies at the next sample, or is held while Ln_WGATE is high. -/
  | tfOffsetWrite (n : Lane) (r : Requester) (v : Word)
  /-- INJ_RUN (R362). A write of RUN starts test injection at the next sample, or is refused with ERR for a bad sweep. -/
  | injRun (n : Lane) (r : Requester) (v : Word)
  /-- INJ_STOP (R362). A write of STOP ends injection at the next sample boundary and raises SVE_INJ_END. -/
  | injStop (n : Lane) (r : Requester)
  /-- CAP_GO (R363). A write of GO arms a capture, which then waits for its trigger. -/
  | capGo (n : Lane) (r : Requester) (v : Word)
  /-- CAP_ABORT (R363). A write of ABORT ends a capture at once with no event. -/
  | capAbort (n : Lane) (r : Requester)
  /-- SEEK (R387). A SEK seek command is planned as a seven-segment profile, or deferred under the pivot budget. -/
  | seek (n : Lane) (head target : Nat)
  /-- LOAD (R394). A SEK load command drives the heads off the ramp and seeks to TARGET after four valid samples, or is refused. -/
  | load (n : Lane) (head target : Nat)
  /-- PARK (R395). A SEK park command seeks to the ramp-side track and drives onto the ramp at PARK_VEL. -/
  | park (n : Lane)
  /-- LOAD_TIMEOUT (R394). LOAD_TIMEOUT_MS passes before the load completes, so SEK parks and raises SEK_LOAD_FAIL. -/
  | loadTimeout (n : Lane)
  /-- PARK_LOW_VELOCITY (R395). The back-EMF velocity stays below PARK_VEL/16 for 2 ms and SEK holds RETRACT_CURRENT for LATCH_MS. -/
  | parkLowVelocity (n : Lane)
  /-- LATCH_END (R395). LATCH_MS ends, the current is removed and SEK_PARKED is raised. -/
  | latchEnd (n : Lane)
  /-- RETRACT_DRIVE_END (R396). RETRACT_MS passes and SEK holds RETRACT_CURRENT for LATCH_MS. -/
  | retractDriveEnd (n : Lane)
  /-- SYNC_FRAME (R407). A Motor Link SYNC frame is received and counted toward alignment. -/
  | syncFrame
  /-- SPIN_SAMPLE (R409). A SPIN_SAMPLE uplink frame delivers phase current, back-EMF and zero crossing data. -/
  | spinSample (f : SpinFrame)
  /-- ACT_SAMPLE (R409). An ACT_SAMPLE uplink frame delivers a lane's coil current and velocity, which Lookout checks for runaway. -/
  | actSample (n : Lane) (iCoil vel : Int)
  /-- STATUS_FRAME (R409). A STATUS uplink frame delivers FAULT, register read data and VM. -/
  | statusFrame (m : MotorStatus)
  /-- UPLINK_FRAME_DISCARD (R411). An uplink frame with a CRC or SEQ error is discarded, and three in a row take the link down. -/
  | uplinkFrameDiscard (crcError : Bool) (slot : Nat)
  /-- UPLINK_NO_CLOCK (R411). 1 µs passes without an ML_RXCLK edge, so the link is down and SAFE_STOP_N is asserted. -/
  | uplinkNoClock
  /-- MOTOR_LINK_RECOVERED (R411). The link has been up 10 ms with every lane parked, so SAFE_STOP_N is released and the spindle restarts. -/
  | motorLinkRecovered
  /-- DOWNLINK_FRAME_SLOT (R410). Wheel fills the next downlink slot by priority with SPIN, ACT, REG_WR or REG_RD. -/
  | downlinkFrameSlot (v12 : Nat)
  /-- REG_ACCESS_GO (R441). A write of GO sends one diagnostic REG_WR or REG_RD to the motor power device. -/
  | regAccessGo (r : Requester) (v : Word)
  /-- MOTOR_FAULT_N_FALL (R414). MOTOR_FAULT_N falls, WHL_MOTOR_FAULT is raised and the bridge is set OFF for serious faults. -/
  | motorFaultNFall (fault vm : Nat)
  /-- MOTOR_FAULT_CLEAR (R414). MOTOR_FAULT_N has been high for 100 ms and Wheel restarts the spindle. -/
  | motorFaultClear
  /-- SENSE_END (R416). The 20 ms sense phase ends without a catch, and the start waits for rest or goes to alignment. -/
  | senseEnd
  /-- ALIGN_END (R416). ALIGN_MS ends and the open-loop ramp begins. -/
  | alignEnd (time : Nat)
  /-- RAMP_END (R416). The open-loop ramp and its 500 ms hold end without a hand-off, so the attempt fails. -/
  | rampEnd
  /-- COMMUTATION_STEP (R418). Wheel advances one commutation step and runs the speed estimate, the speed loop and the band decision. -/
  | commutationStep (time : Nat)
  /-- ZERO_CROSSING_MISSING (R418). A crossing is missing for 1.5 intervals and is replaced, and three in a row restart the spindle. -/
  | zeroCrossingMissing (time : Nat)
  /-- SPINUP_TIMEOUT (R417). SPINUP_S passes since the first attempt and the start fails with START_FAILED. -/
  | spinupTimeout
  /-- SPIN_POLICY_DECISION (R429). KS decides the policy target P every WIN_SHORT_MS from the busy fractions. -/
  | spinPolicyDecision (us ul : Rounding)
  /-- WHL_OVERRIDE_WRITE (R438). A write to WHL.OVERRIDE stores EN and RPM together or neither, and T follows R430. -/
  | whlOverrideWrite (r : Requester) (v : Word)
  /-- ORDERLY_STOP (R432). Once every used lane is parked, Wheel sets MODE OFF and lets the spindle coast. -/
  | orderlyStop
  /-- SPINDLE_REST (R432). No zero crossing is seen for 1 s, so Wheel sets MODE OFF and raises WHL_STOPPED. -/
  | spindleRest
  /-- RECTIFY_END (R433). Every lane is parked and the Cairn flush is done, so Wheel leaves RECTIFY for MODE OFF. -/
  | rectifyEnd
  /-- CA_PARITY_ALERT (R446). DRAM_ALERT_N reports a CA parity error, the command sequence is repeated and the transient bucket rises. -/
  | caParityAlert
  /-- PAGE_CORRECTION_END (R453). A page with a persistent mismatch has been decoded, then scrubbed, rebuilt or poisoned, and the waiting consumers are served. -/
  | pageCorrectionEnd (page : Nat) (r : PageResult) (byWrite : Bool)
  /-- CHIP_BUCKET_LEAK (R461). CHIP_LEAK_S passes and each chip bucket's LEVEL falls by 1. -/
  | chipBucketLeak
  /-- TRANSIENT_BUCKET_LEAK (R461). TRANS_LEAK_S passes and the transient bucket's LEVEL falls by 1. -/
  | transientBucketLeak
  /-- SHARD_MODE_SWITCH (R455). After a dead-chip declaration, BUF switches the group to shard mode at a line boundary once the read-modify-writes in flight have ended. -/
  | shardModeSwitch
  /-- DEAD_REQ (R477). A write of BUF.DEAD_REQ.GO declares a chip dead or is refused with ERR. -/
  | deadReq (r : Requester) (v : Word)
  /-- RETIRE_REQ (R469). A write of BUF.RETIRE_REQ.GO asks BS to retire a page, or is refused with ERR. -/
  | retireReq (r : Requester) (v : Word)
  /-- PAGE_RETIRE (R468). BS copies a page to its spare, writes the table entry and unlocks the page. -/
  | pageRetire
  /-- PATROL_SCRUB_PASS (R459). A scheduled patrol scrub pass over the buffer starts. -/
  | patrolScrubPass
  /-- BUF_INJECT_ARM (R484). A write of ARM corrupts the next line write to INJECT_ADDR. -/
  | bufInjectArm (r : Requester) (v : Word)
  /-- BMV_KICK (R506). A write of KICK triggers a block-mover channel and sets TRIG_PEND. -/
  | bmvKick (c : ChanIx) (r : Requester)
  /-- BMV_ABORT (R504). A write of ABORT stops the running descriptor at its next line boundary and halts the channel. -/
  | bmvAbort (c : ChanIx) (r : Requester)
  /-- BMV_ENABLE_WRITE (R505). A write of EN starts the ring loop, or stops the channel after its running descriptor. -/
  | bmvEnableWrite (c : ChanIx) (r : Requester) (v : Word)
  /-- BMV_RESUME (R502). A write of 1 to HALTED resumes a halted channel. -/
  | bmvResume (c : ChanIx) (r : Requester)
  /-- BMV_RING_LO_WRITE (R512). A write to CH_RING_LO sets the ring base bits and sets HEAD to 0. -/
  | bmvRingLoWrite (c : ChanIx) (r : Requester) (v : Word)
  /-- BMV_DESCRIPTOR_FETCH (R505). A ring channel reads the descriptor at HEAD, runs it if OWN is 1, and otherwise idles or refetches. -/
  | bmvDescriptorFetch (c : ChanIx) (error : Bool)
  /-- BMV_DESCRIPTOR_COMPLETE (R499). A descriptor completes, writing status, CRC and the control word, raising events and halting on error. -/
  | bmvDescriptorComplete (c : ChanIx) (e : MoveEnv)
  /-- BMV_SHADOW_ARM (R508). A write of SH_CTL.ARM arms the shadow set of a direct-mode channel. -/
  | bmvShadowArm (c : ChanIx) (r : Requester) (v : Word)
  /-- PERST_N_ASSERT (R71). Pp_PERST_N is asserted and the controller's uncompleted commands end without completion. -/
  | perstNAssert (p : Port)
  /-- PERST_N_RELEASE (R97). Pp_PERST_N rises and link training on the port starts. -/
  | perstNRelease (p : Port)
  /-- PCIE_LINK_UP (R516). A port's link trains and HIF_LINK is raised. -/
  | pcieLinkUp (p : Port) (speed width : Nat)
  /-- HOT_RESET (R519). A hot reset resets the controller as for PERST_N. -/
  | hotReset (p : Port)
  /-- LINK_DOWN (R519). A port's link goes down and the controller is reset as for PERST_N. -/
  | linkDown (p : Port)
  /-- FUNCTION_LEVEL_RESET (R519). A function level reset resets the controller as for PERST_N, with the link kept up. -/
  | functionLevelReset (p : Port)
  /-- CC_EN_WRITE (R519). CC.EN is written: going to 1 enables the controller, and falling to 0 deletes its I/O queues and ends their commands. -/
  | ccEnWrite (p : Port) (cc aqa asq acq : Nat)
  /-- CC_SHN_WRITE (R520). CC.SHN is written, the controller stops fetching and destages, and then sets SHST. -/
  | ccShnWrite (p : Port) (shn : Nat)
  /-- NSSR_WRITE (R519). NSSR written with 0x4E56_4D65 resets both controllers and retrains both links. -/
  | nssrWrite (p : Port) (v : Nat)
  /-- SQ_TAIL_DOORBELL (R524). An SQ tail doorbell write updates the tail or is rejected with an Error asynchronous event. -/
  | sqTailDoorbell (p : Port) (q v : Nat)
  /-- CQ_HEAD_DOORBELL (R530). A CQ head doorbell write releases entries, letting held completions post, or it is rejected. -/
  | cqHeadDoorbell (p : Port) (q v : Nat)
  /-- COMMAND_FETCH (R528). A command is fetched in arbitration order, takes a slot and receives its global fetch sequence number. -/
  | commandFetch (p : Port) (e : SqEntry)
  /-- COMPLETION_POST (R529). A committed command's completion entry is posted to its CQ, followed by its MSI-X message. -/
  | completionPost (seq : Nat)
  /-- COALESCING_TIMEOUT (R536). TIME × 100 µs passes since the first coalesced entry and the vector's message is sent. -/
  | coalescingTimeout (p : Port) (vector : Nat)
  /-- DELETE_IO_SUBMISSION_QUEUE (R534). The Delete I/O SQ admin command ends the abortable commands of the SQ and completes after all their entries. -/
  | deleteIoSubmissionQueue (seq : Nat)
  /-- CREATE_IO_SUBMISSION_QUEUE (R523). The Create I/O SQ admin command creates an I/O SQ within the queue limits. -/
  | createIoSubmissionQueue (seq : Nat)
  /-- GET_LOG_PAGE (R545). The Get Log Page admin command returns a supported log page. -/
  | getLogPage (seq : Nat) (x : Xfer)
  /-- DELETE_IO_COMPLETION_QUEUE (R534). The Delete I/O CQ admin command deletes a CQ, or fails if an SQ still maps to it. -/
  | deleteIoCompletionQueue (seq : Nat)
  /-- CREATE_IO_COMPLETION_QUEUE (R535). The Create I/O CQ admin command creates a CQ with interrupt vector IV. -/
  | createIoCompletionQueue (seq : Nat)
  /-- IDENTIFY (R539). The Identify admin command returns controller, namespace or list data for CNS 0x00 to 0x03. -/
  | identify (seq : Nat) (x : Xfer)
  /-- ABORT (R533). The Abort admin command tries to move the named command to ABORTING and reports the result in DW0. -/
  | abort (seq : Nat)
  /-- SET_FEATURES (R543). The Set Features admin command sets a supported feature, destaging when WCE goes to 0. -/
  | setFeatures (seq : Nat) (x : Xfer) (data : List Byte)
  /-- GET_FEATURES (R543). The Get Features admin command returns a feature value. -/
  | getFeatures (seq : Nat) (x : Xfer)
  /-- ASYNCHRONOUS_EVENT_REQUEST (R549). The Asynchronous Event Request admin command is held until an asynchronous event is reported. -/
  | asynchronousEventRequest (seq : Nat)
  /-- FIRMWARE_COMMIT (R76). Firmware Commit fails with Invalid Command Opcode. -/
  | firmwareCommit (seq : Nat)
  /-- FIRMWARE_IMAGE_DOWNLOAD (R76). Firmware Image Download fails with Invalid Command Opcode. -/
  | firmwareImageDownload (seq : Nat)
  /-- DEVICE_SELF_TEST (R591). The Device Self-test admin command starts a short or extended test, or aborts one. -/
  | deviceSelfTest (seq : Nat) (checkFail : Bool)
  /-- NVME_MI_SEND (R541). The NVMe-MI Send admin command carries an NVMe-MI request in band. -/
  | nvmeMiSend (seq : Nat)
  /-- NVME_MI_RECEIVE (R541). The NVMe-MI Receive admin command returns an NVMe-MI response in band. -/
  | nvmeMiReceive (seq : Nat) (x : Xfer)
  /-- FORMAT_NVM (R583). The Format NVM admin command changes the LBA format and erases by SES. -/
  | formatNvm (seq : Nat)
  /-- SANITIZE (R585). The Sanitize admin command starts an overwrite or crypto erase, or exits failure mode. -/
  | sanitize (seq : Nat)
  /-- RETIRE_BUFFER_PAGE (R551). Vendor admin command 0xC0 acts as a write of BUF.RETIRE_REQ. -/
  | retireBufferPage (seq : Nat)
  /-- DECLARE_BUFFER_CHIP_DEAD (R551). Vendor admin command 0xC4 acts as a write of BUF.DEAD_REQ. -/
  | declareBufferChipDead (seq : Nat)
  /-- CAIRN_CLEAR (R692). Vendor admin command 0xC1 delivers a clear token, which Cairn accepts or rejects with 0xC5. -/
  | cairnClear (seq : Nat) (x : Xfer) (token : List Byte)
  /-- FLUSH (R565). The Flush I/O command completes when every block of earlier-completed writes is on media. -/
  | flush (seq : Nat)
  /-- WRITE (R557). The Write I/O command pulls data into the buffer and commits it under the overlap rules. -/
  | write (seq : Nat) (blocks : List HostBlock) (x : Xfer)
  /-- READ (R20). The Read I/O command resolves its blocks from the cache or media and transfers them. -/
  | read (seq : Nat) (x : Xfer) (b : BufAccess)
  /-- WRITE_UNCORRECTABLE (R563). The Write Uncorrectable I/O command adds its range to the uncorrectable list. -/
  | writeUncorrectable (seq : Nat)
  /-- WRITE_ZEROES (R562). The Write Zeroes I/O command commits a zero extent. -/
  | writeZeroes (seq : Nat)
  /-- VERIFY (R561). The Verify I/O command checks each block as a read would and transfers nothing. -/
  | verify (seq : Nat) (b : BufAccess)
  /-- RESERVATION_REGISTER (R579). The Reservation Register I/O command registers, unregisters or replaces a key. -/
  | reservationRegister (seq : Nat) (x : Xfer) (data : List Byte)
  /-- RESERVATION_REPORT (R579). The Reservation Report I/O command returns the reservation state. -/
  | reservationReport (seq : Nat) (x : Xfer)
  /-- RESERVATION_ACQUIRE (R580). The Reservation Acquire I/O command acquires or preempts a reservation in fetch order. -/
  | reservationAcquire (seq : Nat) (x : Xfer) (data : List Byte)
  /-- RESERVATION_RELEASE (R580). The Reservation Release I/O command releases or clears a reservation. -/
  | reservationRelease (seq : Nat) (x : Xfer) (data : List Byte)
  /-- WRITE_COMMIT (R557). A write's data is in the buffer and every earlier overlapping write has committed, so CACHE inserts its extents in one step. -/
  | writeCommit (seq : Nat)
  /-- READ_RESOLVE (R559). Every earlier overlapping write has committed or ended, so a read pins its extents and issues media operations. -/
  | readResolve (seq : Nat) (b : BufAccess)
  /-- DESTAGE (R570). BS chooses dirty extents by the destage policy and hands them to the lane schedulers. -/
  | destage (blocks : List (Nat × Nat)) (idle10 : Bool) (b : BufAccess)
  /-- IDLE_DESTAGE_TIMEOUT (R570). The host has been idle for IDLE_DESTAGE_MS and every dirty extent is destaged. -/
  | idleDestageTimeout (b : BufAccess)
  /-- MEDIA_OPERATION_END (R571). A lane finishes a media operation and its scheduler chooses the next one. -/
  | mediaOperationEnd (n : Lane) (gaveUp : Bool)
  /-- PROGRESS_RECORD (R589). KS writes a Format or Sanitize progress record every 30 s, at each pass end and at the end. -/
  | progressRecord (done : List Nat)
  /-- SELF_TEST_RESUME (R592). No host command has been pending on a lane for 100 ms and the self-test resumes there. -/
  | selfTestResume (n : Lane)
  /-- RECALIBRATION (R170). CAL_INTERVAL_H passes or the temperature moves by CAL_TEMP_DELTA, and KS recalibrates a head. -/
  | recalibration (n : Lane) (head : Nat) (values : List (Nat × Nat × Nat))
  /-- COMRESET (R607). A COMRESET ends the running commands without completion and the SATA device answers. -/
  | comreset
  /-- SOFTWARE_RESET (R607). An ATA software reset ends the running commands without completion. -/
  | softwareReset
  /-- READ_SECTORS (R608). ATA READ SECTOR(S) (0x20) reads by PIO. -/
  | readSectors (f : AtaFis) (x : Xfer) (b : BufAccess)
  /-- READ_SECTORS_EXT (R608). ATA READ SECTOR(S) EXT (0x24) reads by PIO with 48-bit LBA. -/
  | readSectorsExt (f : AtaFis) (x : Xfer) (b : BufAccess)
  /-- READ_DMA_EXT (R608). ATA READ DMA EXT (0x25) reads by DMA with 48-bit LBA. -/
  | readDmaExt (f : AtaFis) (x : Xfer) (b : BufAccess)
  /-- READ_DMA (R608). ATA READ DMA (0xC8) reads by DMA. -/
  | readDma (f : AtaFis) (x : Xfer) (b : BufAccess)
  /-- WRITE_SECTORS (R608). ATA WRITE SECTOR(S) (0x30) writes by PIO. -/
  | writeSectors (f : AtaFis) (data : List HostBlock) (x : Xfer)
  /-- WRITE_SECTORS_EXT (R608). ATA WRITE SECTOR(S) EXT (0x34) writes by PIO with 48-bit LBA. -/
  | writeSectorsExt (f : AtaFis) (data : List HostBlock) (x : Xfer)
  /-- WRITE_DMA_EXT (R608). ATA WRITE DMA EXT (0x35) writes by DMA with 48-bit LBA. -/
  | writeDmaExt (f : AtaFis) (data : List HostBlock) (x : Xfer)
  /-- WRITE_DMA (R608). ATA WRITE DMA (0xCA) writes by DMA. -/
  | writeDma (f : AtaFis) (data : List HostBlock) (x : Xfer)
  /-- WRITE_DMA_FUA_EXT (R608). ATA WRITE DMA FUA EXT (0x3D) writes and completes only when the data is on media. -/
  | writeDmaFuaExt (f : AtaFis) (data : List HostBlock) (x : Xfer)
  /-- READ_VERIFY_SECTORS (R608). ATA READ VERIFY SECTOR(S) (0x40) verifies without transfer. -/
  | readVerifySectors (f : AtaFis) (b : BufAccess)
  /-- READ_VERIFY_SECTORS_EXT (R608). ATA READ VERIFY SECTOR(S) EXT (0x42) verifies without transfer. -/
  | readVerifySectorsExt (f : AtaFis) (b : BufAccess)
  /-- WRITE_UNCORRECTABLE_EXT (R608). ATA WRITE UNCORRECTABLE EXT (0x45) marks sectors uncorrectable. -/
  | writeUncorrectableExt (f : AtaFis)
  /-- READ_FPDMA_QUEUED (R610). ATA READ FPDMA QUEUED (0x60) is a queued read completed through Set Device Bits. -/
  | readFpdmaQueued (f : AtaFis) (x : Xfer) (b : BufAccess)
  /-- WRITE_FPDMA_QUEUED (R610). ATA WRITE FPDMA QUEUED (0x61) is a queued write completed through Set Device Bits. -/
  | writeFpdmaQueued (f : AtaFis) (data : List HostBlock) (x : Xfer)
  /-- READ_LOG_EXT (R608). ATA READ LOG EXT (0x2F) returns a supported log by PIO. -/
  | readLogExt (f : AtaFis) (x : Xfer)
  /-- READ_LOG_DMA_EXT (R608). ATA READ LOG DMA EXT (0x47) returns a supported log by DMA. -/
  | readLogDmaExt (f : AtaFis) (x : Xfer)
  /-- WRITE_LOG_EXT (R608). ATA WRITE LOG EXT (0x3F) writes a log, such as SCT command transport, by PIO. -/
  | writeLogExt (f : AtaFis) (data : List Byte) (x : Xfer)
  /-- WRITE_LOG_DMA_EXT (R608). ATA WRITE LOG DMA EXT (0x57) writes a log by DMA. -/
  | writeLogDmaExt (f : AtaFis) (data : List Byte) (x : Xfer)
  /-- EXECUTE_DEVICE_DIAGNOSTIC (R608). ATA EXECUTE DEVICE DIAGNOSTIC (0x90) runs the device diagnostic. -/
  | executeDeviceDiagnostic
  /-- SMART_READ_DATA (R615). SMART subcommand 0xD0 returns the 512-byte SMART data structure. -/
  | smartReadData (f : AtaFis) (x : Xfer)
  /-- SMART_READ_THRESHOLDS (R615). SMART subcommand 0xD1 returns the attribute thresholds. -/
  | smartReadThresholds (f : AtaFis) (x : Xfer)
  /-- SMART_ATTRIBUTE_AUTOSAVE (R608). SMART subcommand 0xD2 enables or disables attribute autosave. -/
  | smartAttributeAutosave (f : AtaFis)
  /-- SMART_EXECUTE_OFF_LINE_IMMEDIATE (R617). SMART subcommand 0xD4 runs, in captive or off-line mode, or aborts a device self-test. -/
  | smartExecuteOffLineImmediate (f : AtaFis) (checkFail : Bool)
  /-- SMART_READ_LOG (R608). SMART subcommand 0xD5 reads a SMART log. -/
  | smartReadLog (f : AtaFis) (x : Xfer)
  /-- SMART_WRITE_LOG (R608). SMART subcommand 0xD6 writes a SMART log. -/
  | smartWriteLog (f : AtaFis) (data : List Byte) (x : Xfer)
  /-- SMART_ENABLE_OPERATIONS (R608). SMART subcommand 0xD8 enables SMART. -/
  | smartEnableOperations (f : AtaFis)
  /-- SMART_DISABLE_OPERATIONS (R608). SMART subcommand 0xD9 disables SMART. -/
  | smartDisableOperations (f : AtaFis)
  /-- SMART_RETURN_STATUS (R616). SMART subcommand 0xDA reports whether any limit attribute threshold is exceeded. -/
  | smartReturnStatus (f : AtaFis)
  /-- STANDBY_IMMEDIATE (R608). ATA STANDBY IMMEDIATE destages, parks lane 0 and stops the spindle. -/
  | standbyImmediate
  /-- IDLE_IMMEDIATE (R608). ATA IDLE IMMEDIATE enters the idle state. -/
  | idleImmediate
  /-- STANDBY (R608). ATA STANDBY stops the spindle and sets the standby timer. -/
  | standby (count : Nat)
  /-- IDLE (R608). ATA IDLE sets the standby timer. -/
  | idle (count : Nat)
  /-- CHECK_POWER_MODE (R608). ATA CHECK POWER MODE returns 0x00 while the spindle is stopped or starting, and 0xFF otherwise. -/
  | checkPowerMode
  /-- SLEEP (R608). ATA SLEEP enters the sleep state. -/
  | sleep
  /-- STANDBY_TIMER_EXPIRY (R608). The standby timer expires, so the device destages, parks lane 0 and stops the spindle. -/
  | standbyTimerExpiry
  /-- FLUSH_CACHE (R608). ATA FLUSH CACHE (0xE7) completes under R28. -/
  | flushCache
  /-- FLUSH_CACHE_EXT (R608). ATA FLUSH CACHE EXT (0xEA) completes under R28. -/
  | flushCacheExt
  /-- IDENTIFY_DEVICE (R608). ATA IDENTIFY DEVICE returns the DV-40 identify data. -/
  | identifyDevice (x : Xfer)
  /-- SET_FEATURES_ENABLE_WRITE_CACHE (R608). SET FEATURES 0x02 enables the volatile write cache. -/
  | setFeaturesEnableWriteCache
  /-- SET_FEATURES_DISABLE_WRITE_CACHE (R608). SET FEATURES 0x82 destages every dirty extent and disables the write cache. -/
  | setFeaturesDisableWriteCache
  /-- SET_FEATURES_SET_TRANSFER_MODE (R608). SET FEATURES 0x03 sets the transfer mode. -/
  | setFeaturesSetTransferMode (mode : Nat)
  /-- SET_FEATURES_ENABLE_SATA_FEATURE (R608). SET FEATURES 0x10 enables a SATA feature. -/
  | setFeaturesEnableSataFeature (k : Nat)
  /-- SET_FEATURES_DISABLE_SATA_FEATURE (R608). SET FEATURES 0x90 disables a SATA feature. -/
  | setFeaturesDisableSataFeature (k : Nat)
  /-- SET_FEATURES_ENABLE_READ_LOOK_AHEAD (R608). SET FEATURES 0xAA is recorded in IDENTIFY word 85 bit 6 and changes nothing else. -/
  | setFeaturesEnableReadLookAhead
  /-- SET_FEATURES_DISABLE_READ_LOOK_AHEAD (R608). SET FEATURES 0x55 is recorded in IDENTIFY word 85 bit 6 and changes nothing else. -/
  | setFeaturesDisableReadLookAhead
  /-- READ_COUNTERS (R618). DV-40 vendor subcode 0x01 returns the lane 0 health entry. -/
  | readCounters (f : AtaFis) (x : Xfer)
  /-- READ_GROWN_DEFECTS (R618). DV-40 vendor subcode 0x02 returns the grown-defect list. -/
  | readGrownDefects (f : AtaFis) (x : Xfer)
  /-- READ_PENDING (R618). DV-40 vendor subcode 0x03 returns the pending list. -/
  | readPending (f : AtaFis) (x : Xfer)
  /-- SET_SECTOR_FORMAT (R613). DV-40 vendor subcode 0x10 destages, then saves and applies 512e or 4Kn. -/
  | setSectorFormat (f : AtaFis)
  /-- READ_BUFFER_HEALTH (R618). DV-40 vendor subcode 0x80 returns the buffer health log. -/
  | readBufferHealth (f : AtaFis) (x : Xfer)
  /-- DV40_RETIRE_BUFFER_PAGE (R618). DV-40 vendor subcode 0x81 acts as a write of BUF.RETIRE_REQ. -/
  | dv40RetireBufferPage (f : AtaFis)
  /-- DV40_DECLARE_BUFFER_CHIP_DEAD (R618). DV-40 vendor subcode 0x82 acts as a write of BUF.DEAD_REQ. -/
  | dv40DeclareBufferChipDead (f : AtaFis)
  /-- DV40_CAIRN_CLEAR (R691). DV-40 vendor subcode 0x83 delivers a Cairn clear token. -/
  | dv40CairnClear (f : AtaFis) (data : List Byte) (x : Xfer)
  /-- KILN_SCAN_START (R627). A Kiln scan starts every 10 ms of crystal or Lookout time. -/
  | kilnScanStart
  /-- KILN_CONVERSION_END (R627). A channel conversion ends, its reading is checked for faults, the Cones and the write window are tested, and a Cone 3 shutdown may start. -/
  | kilnConversionEnd (c : Fin 12) (m : Conversion)
  /-- SHUTDOWN_TIMEOUT (R638). The orderly stop is not complete SHUTDOWN_TIMEOUT_MS after ORDERLY, so Kiln enters HARD with SAFE_STOP_N. -/
  | shutdownTimeout
  /-- COOLING_HOLD_END (R638). The cooling hold reaches RESTART_HOLD_S and Kiln enters RESTARTING if restarts remain. -/
  | coolingHoldEnd
  /-- WRITE_WAIT_TIMEOUT (R636). A write that needs media waits WRITE_WAIT_MS for the closed window and ends without effect. -/
  | writeWaitTimeout (seq : Nat)
  /-- HANG_TIMEOUT (R655). 200 µs pass without a heartbeat, so the sequencer is hung and its safe state is applied. -/
  | hangTimeout (q : SeqIx)
  /-- RESTART_TIMEOUT (R167). A faulted sequencer has not fetched within 25 µs and Lookout treats it as hung. -/
  | restartTimeout (q : SeqIx)
  /-- WEDGE_TIMEOUT (R656). No servo sample arrives for WEDGE_TIMEOUT_US, so media time is lost and WG_CUT is applied. -/
  | wedgeTimeout (n : Lane)
  /-- RELOCK_TIMEOUT (R656). The synthesizer has not relocked within 100 ms and Lookout applies LANE_RETRACT. -/
  | relockTimeout (n : Lane)
  /-- OVERSPEED_CHECK (R653). 100 ms after DEVICE_STOP the period is checked, and SAFE_STOP_N is asserted if it is shorter. -/
  | overspeedCheck
  /-- RUNAWAY_RETRACT_CHECK (R654). RETRACT_MS into a runaway retract the velocity still exceeds RUNAWAY_VEL, so SAFE_STOP_N is asserted. -/
  | runawayRetractCheck (n : Lane)
  /-- SUPPLY_TRIP (R657). A supply comparator trips, so Lookout enters SUPPLY or HARD and rectification and retract begin. -/
  | supplyTrip (rail : Fin 3)
  /-- DIE_OVER_TEMPERATURE (R651). The die comparator trips at 125 °C and Lookout enters HARD. -/
  | dieOverTemperature
  /-- OSC_CALIBRATION (R648). The count of Lookout cycles over 4,096 crystal periods ends and is stored, or an oscillator fault is declared. -/
  | oscCalibration (count : Nat)
  /-- OSC_EDGE_LOSS (R648). No Lookout oscillator edge arrives for two crystal periods and HARD is forced. -/
  | oscEdgeLoss
  /-- SUPPLY_RETURN (R749). Each tripped rail has been good for 100 ms after step 6, so SUPPLY ends and lanes return. -/
  | supplyReturn
  /-- LANE_RETURN (R661). KS reloads a parked lane after a runaway or media-time loss, within RECOVER_MAX. -/
  | laneReturn (n : Lane)
  /-- SF_OVERRUN (R663). A unit has not resumed 30 µs after a non-dangerous fault and LKO_SF_OVERRUN is raised. -/
  | sfOverrun (unit : Nat)
  /-- CAIRN_BOOT_SCAN_END (R685). Cairn's scan of both regions ends, restoring time values, checking the chain and staging CRN_POWER_ON or CRN_LOG_START. -/
  | cairnBootScanEnd (badPrimary badSpare : Bool)
  /-- CAIRN_FLUSH_START (R684). A flush trigger starts programming the staged records. -/
  | cairnFlushStart
  /-- CAIRN_RECORD_PROGRAMMED (R681). A record has been programmed and read back, which raises COMMIT_HIGH, or is retried and may switch the region. -/
  | cairnRecordProgrammed (ok : Bool)
  /-- STAGING_AGE_TIMEOUT (R684). The oldest staged record reaches 10 s and a flush starts. -/
  | stagingAgeTimeout
  /-- CRN_FLUSH_GO (R700). A write of CRN.FLUSH.GO starts a flush. -/
  | crnFlushGo (r : Requester)
  /-- CAIRN_CLEAR_ERASE_END (R694). The erase steps of an accepted clear end, the CLEAR record is placed and CLEARING clears. -/
  | cairnClearEraseEnd (primaryOk : Bool)
  /-- OPTIME_SAVE (R677). KS writes operating time and the power-cycle count to the system area every hour of operating time. -/
  | optimeSave
  /-- CHAIN_FRAME_SEND (R703). A unit sends a chain frame on CHN_OUT every 1 ms. -/
  | chainFrameSend
  /-- CHAIN_FRAME_RECEIVED (R704). A valid chain frame arrives on CHN_IN, and a pair of equal values fixes the position. -/
  | chainFrameReceived (v : Nat)
  /-- CHAIN_STEADY_LOW (R704). CHN_IN stays low for 50 ms and the unit takes position 0. -/
  | chainSteadyLow
  /-- CHAIN_ERROR_TIMEOUT (R704). CHN_IN is high for 3 ms, or carries no valid frame for 50 ms, and CHAIN_STATE becomes error. -/
  | chainErrorTimeout
  /-- SET_ENDPOINT_ID (R702). MCTP Set Endpoint ID sets or replaces the endpoint's EID. -/
  | setEndpointId (dest inst eid : Nat)
  /-- GET_ENDPOINT_ID (R702). MCTP Get Endpoint ID returns the EID. -/
  | getEndpointId (dest inst : Nat)
  /-- GET_ENDPOINT_UUID (R702). MCTP Get Endpoint UUID returns the version 8 UUID. -/
  | getEndpointUuid (dest inst : Nat)
  /-- GET_MCTP_VERSION_SUPPORT (R702). MCTP Get MCTP Version Support returns the supported versions. -/
  | getMctpVersionSupport (dest inst ty : Nat)
  /-- GET_MESSAGE_TYPE_SUPPORT (R702). MCTP Get Message Type Support returns the types 0x00 and 0x04. -/
  | getMessageTypeSupport (dest inst : Nat)
  /-- MCTP_MESSAGE_DROP (R702). An MCTP message that fails PEC, its integrity check or reassembly is dropped and counted. -/
  | mctpMessageDrop (reason : Fin 4)
  /-- READ_NVME_MI_DATA_STRUCTURE (R709). NVMe-MI command 0x00 returns an NVMe-MI data structure. -/
  | readNvmeMiDataStructure (dest nmd0 nmd1 : Nat)
  /-- NVM_SUBSYSTEM_HEALTH_STATUS_POLL (R709). NVMe-MI command 0x01 returns subsystem health. -/
  | nvmSubsystemHealthStatusPoll (dest : Nat)
  /-- CONTROLLER_HEALTH_STATUS_POLL (R709). NVMe-MI command 0x02 returns controller health, with CFS in the hold state. -/
  | controllerHealthStatusPoll (dest nmd0 : Nat)
  /-- CONFIGURATION_SET (R709). NVMe-MI command 0x03 sets configuration identifiers 0x01 to 0x03. -/
  | configurationSet (dest nmd0 nmd1 : Nat)
  /-- CONFIGURATION_GET (R709). NVMe-MI command 0x04 returns configuration identifiers 0x01 to 0x03. -/
  | configurationGet (dest nmd0 : Nat)
  /-- MI_RESET (R709). NVMe-MI Reset type 0 acts as NSSR. -/
  | miReset (dest nmd0 : Nat)
  /-- REGISTER_READ (R712). NVMe-MI vendor Register Read returns 1 to 64 registers, subject to the lock and gate. -/
  | registerRead (dest off count : Nat)
  /-- REGISTER_WRITE (R712). NVMe-MI vendor Register Write writes one register if the gate is open, and raises SBD_REG_WRITE. -/
  | registerWrite (dest off : Nat) (v : Word)
  /-- TUNNELLED_ADMIN_COMMAND (R709). An admin command tunnelled over NVMe-MI enters the controller's fetch order, or fails with 0x04. -/
  | tunnelledAdminCommand (dest cntlid : Nat) (e : SqEntry)
  /-- ENTDAA (R701). I3C CCC ENTDAA assigns a dynamic address by arbitration. -/
  | entdaa (a : Nat)
  /-- RSTDAA (R701). I3C CCC RSTDAA resets the dynamic address. -/
  | rstdaa
  /-- SETNEWDA (R701). I3C CCC SETNEWDA changes the dynamic address. -/
  | setnewda (a : Nat)
  /-- GETPID (R708). I3C CCC GETPID returns the PID. -/
  | getpid
  /-- GETBCR (R701). I3C CCC GETBCR returns 0x06. -/
  | getbcr
  /-- GETDCR (R701). I3C CCC GETDCR returns 0x00. -/
  | getdcr
  /-- GETSTATUS (R701). I3C CCC GETSTATUS returns the device status. -/
  | getstatus
  /-- GETMRL (R701). I3C CCC GETMRL returns the maximum read length. -/
  | getmrl
  /-- GETMWL (R701). I3C CCC GETMWL returns the maximum write length. -/
  | getmwl
  /-- SETMRL (R701). I3C CCC SETMRL sets the maximum read length. -/
  | setmrl (v : Nat)
  /-- SETMWL (R701). I3C CCC SETMWL sets the maximum write length. -/
  | setmwl (v : Nat)
  /-- ENEC (R701). I3C CCC ENEC enables events. -/
  | enec (events : Nat)
  /-- DISEC (R701). I3C CCC DISEC disables events. -/
  | disec (events : Nat)
  /-- ARP_ASSIGN_ADDRESS (R707). SMBus ARP assigns an address to the unit by its UDID. -/
  | arpAssignAddress (udid : List Byte) (a : Nat)
  /-- ALERT_RESPONSE_ADDRESS_READ (R711). An Alert Response Address read won by the unit returns its address and releases ALERT_N. -/
  | alertResponseAddressRead
  /-- IBI_ACKNOWLEDGE (R711). An acknowledged I3C in-band interrupt releases ALERT_N. -/
  | ibiAcknowledge
  /-- SBD_GATE_WRITE (R716). A BAR2 write to SBD.GATE opens or closes sideband register access and raises SBD_GATE. -/
  | sbdGateWrite (p : Port) (v : Word)
  /-- GATE_TIMEOUT (R716). TIMEOUT_S passes without a sideband register command and OPEN clears. -/
  | gateTimeout
  /-- HOST_LINK_LOSS (R713). Every trained host link is lost without shutdown, so the PX84 sets HOST_LINK_LOST and destages. -/
  | hostLinkLoss
  /-- HOST_LINK_LOSS_TIMEOUT (R713). No link returns within 10 s and every lane is parked with an orderly stop. -/
  | hostLinkLossTimeout
  /-- ABSENT_ACCESS (R38). An access to an absent unit reads 0, increments ABSENT_CNT and raises event 0x00F. -/
  | absentAccess (r : Requester) (off : Nat) (write : Bool) (v : Word)
  /-- PARTIAL_WRITE (R718). A BAR2 write with some but not all bytes of a dword enabled is ignored and raises 0x00E. -/
  | partialWrite (p : Port) (off : Nat)
  /-- BOUNDARY_CROSSING_REQUEST (R718). A BAR2 request that crosses a 64-byte boundary is completed with Completer Abort. -/
  | boundaryCrossingRequest (p : Port)
  /-- ATOMICOP_REQUEST (R718). A BAR2 AtomicOp request is completed with Unsupported Request. -/
  | atomicopRequest (p : Port)
  /-- LO_REGISTER_READ (R12). A read of the lower register of a wide pair captures the whole value for the higher register. -/
  | loRegisterRead (r : Requester) (off : Nat)
  /-- ABSENT_CNT_READ (R40). A read of GLB.ABSENT_CNT returns the count and clears it. -/
  | absentCntRead (r : Requester)
  /-- PRIV_LOST_READ (R175). A read of SEQ.PRIV_LOST_n returns all lost-assertion counts and clears them. -/
  | privLostRead (r : Requester) (n : Lane)
  /-- Q_DROPS_READ (R213). A read of EVT.Q_DROPS_q returns the refused-item count and clears it. -/
  | qDropsRead (r : Requester) (q : QIx)
  /-- CHN_COUNTER_READ (R250). A read of a channel or margin counter returns its count and clears it. -/
  | chnCounterRead (r : Requester) (n : Lane) (k : Fin 26)
  /-- FMT_COUNTER_READ (R298). A read of a framing counter returns its count and clears it. -/
  | fmtCounterRead (r : Requester) (n : Lane) (k : Fin 4)
  /-- RCV_COUNTER_READ (R325). A read of a recovery counter returns its count and clears it. -/
  | rcvCounterRead (r : Requester) (n : Lane) (k : Fin 18)
  /-- SVE_COUNTER_READ (R372). A read of a servo counter returns its count and clears it. -/
  | sveCounterRead (r : Requester) (n : Lane) (k : Fin 4)
  /-- SEK_COUNTER_READ (R403). A read of a SEK counter returns its count and clears it. -/
  | sekCounterRead (r : Requester) (n : Lane) (k : Fin 5)
  /-- WHL_COUNTER_READ (R440). A read of a Wheel counter returns its count and clears it. -/
  | whlCounterRead (r : Requester) (k : Fin 4)
  /-- BUF_COUNTER_READ (R479). A read of a buffer counter returns its count and clears it. -/
  | bufCounterRead (r : Requester) (k : Fin 7)
  /-- SLOT_PEAK_READ (R554). A read of HIF.SLOT_PEAK returns the peak slot use and clears it. -/
  | slotPeakRead (r : Requester)
  /-- CNT_WG_CUT_READ (R673). A read of LKO.CNT_WG_CUT_n returns the cut count and clears it. -/
  | cntWgCutRead (r : Requester) (n : Lane)
  /-- CNT_MCTP_ERR_READ (R716). A read of SBD.CNT_MCTP_ERR returns the dropped-message count and clears it. -/
  | cntMctpErrRead (r : Requester)
  /-- REGISTER_WINDOW_WRITE (R8). A write to any register without a row of its own takes the effect of its field types, or is ignored under the gate or lock. -/
  | registerWindowWrite (r : Requester) (off : Nat) (v : Word)
  /-- AVS_RESPONSE (R132). The core regulator acknowledges an AVSBus request or returns its Status and readback, ending the wait and updating READBACK. -/
  | avsResponse (readback : Nat)
  /-- CROSSING_QUIET_TIMEOUT (R416). No zero crossing has been seen for 500 ms while Wheel waits for a coasting rotor, so the start proceeds to alignment. -/
  | crossingQuietTimeout
  /-- CAIRN_PROGRAM_TIMEOUT (R686). A Cairn record program times out, so it is programmed once more into the next slot or the region fails. -/
  | cairnProgramTimeout
  /-- SATA_LINK_UP (R623). The SATA link comes up at a generation, raising SATA_LINK and clearing HOST_LINK_LOST under R713. -/
  | sataLinkUp (gen : Nat)
  /-- SATA_LINK_DOWN (R623). The SATA link is lost, clearing HIF.SATA.LINK_UP and raising SATA_LINK with payload 0. -/
  | sataLinkDown
  /-- L1_ENTRY (R518). A port enters ASPM L1 or L1.1/L1.2, releasing Pp_CLKREQ_N in the substates and allowing the HIF core to gate. -/
  | l1Entry (p : Port) (substate : Bool)
  /-- L1_EXIT (R518). A port leaves L1 for L0, driving Pp_CLKREQ_N low again and keeping its HIF core from gating. -/
  | l1Exit (p : Port)
  /-- CONFIGURATION_REQUEST (R97). A PCIe configuration request is answered from fuse data, and a write changes configuration space such as MSI-X enable or ASPM control. -/
  | configurationRequest (p : Port) (r : CfgRequest)
  /-- SCL_LOW_TIMEOUT (R740). SCL has been low for 25 ms, so the PX84 releases the SMBus as the SMBus timeout requires. -/
  | sclLowTimeout
  /-- SUPPLY_DOMAIN_IN_RANGE (R44). A supply domain comes within range while POR_N is low, so its outputs take their reset states, and for VDDIO_18 the crystal and Lookout oscillators and comparators start. -/
  | supplyDomainInRange (d : Domain)
  deriving DecidableEq, Repr

end Sys2Proof
end

