-- ==== Sys2Proof/Config.lean ====
section
/-! DEFINITION. What the manual leaves open as a value, as opaque constants without a body: free values drawn one
after another (applied to the state's counter), and the cryptographic functions whose standards lie outside the
spec (SHAKE256, SLH-DSA verification, the log's keyed chain, the drive's keys). Nothing can evaluate them, so a
statement about them holds for every function. -/

namespace Sys2Proof.Config

/-- The `k`-th value the manual leaves open (log entry 1): the machine applies it to `State.free` and advances the
counter. -/
opaque freeValue : Nat → BitVec 64

/-- SHAKE256 with an output of the given number of bytes (R78, R89; FIPS 202 is not part of the spec). -/
opaque shake256 : List Byte → Nat → List Byte

/-- SLH-DSA-SHAKE-256s verification of public key, message and signature (R89; FIPS 205 is not part of the spec). -/
opaque slhDsaVerify : List Byte → List Byte → List Byte → Bool

/-- The 256-bit log key of Cairn (R676), derived from fuses; no register shows it. -/
opaque logKey : List Byte

/-- AES-256-XTS of the media data path under the key pair with this generation number (R581): the key is never visible. -/
opaque xts : Nat → Nat → List Byte → List Byte

/-- The six phase bits (U, V, W as R408 codes them) of a commutation step 0 to 5: the spec says only that the step names
the floating phase. -/
opaque phaseBits : Nat → BitVec 6

/-- Whether JESD79-5 allows a value at a data rate code in any speed bin, for CL (0), tRCD (1) or tRP (2) in clocks (R443; the
standard is not part of the spec). -/
opaque jedecTiming : Nat → Nat → Nat → Bool

/-- What an instruction code of the test access port selects: 1 SAMPLE, 2 EXTEST, else BYPASS (R56: the BSDL file gives the codes). -/
opaque tapCode : List Bool → BitVec 2

/-- What the instruction register of the test access port captures (R56: the BSDL file gives it). -/
opaque tapIrCapture : List Bool

/-- Tap `j` of phase `p` of the fractional delay filter, Q1.15 (R219: 64 phases, 8 taps, without their values). -/
opaque delayTap : Nat → Nat → BitVec 16

/-- Tap `j` of the timing interpolator at a fraction `p` of 64ths of a cell, Q1.15 (R215, R261: the filter is not given). -/
opaque interpTap : Nat → Nat → BitVec 16

/-- The unit of the timing error τ (R225), in 2^-64 cells: the manual gives none. -/
opaque timingScale : BitVec 64

/-- What one LLR step is worth in the detector's metric, in 2^-32 LSB² (R240: the manual gives no scale). -/
opaque llrUnit : BitVec 64

/-- Byte `k` of the PX84 LDPC exponent table, a data file that is not part of the spec (R242): a shift of 0 to 31, or 0xFF for an all-zero
block; any other value stands for 0xFF. -/
opaque ldpcExponent : Nat → BitVec 8

/-- Whether a loop value that lies between two steps of the register that shows it is shown as the upper one (R259 to R262: no rounding is
given). -/
opaque roundUp : Rat → Bool

end Sys2Proof.Config
end

