-- ==== Sys2Proof/Machine/State.lean ====
section
/-! DEFINITION. The state of the PX84 as plain data: every register, buffer, queue, counter, mode and pin the spec gives
it, the queue of waiting commands, and the state after reset. -/

namespace Sys2Proof.Machine

/-- A track-parity group: global head, track and group number (R282). -/
abbrev GroupId := Nat × Nat × Nat

/-! ## Pins, fuses, flash -/

/-- One fuse key slot (R88): `hash` is the 32-byte SHAKE256 hash of its public key. -/
structure KeySlot where
  hash : Vector Byte 32
  programmed : Bool
  revoked : Bool
  eccFail : Bool
  deriving DecidableEq, Repr

/-- The fuses of the die (R1, R2, R88). -/
structure Fuses where
  variant : Variant
  gradeX : Bool
  keys : Vector KeySlot 3
  signedOnly : Bool
  deriving DecidableEq, Repr

/-- Who owns a group of output pins (R44): a group leaves its reset state when its owner takes it over. A port's transmit lane 1 and
CLKREQ_N, the second rank's pins and each remote temperature channel are groups of their own, since they stay in their reset state where
they are unused (R65). -/
inductive PinOwner where
  | pcie (p : Port) | pcieNative (p : Port) | ddr | ddrRank1 | lane (n : Lane) | motor | flash | sideband | avs | kiln (i : Fin 8)
  deriving DecidableEq, Repr

/-- The pins of chapter 2 whose level the rules use; the outputs of an owner that is not in `taken` are in the reset
state of the signal tables (R44, R58). -/
structure Pins where
  porN : Bool
  domains : List Domain
  taken : List PinOwner
  xspiResetN : Bool
  safeStopN : Bool
  alertLow : Bool
  chnOut : Bool
  motorFaultN : Bool
  deriving DecidableEq, Repr

/-! ## Test access port -/

/-- The states of the test access port's controller (R56, IEEE 1149.1: log entry 176). -/
inductive TapState where
  | testLogicReset | runTestIdle
  | selectDr | captureDr | shiftDr | exit1Dr | pauseDr | exit2Dr | updateDr
  | selectIr | captureIr | shiftIr | exit1Ir | pauseIr | exit2Ir | updateIr
  deriving DecidableEq, Repr

/-- What the instruction register selects: every other code acts as BYPASS, since all other functions are disabled by fuse on
shipped parts (R56). -/
inductive TapInstr where
  | bypass | sample | extest
  deriving DecidableEq, Repr

/-- The test access port (R56): the controller, the instruction in force, the instruction and data bits in the shift path (next out
first), and the boundary-scan register's update stage, one cell per signal in the order of the signal list. -/
structure Tap where
  state : TapState
  instr : TapInstr
  irShift : List Bool
  drShift : List Bool
  update : List Bool
  deriving DecidableEq, Repr

/-! ## Boot -/

/-- A section table entry (R78). -/
structure SectionEntry where
  ty : Nat
  version : Nat
  critical : Bool
  offset : Nat
  length : Nat
  digest : List Byte
  deriving DecidableEq, Repr

/-- A candidate slot of R92. -/
structure Candidate where
  slotB : Bool
  dv40 : Bool
  seq : Nat
  deriving DecidableEq, Repr

/-- The accepted image: its header facts and its sections' bytes by type (R77, R81); a DV-40 image is held as the
sections its blocks stand for (R601). -/
structure Image where
  dv40 : Bool
  slotB : Bool
  seq : Nat
  keySlot : Nat
  buildId : Nat
  label : List Byte
  entries : List SectionEntry
  sections : Sparse (List Byte)
  deriving DecidableEq, Repr

/-- The boot engine: captured straps, the resolved mode (R60), the candidate list (R92), the density of the
flash (R73), what the flash's SFDP tables gave (R72), whether the LOCK stage has ended (R131) and the accepted image. -/
structure Boot where
  running : Bool
  straps : Straps
  compat : Bool
  octal : Bool
  cands : Option (List Candidate)
  first : Option Candidate
  readRetried : Bool
  density : Nat
  flashCmds : FlashCommands
  lockEnded : Bool
  image : Option Image
  fuseEnded : Bool
  memTrained : Bool
  bulkEnded : Bool
  nsReadyRaised : Bool
  deriving DecidableEq, Repr

/-! ## Power -/

/-- PWR beyond its registers: the AVSBus request being retried (R132) and the stopped crystal (R119). -/
structure Power where
  crystalStopped : Bool
  avsRequest : Option Nat
  avsTries : Nat
  raiseOnly : Bool
  deriving DecidableEq, Repr

/-! ## Sequencers -/

/-- What a checkpoint copies (R142 table): registers, flags, loop counter, stack, address, dispatcher and handler. -/
structure SeqCtx where
  g : Vector Word 32
  z : Bool
  n : Bool
  c : Bool
  v : Bool
  lc : Nat
  stack : List Nat
  pc : Nat
  inDisp : Bool
  rank : Nat
  ranks : List Nat
  deriving DecidableEq, Repr

/-- What a sequencer is doing (R172 STATE; `off` is not started). -/
inductive SeqRun where
  | off | running | stalled | restarting | hung
  deriving DecidableEq, Repr

/-- One 64-bit item of a priority FIFO (R195). -/
structure Item where
  id : Nat
  prio : Nat
  last : Bool
  payload : Nat
  deriving DecidableEq, Repr

/-- One micro-sequencer (R142, R158 to R169): its context, its checkpoint, the privileged latches in rank order, the
instructions since the last safe point, the error flags of COND 0x07 and cause PORT, and the address of the word executed last; the
word of a stalled WAIT (`held`) with the item its queue gave it (R202), whether the last word ended in a dispatch whose boundary is
still open (`fresh`), and how many handler ranks were saved when a dispatch was deferred (R163). -/
structure Seq where
  ctx : SeqCtx
  chk : SeqCtx
  run : SeqRun
  latches : Vector Bool 5
  since : Nat
  lastErr : Bool
  errPending : Option Nat
  lastPc : Nat
  held : Option (BitVec 128)
  item : Option Item
  fresh : Bool
  deferred : Option Nat
  deriving DecidableEq, Repr

/-! ## Event queues -/

/-- A priority ping-pong FIFO (R196): its two banks in push order, which bank drains, the priority of a half-popped
packet (R198 step 2) and the ARMED state (R205). LEVEL, OVERRUN, LVL_HIT and the drop count are window registers. -/
structure Queue where
  fill : List Item
  drain : List Item
  drainBank : Bool
  half : Option Nat
  armed : Bool
  deriving DecidableEq, Repr

/-! ## Cairn -/

/-- A record before it is programmed (R674): CHAIN and CRC are formed when it is written. `seq` 0: not numbered yet. -/
structure Record where
  seq : Nat
  id : Nat
  opTime : Nat
  pcyc : Nat
  hostTs : Nat
  tsValid : Bool
  lkoTime : Bool
  tsSet : Bool
  payload : Nat
  extra : List Byte
  deriving DecidableEq, Repr

/-- Cairn: staging, the log's extent in both regions, the clear in progress (its command, SEQ, key slot and, from step 3, its
record), a spare region that failed at the scan, the slots used that hold no record of the log (spare slots from 16,384 up), and the
time values (R677 to R694). -/
structure Cairn where
  staged : List Record
  nextSeq : Nat
  commit : Nat
  firstSeq : Nat
  breakSeq : Nat
  nonce : Nat
  scanned : Bool
  spare : Bool
  full : Bool
  chainBreak : Bool
  bothFail : Bool
  flushing : Bool
  clearing : Bool
  clearOwner : Option Nat
  clearSeq : Nat
  clearKeySlot : Nat
  clearBytes : List Byte
  badSpare : Bool
  skipped : List Nat
  usedPrimary : Nat
  usedSpare : Nat
  lastBody : List Byte
  retried : Bool
  opTime : Nat
  elapsed : Nat
  pcyc : Nat
  hostTs : Option (Nat × Nat)
  tsSetPending : Bool
  deriving DecidableEq, Repr

/-! ## Lane: read channel, framing and writing, recovery -/

/-- What a sector's loops keep constant from its preamble on (R221 to R228, R238, R273): T, the target coefficients, the step exponents of the
zone entry (fast and slow AGC, fast and slow offset, asymmetry, KP and KI of acquisition and of tracking, equalizer, noise predictor),
LOOP_FREEZE, the reference reader, and SYNC_WIN, SYNC_THRESH and FORCE_BACKUP (R295). -/
structure LoopSetup where
  target : Nat
  g1 : Rat
  g2 : Rat
  agcFast : Nat
  agcSlow : Nat
  ofsFast : Nat
  ofsSlow : Nat
  asymMu : Nat
  acqP : Nat
  acqI : Nat
  trkP : Nat
  trkI : Nat
  eqMu : Nat
  npMu : Nat
  freeze : Nat
  ref : Nat
  win : Nat
  thr : Nat
  force : Bool
  deriving DecidableEq, Repr

/-- One reader's path through a sector: whether it is used (R216), its delay in 1/64 cell (R219), weight (R221), gain in 1/64 dB, offset in
1/16 LSB, asymmetry, clipped samples (R218), the taps (R223), and its samples newest first: raw, offset-corrected, corrected, and aligned and
interpolated. -/
structure ReaderPath where
  used : Bool
  delay : Nat
  weight : Rat
  gain : Rat
  offset : Rat
  asym : Rat
  clipped : Nat
  taps : List Rat
  raw : List Rat
  fixed : List Rat
  corr : List Rat
  z : List Rat
  deriving DecidableEq, Repr

/-- The loops of a sector (R224 to R227): the data cells taken in, the equalized cells (`cell`), the readers, common gain and offset, interpolator phase and frequency in
cells, whether the frequency reached its limit (R228), the four survivors of the tentative detector (metric, bits newest first), its decisions
and the equalizer outputs newest first (R275), the noise-predictor taps by pattern (R239), and the primary mark found (R274). -/
structure Loops where
  taken : Nat
  cell : Nat
  readers : List ReaderPath
  common : Rat
  bias : Rat
  phase : Rat
  freq : Rat
  limited : Bool
  paths : List (Rat × List Bool)
  bits : List Bool
  y : List Rat
  np : List (Rat × Rat)
  primary : Option Nat
  deriving DecidableEq, Repr

/-- A sector in the iteration bank (R245) with what it keeps from its preamble on (`combine`: in a SOFT_COMBINE attempt, the reads added before
and their sums, R314): preset, weight set, limits before any cap (R222, R228,
R243), the reader delays of R219, the seeds of gain, offset and asymmetry per reader (R224), LOOP_FREEZE (R258) and T (R221). `framed` is the
framing outcome once decided (R275), `start` the cell at which data part 1 and data part 2 then begin. -/
structure BankSector where
  index : Nat
  pba : Nat
  preset : Nat
  wset : Nat
  recovery : Bool
  localMax : Nat
  globalMax : Nat
  perGlobal : Nat
  delays : List Nat
  seeds : List (Nat × Int × Int)
  freeze : Nat
  target : Nat
  margin : Bool
  combine : Option (Nat × List Int)
  framed : Option Nat
  start : Nat × Nat
  setup : LoopSetup
  loops : Loops
  deriving DecidableEq, Repr

/-- The channel of a lane beyond its registers: the bank in arrival order (head decodes), the recovery targets
(R247), what failed (PBA and cause) and what was delivered in the running media operation, the refined fields
of zone entries (head, zone, byte offset of the field in the entry, value) and those the running step has loaded (R235), a head and track whose
active set waits for the step to end (R229), the sectors that a ladder recovered in the operation (R318), the cutoff in Hz and the boost in half dB of the continuous-time filters (R217), the readers whose
front end is powered (R216), and the sums behind the means of a margin measurement (R265). -/
structure Chan where
  bank : List BankSector
  targets : List Nat
  failed : List (Nat × Nat)
  delivered : List Nat
  refined : List (Nat × Nat × Nat × Nat)
  loaded : List (Nat × Nat × Nat × Nat)
  activeDue : Option (Nat × Nat)
  mended : List Nat
  cutoff : Rat
  boost : Nat
  frontEnd : Nat
  marginMse : Nat
  marginSnr : Nat
  deriving DecidableEq, Repr

/-- One sector to write: its PBA, DATA, TAG and key (R267, R581). -/
structure WriteSector where
  pba : Nat
  data : List Byte
  tag : List Byte
  key : Option (Nat × Nat)
  deriving DecidableEq, Repr

/-- A write step in progress (R278, R281): its sectors in order, how many are wholly written, the preheat wedges
left before the gate may rise, and the wedge that the next servo field must carry (R384). -/
structure WriteStep where
  sectors : List WriteSector
  done : Nat
  preheatLeft : Nat
  wedge : Nat
  deriving DecidableEq, Repr

/-- FMT of a lane: gate pins, the preamp fault pin, the refusal after a port failure (R291), the registers last
written to the preamp (R292), the register writes still to be sent in order, whether the preamp's PROFILE has been read and names
version 1 (R293), the operating time at which the write operation in work was first cut (R612), and the write step. -/
structure Fmt where
  wgate : Bool
  sgate : Bool
  pfaultN : Bool
  refused : Bool
  preheat : Bool
  preamp : Sparse Nat
  waiting : List (Nat × Nat)
  profile : Option Bool
  cutAt : Option Nat
  write : Option WriteStep
  deriving DecidableEq, Repr

/-- A running ladder (R300, R302, R311): its targets, place in the table, the running sums of a SOFT_COMBINE step (R314: target, reads
added, sum per codeword bit), the commands that wait on it with their limits, and what was skipped by level (R319). -/
structure Ladder where
  targets : List Nat
  step : Nat
  attempt : Nat
  elapsedUs : Nat
  limitMs : Nat
  level : Nat
  levelSkipped : Bool
  ran : Bool
  lastStep : Nat
  sums : List (Nat × Nat × List Int)
  waiting : List (Nat × Nat)
  deriving DecidableEq, Repr

/-- Read recovery of a lane (R311, R320, R321): the running ladder, the budgets of the command parts (command, operating time of its first
failure, time its attempts report in µs), the pending list, the grown-defect list, the spares given out (block PBA to spare PBA, R577), the sectors marked for
in-place verification with the verify reads left (0: its rewrite waits), and the spares used. -/
structure Recovery where
  ladder : Option Ladder
  parts : List (Nat × Nat × Nat)
  pending : List Nat
  grown : List Nat
  remap : List (Nat × Nat)
  marked : List (Nat × Nat)
  sparesUsed : Nat
  deriving DecidableEq, Repr

/-- What a lane's on-disk system area holds that the rules name (R236, R288, R320, R577, R582, R677, R589): it survives
POR_N. -/
structure SystemArea where
  stale : List (Nat × Nat × Nat)
  pending : List Nat
  grown : List Nat
  remap : List (Nat × Nat)
  refined : List (List Byte × (Nat × Nat × Nat × Nat))
  opTime : Nat
  pcyc : Nat
  defects : List Nat
  deriving DecidableEq, Repr

/-! ## Spindle, temperature, safety -/

/-- Bridge modes of a SPIN frame (R408). -/
inductive BridgeMode where
  | run | rectify | brake | off
  deriving DecidableEq, Repr

/-- Who holds SAFE_STOP_N low: Wheel for the link (R411), Kiln (R638) and Lookout (R653, R654, HARD). -/
inductive StopHolder where
  | link | kiln | lookout
  deriving DecidableEq, Repr

/-- Wheel beyond its registers (R404 to R441): the bridge, the Motor Link's training, counters and pending frames, the
start in progress, the commutation history, the speed loop and the policy. Times are in 5 ns units. -/
structure Wheel where
  mode : BridgeMode
  modePending : Bool
  step : Nat
  freewheel : Bool
  sinceSwitch : Nat
  syncs : Nat
  txSeq : Nat
  badRun : Nat
  sinceReg : Nat
  regSent : Bool
  acts : Vector (Option (Int × Int)) 4
  vm : Nat
  holders : List StopHolder
  starting : Bool
  attempt : Nat
  confirm : Nat
  seen : Bool
  faultOff : Bool
  stopWanted : Bool
  lastZc : Option Nat
  lastZcGap : Option Nat
  lastStep : Nat
  due : Option Nat
  rampStart : Option Nat
  missing : Nat
  intervals : List Nat
  speeds : List Nat
  integ : Rat
  r : Rat
  atSpeedSeen : Bool
  policy : Nat
  lastDecrease : Option Nat
  busy : Vector (List (Nat × Nat)) 4
  decided : Bool
  deriving DecidableEq, Repr

/-- Kiln beyond its registers: good conversions in a row per faulted channel (R628), which Cone 2s a fault forces, the
channel and reading that asserted Cone 3, the hold and shutdown time, and the lanes still to lock in RESTARTING
(R638). -/
structure Kiln where
  good : List Nat
  forced : List Bool
  cone3Ch : Nat
  cone3Reading : Int
  holdMs : Nat
  toLock : List Nat
  next : Option Nat
  deriving DecidableEq, Repr

/-- Lookout beyond its registers: the run of fast coil samples per lane (R654) with the last |VEL|, the last crossing
times (R653), the period that tripped, the rails that tripped (R657), whether the sequence of R433 has ended, whether a
hang of HS, BS or KS made the device fatal (R660), the lanes that may not return (R169, R638) and the lanes that KS reloads
after SUPPLY (R749). -/
structure Lookout where
  runaway : List Nat
  lastVel : List Nat
  crossings : List Nat
  lastPeriod : Nat
  tripPeriod : Option Nat
  rails : List Nat
  supplyDone : Bool
  fatal : Bool
  barred : List Nat
  reload : List Nat
  deriving DecidableEq, Repr

/-! ## Lane: servo engine and seeks -/

/-- Histories of one second-order section (R336 on, direct form I): x[n-1], x[n-2], y[n-1], y[n-2]. -/
structure SecHist where
  x1 : Int
  x2 : Int
  y1 : Int
  y2 : Int
  deriving DecidableEq, Repr

/-- The test-signal generator (R361, R362) while it runs. -/
structure Injection where
  phase : Nat
  f : Int
  shift : Nat
  held : Nat
  deriving DecidableEq, Repr

/-- The servo engine of a lane (R331 to R364) beyond its registers; banks are the 400 bytes of R350; `sig` holds the
signals of R364 as the last sample used them. -/
structure Sve where
  mode : Nat
  active : List Byte
  shadow : List Byte
  u1 : Int
  u2 : Int
  uma : Int
  sat : Bool
  xPrev : Int
  follow : List SecHist
  settle : List SecHist
  ma : List SecHist
  followI : Int
  settleI : Int
  evf : Int
  pPrev : Option Int
  iCoil : Int
  offset : Int
  offsetHeld : Option Int
  inj : Option Injection
  injStart : Bool
  injStop : Bool
  capSkip : Nat
  capture : Sparse Word
  nextBand : Option Nat
  loaderArm : Bool
  sig : List Int
  deriving DecidableEq, Repr

/-- A Switchback plan (R387): sample counts of its segments, distance in PES units, start, direction and the sample
reached; `peak` is the peak |a_m| in Q1.15. -/
structure Plan where
  nj : Nat
  na : Nat
  nv : Nat
  dist : Nat
  start : Int
  up : Bool
  i : Nat
  peak : Nat
  deriving DecidableEq, Repr

/-- A command of SEK.CMD (R398): 1 seek, 2 load, 3 park. -/
structure SekCmd where
  action : Nat
  head : Nat
  target : Nat
  deriving DecidableEq, Repr

/-- What SEK is carrying out (R390 to R396): the STATE codes of R399 with what each needs. -/
inductive SekPhase where
  | parked
  | loading (cmd : SekCmd) (run seen : Nat)
  | starting (cmd : SekCmd) (thenPark : Bool)
  | seeking (cmd : SekCmd) (thenPark : Bool) (plan : Plan)
  | onTrack
  | parkDrive
  | latching (afterRetract : Bool)
  | retracting
  deriving DecidableEq, Repr

/-- SEK of a lane beyond its registers: phase, queued command, the targeted head and track, the last position and wedge,
and the acceleration command in force. -/
structure Sek where
  phase : SekPhase
  queued : Option SekCmd
  head : Option Nat
  target : Nat
  pLast : Option Int
  wedgeLast : Option Nat
  fresh : Bool
  accel : Int
  maSatRun : Nat
  okRun : Nat
  lastE : Int
  newHead : Bool
  deriving DecidableEq, Repr

/-- The media-time synthesizer of a lane (R122): consecutive missed marks, found marks in a row, loss, and whether
the wedge at hand has been reported missed ahead of its sample. -/
structure MediaTime where
  misses : Nat
  found : Nat
  lost : Bool
  told : Bool
  deriving DecidableEq, Repr

/-- One recording lane (R14). -/
structure LaneState where
  chan : Chan
  fmt : Fmt
  rcv : Recovery
  sve : Sve
  sek : Sek
  mts : MediaTime
  sys : SystemArea
  deriving DecidableEq, Repr

/-- The shared vibration prefilter (R347): the histories of its two sections and its latest output. -/
structure SharedServo where
  rv : List SecHist
  aRv : Int
  deriving DecidableEq, Repr

/-- A sector on media (R266, R267): the block's DATA before encryption, its TAG, the CRC written with it, and the key
generation and LBA it was encrypted under, if it was (R581); `whole` is false where a write stopped inside it, so that
its CRC fails (R125, R279). -/
structure MediaSector where
  data : List Byte
  tag : List Byte
  crc : Nat
  key : Option (Nat × Nat)
  whole : Bool
  deriving DecidableEq, Repr



/-! ## Block mover -/

/-- A descriptor in work (R491): its fields as fetched or taken over, and HEAD where it was fetched. -/
structure Descriptor where
  control : Nat
  length : Nat
  src : Nat
  dst : Nat
  seed : Nat
  addr : Nat
  direct : Bool
  head : Nat
  deriving DecidableEq, Repr

/-- What a block-mover channel is doing (R505, R507): idle, due to fetch the descriptor at HEAD, or running one. -/
inductive ChanRun where
  | idle
  | fetch
  | running (d : Descriptor)
  deriving DecidableEq, Repr

/-- One block-mover channel beyond its registers: what it does, and whether an ABORT met the running descriptor (R504). -/
structure MoverChan where
  run : ChanRun
  abort : Bool
  deriving DecidableEq, Repr

/-- The block mover: its channels, and the SRAM (R490). -/
structure Mover where
  chans : Vector MoverChan 16
  sram : Memory
  deriving DecidableEq, Repr

/-! ## Buffer memory -/

/-- The buffer manager beyond its registers (chapter 13): the page-store bytes that are not 0, the poison table and the
pages of R466, whether the buffer has failed and Lookout's stop still waits for destage (R658), the dead chips whose
switch waits for a line boundary (R455: group, chip), the pages BS is to retire (with "by request"), injected faults
the stored lines hold (line address, chip, beat, mask: R484), and the pages reported as not retired (R470). -/
structure Buffer where
  mem : Memory
  poisoned : List Nat
  overflow : List Nat
  failed : Bool
  stopDue : Bool
  switching : List (Nat × Nat)
  toRetire : List (Nat × Bool)
  faults : List (Nat × Nat × Nat × Nat)
  unretired : List Nat
  deriving DecidableEq, Repr

/-! ## Host interface -/

/-- A PCIe port (R516 to R519, R191): pins, link, power state, the MSI-X state of its function (enable, Function
Mask, entries unmasked, pending bits, each entry's message address and data), and what the host wrote
into configuration space (dword index to value). -/
structure PortState where
  perstN : Bool
  linkUp : Bool
  speed : Nat
  width : Nat
  inL1 : Bool
  clkreqLow : Bool
  aspmL1 : Bool
  d3hot : Bool
  msixEnabled : Bool
  msixFnMask : Bool
  msixUnmasked : List Nat
  msixPending : List Nat
  msixTable : Sparse (Nat × Nat)
  cfg : Sparse Word
  deriving DecidableEq, Repr

/-- A submission queue (R523): ID 0 is the admin queue; `prio` 0 urgent to 3 low. -/
structure SubQueue where
  id : Nat
  size : Nat
  base : Nat
  cq : Nat
  prio : Nat
  head : Nat
  tail : Nat
  deriving DecidableEq, Repr

/-- A completion queue (R523, R529): `head` is the host's, `tail` the PX84's. -/
structure CompQueue where
  id : Nat
  size : Nat
  base : Nat
  vector : Nat
  ien : Bool
  head : Nat
  tail : Nat
  phase : Bool
  deriving DecidableEq, Repr

/-- Where a command slot stands (R531); `committed` carries status (SCT in bits [10:8], SC in [7:0], DNR bit 14) and DW0.
POSTED slots are free again. -/
inductive CmdPhase where
  | queued
  | running
  | committed (status dw0 : Nat)
  deriving DecidableEq, Repr

/-- A block's content as the host sees it: DATA and TAG (R267). -/
structure BlockData where
  data : List Byte
  tag : List Byte
  deriving DecidableEq, Repr

/-- A command in a slot (R525). A compatibility-mode command (R608) is held in the same form with `sq` 0xFFFF: `cid` its
tag or 0xFFFF, `opcode` the NVMe command it works as, `ata` its opcode and FEATURES byte, addresses in logical
sectors. `cdw` holds dwords 10 to 15. `blocks` is the data of a write once transferred, or of a command's structure;
`xfer` is the status a failed host transfer gives; `resolved` is set when a read has resolved (R559) or a write committed (R557); a read's `missing` blocks are still
to come, `got` are those it holds; `toMedia` are the block versions (namespace, LBA, version) that must reach media
before it completes (R27, R28, R544); `waitFor` are the commands a Delete I/O SQ waits for (R534); `error` is the first
failure met. -/
structure Command where
  seq : Nat
  port : Port
  sq : Nat
  cid : Nat
  opcode : Nat
  ata : Nat × Nat
  nsid : Nat
  cdw : List Nat
  psdt : Nat
  ptr : Nat
  xfer : Nat
  phase : CmdPhase
  urgent : Bool
  started : Bool
  transferred : Bool
  resolved : Bool
  waitWindow : Bool
  error : Nat
  errLba : Nat
  blocks : List BlockData
  missing : List Nat
  got : List (Nat × BlockData)
  toMedia : List (Nat × Nat × Nat)
  waitFor : List Nat
  dw0 : Nat
  deriving DecidableEq, Repr

/-- One Error Information entry (R545). -/
structure ErrorEntry where
  count : Nat
  sqid : Nat
  cid : Nat
  status : Nat
  lba : Nat
  nsid : Nat
  deriving DecidableEq, Repr

/-- An NVMe controller (R519 to R536, R543, R549): its registers, queues, features of controller scope, vectors with
coalescing disabled, entries waiting per vector (R536), asynchronous events (type, information: log), the Critical Warning last seen,
the Error Information log, the reservation notifications (count, type, namespace), and arbitration (R527): the SQs
still to be served in the round, the rounds begun, the urgent SQ last served, and the running turn (SQ, fetches left). -/
structure Controller where
  cc : Nat
  aqa : Nat
  asq : Nat
  acq : Nat
  rdy : Bool
  shst : Nat
  sqs : List SubQueue
  cqs : List CompQueue
  arbitration : Nat
  tempThr : Option Int
  coalescing : Nat
  noCoalesce : List Nat
  coalesced : List (Nat × Nat)
  asyncCfg : Nat
  writeNormal : Nat
  hostId : Nat
  aers : List Nat
  asyncMasked : List (Nat × Nat)
  asyncPending : List (Nat × Nat × Nat)
  critical : Nat
  errors : List ErrorEntry
  errorCount : Nat
  resvCount : Nat
  resvLog : List (Nat × Nat × Nat)
  round : List Nat
  rot : Nat
  urgentLast : Nat
  turn : Option (Nat × Nat)
  deriving DecidableEq, Repr

/-- The SATA device beyond its registers (R607 to R624): the failed queued command (tag, status, error, LBA), SMART
enabled and autosave, SCT timers in 100 ms, the standby timer's period in ms, transfer mode, enabled features, the
snapshot of log 0xA0, the error log, counts of spindle starts and head loads with the spin-up time in ms, whether SLEEP
was entered, whether a stop waits for the destage (R608), whether idle was entered, the most pending entries since power-on (R616), and the offline status bytes. -/
structure Sata where
  ncqError : Option (Nat × Nat × Nat × Nat)
  smart : Bool
  autosave : Bool
  readTimer : Nat
  writeTimer : Nat
  sctStatus : Nat
  sctData : List Nat
  standbyMs : Nat
  mode : Nat
  features : List Nat
  lookAhead : Bool
  snapshot : List (List Byte)
  errorLog : List (List Byte)
  errorCount : Nat
  starts : Nat
  loads : Nat
  startAt : Nat
  spinUpMs : Nat
  asleep : Bool
  stopDue : Bool
  idle : Bool
  pendingPeak : Nat
  selfTestStatus : Nat
  deriving DecidableEq, Repr

/-- The host interface (chapter 15): ports, controllers, the shared slots, the next fetch sequence number, the port whose
turn was last (R528), the SMART totals of R545 and R547 (lane counter totals by register offset), the ports that trained a
link since POR_N rose and whether a shutdown preceded (R713), and the SATA device. -/
structure Hif where
  ports : Vector PortState 2
  ctls : Vector Controller 2
  cmds : List Command
  nextSeq : Nat
  lastPort : Nat
  readBlocks : Nat
  writtenBlocks : Nat
  readCmds : Nat
  writeCmds : Nat
  mediaErrors : Nat
  totals : Sparse Nat
  trained : List Nat
  sata : Sata
  deriving DecidableEq, Repr

/-- The sideband (chapter 21) beyond its registers: the pending alert (R711), the last valid chain value with the state of
the position (R704: 0 pending, 1 from frames, 2 from steady low, 3 error), whether Notify or Hot-Join was sent, the
negotiated I3C lengths and enabled events, the time left after a loss of
the host link (R713), and the NVMe-MI configuration: SMBus frequency and transmission unit (R709); a Register Read that waits at EVT.TQ_POP_LO (R203): the bytes read
before it and how many registers follow it. -/
structure Sideband where
  alertPend : Bool
  lastFrame : Option Nat
  chain : Nat
  position : Nat
  joined : Bool
  mrl : Nat
  mwl : Nat
  ibi : Bool
  lossDestage : Bool
  shutdown : Bool
  miFreq : Nat
  miMtu : Nat
  tqRead : Option (List Byte × Nat)
  deriving DecidableEq, Repr

/-! ## Cache and media operations -/

/-- The state of a cached block (R567). -/
inductive ExtentKind where
  | clean | dirty | zero
  deriving DecidableEq, Repr

/-- An extent of the cache directory; this model's extents hold one block (log entry 30). `stamp` orders its use, `version`
tells a newer commit from a destaged one; the reads that pin it are the resolved ones that still run (R559). -/
structure Extent where
  ns : Nat
  lba : Nat
  kind : ExtentKind
  data : BlockData
  stamp : Nat
  version : Nat
  deriving DecidableEq, Repr

/-- A registrant of a namespace (R579): host identifier, key, controllers. -/
structure Registrant where
  host : Nat
  key : Nat
  ctls : List Nat
  deriving DecidableEq, Repr

/-- The changing state of a namespace: LBA format and protection settings (R540, R583), key pair generation (R582), the
reservation (holder, type, generation, persistence: R579), the notification mask, and the Error Recovery feature. -/
structure Namespace where
  lbaf : Nat
  pi : Nat
  mset : Bool
  keyGen : Nat
  regs : List Registrant
  holder : Option Nat
  rtype : Nat
  gen : Nat
  ptpl : Bool
  notifyMask : Nat
  tler : Nat
  deriving DecidableEq, Repr

/-- One block of a media operation: namespace (0 for the device's own), LBA and PBA. -/
structure OpBlock where
  ns : Nat
  lba : Nat
  pba : Nat
  deriving DecidableEq, Repr

/-- A media operation of a lane's scheduler (R571): a read for the commands that wait on it, or a destage or other
write of a snapshot of its sectors (with the extent versions it took, and the sectors that have landed). `host` is false for
the device's own work, `rebuild` names the group whose parity a read of the device rebuilds (R286). -/
structure MediaOp where
  id : Nat
  write : Bool
  blocks : List OpBlock
  sectors : List WriteSector
  versions : List Nat
  landed : List Nat
  owners : List Nat
  since : Nat
  urgent : Bool
  host : Bool
  rebuild : Option GroupId
  deriving DecidableEq, Repr

/-- A stretch of a lane written with one pattern by Format or Sanitize (R583, R585), or left undefined by SES 0, SES 2 or a
crypto erase (`pattern` none): blocks `lo` to `hi` of its data
sectors in order, or the whole lane with parity and spare sectors where `whole`; the newest stretch counts. -/
structure Fill where
  lane : Nat
  lo : Nat
  hi : Nat
  whole : Bool
  pattern : Option Nat
  deriving DecidableEq, Repr

/-- A Format or Sanitize in progress (R583 to R590): OP of R588, NSID, the command dwords, the pass, each lane's MiB done
in it, and the command that started it. -/
structure AdminOp where
  op : Nat
  nsid : Nat
  cdw10 : Nat
  cdw11 : Nat
  pass : Nat
  done : List Nat
  owner : Option Nat
  deriving DecidableEq, Repr

/-- A device self-test (R591, R592): extended or short, NSID, the segment, whether in captive mode (R617), the lanes on
which it yields, how far each lane's work of the segment has come, its own running time in ms, and the command that waits for it. -/
structure SelfTest where
  extended : Bool
  nsid : Nat
  segment : Nat
  captive : Bool
  yielding : List Nat
  work : List Nat
  ranMs : Nat
  owner : Option Nat
  deriving DecidableEq, Repr

/-- A progress record (R588): its sequence number, operation, pass, namespace, command dwords and MiB done per lane. -/
structure Progress where
  seq : Nat
  op : Nat
  pass : Nat
  nsid : Nat
  cdw10 : Nat
  cdw11 : Nat
  done : List Nat
  deriving DecidableEq, Repr

/-- What the system areas of the used lanes hold for the subsystem (R543, R563, R579, R582, R588): it survives POR_N. -/
structure SavedConfig where
  wce : Bool
  rrl : Nat
  wunc : List (Nat × Nat × Nat)
  namespaces : List Namespace
  progress : Option Progress
  sanitized : Nat
  sanitizedCdw10 : Nat
  format4k : Option Bool
  deriving DecidableEq, Repr

/-- CACHE and administration (chapter 16): the directory, the uncorrectable ranges (namespace, first LBA, blocks), the
write-through state (R29: 0 no, 1 no descriptor, 2 no page), the next operation and the use counter, the namespaces,
subsystem features, the running Format or Sanitize with its progress sequence and place (sector, slot), a failed
Sanitize (with AUSE), the Sanitize Status and dword 10, the self-test with its results newest first, and what is saved. -/
structure Cache where
  extents : List Extent
  wunc : List (Nat × Nat × Nat)
  through : Nat
  nextOp : Nat
  clock : Nat
  namespaces : List Namespace
  wce : Bool
  rrl : Nat
  admin : Option AdminOp
  lastOp : Nat
  progressSeq : Nat
  progressAt : Nat × Nat
  sanitizeFailed : Option Bool
  sanitizeStatus : Nat
  sanitizeCdw10 : Nat
  selfTest : Option SelfTest
  results : List (List Byte)
  saved : SavedConfig
  deriving DecidableEq, Repr

/-! ## What the chip sends out -/

/-- The AVSBus commands that PWR uses (R130). -/
inductive AvsCommand where
  | voltageWrite (mv : Nat) | voltageRead | statusRead
  deriving DecidableEq, Repr

/-- Everything the chip drives toward the outside that is not a pin level: read data, messages, frames (the model's
own record of outputs, log entry 3). -/
inductive Output where
  | readData (r : Requester) (v : Word)
  | completerAbort
  | unsupportedRequest
  | msix (p : Port) (vector address data : Nat)
  | hostData (p : Port) (seq : Nat) (data : List Byte)
  | hostPart (p : Port) (seq : Nat) (blocks : List (Nat × List Byte × List Byte))
  | cqEntry (p : Port) (cq slot : Nat) (bytes : List Byte)
  | mmio (p : Port) (v : Nat)
  | configData (p : Port) (v : Word)
  | signatureFis
  | registerFis (status error count lba : Nat)
  | pioSetupFis (status error : Nat)
  | setBitsFis (status error : Nat) (tags : List Nat)
  | sataData (data : List Byte)
  | chainFrame (bits : List Bool)
  | i3c (data : List Byte)
  | inBandInterrupt (mandatory : Nat)
  | smbus (data : List Byte)
  | busRelease
  | mctp (data : List Byte)
  | miResponse (status : Nat) (data : List Byte)
  | pspFrame (n : Lane) (bits : List Bool)
  | mediaCells (pba : Nat) (cells : List Bool)
  | writeGate (n : Lane) (stretches : List (Nat × Nat))
  | servoGate (n : Lane) (cells : Nat)
  | mlFrame (w : BitVec 64)
  | avs (rail : Nat) (c : AvsCommand)
  deriving DecidableEq, Repr

/-! ## The machine -/

/-- Why the machine stops with a fault. -/
inductive Fault where
  /-- No meaning raises a fault: the block has no machine fault (its errors are states, events and statuses); kept so
  that the type is closed; safe. -/
  | none
  deriving DecidableEq, Repr

/-- Why a command is refused. -/
inductive Refusal where
  /-- The command's meaning is not written yet (raised by `exec`'s arm); safe. -/
  | notModelled (mnemonic : String)
  deriving DecidableEq, Repr

/-- A field of a register: its register's byte offset in the window and its bits. -/
structure Fld where
  off : Nat
  hi : Nat
  lo : Nat
  deriving DecidableEq, Repr

/-- The PX84. `regs` holds every window register that is stored as such, by byte offset, where it differs from its
reset value; registers whose content another field holds are read through `Window`. `caps` holds the upper halves
captured under R12 and R204, by requester and offset; `tqWait` are the telemetry reads that wait on the empty queue (R203). `free` counts the free values drawn (log entry 1), `out` is what
was sent out, newest first (log entry 3). -/
structure State where
  pending : List Instr
  regs : Sparse Word
  caps : Sparse Word
  tqWait : List Requester
  fuses : Fuses
  pins : Pins
  tap : Tap
  boot : Boot
  flash : Memory
  pwr : Power
  seqs : Vector Seq 7
  mend : Sparse (BitVec 128)
  queues : Vector Queue 8
  crn : Cairn
  lanes : Vector LaneState 4
  shared : SharedServo
  whl : Wheel
  kln : Kiln
  lko : Lookout
  media : Sparse MediaSector
  scheds : Vector (List MediaOp) 4
  stale : List GroupId
  rebuilds : List (GroupId × Bool)
  fills : List Fill
  mover : Mover
  buf : Buffer
  cache : Cache
  hif : Hif
  sbd : Sideband
  free : Nat
  out : List Output
  deriving DecidableEq, Repr

/-! ## Reset -/

/-- A fuse key slot as manufactured: slot 0 holds the root key, the drive maker's slots are blank (R88). -/
def KeySlot.blank (programmed : Bool) : KeySlot := ⟨.replicate 32 0, programmed, false, false⟩

/-- A sequencer that has not started (R138). -/
def SeqCtx.reset : SeqCtx := ⟨.replicate 32 0, false, false, false, false, 0, [], 0, false, 0, []⟩
/-- A sequencer before the patch lock (R138). -/
def Seq.reset : Seq := ⟨.reset, .reset, .off, .replicate 5 false, 0, false, none, 0, none, none, false, none⟩
/-- An empty FIFO; ARMED is 1 only while DEPTH is below a LEVEL that is not 0 (R205, R212 reset LEVEL 0). -/
def Queue.reset : Queue := ⟨[], [], false, none, false⟩
/-- Cairn before its boot scan. -/
def Cairn.reset : Cairn :=
  { staged := [], nextSeq := 0, commit := 0, firstSeq := 0, breakSeq := 0, nonce := 0, scanned := false, spare := false,
    full := false, chainBreak := false, bothFail := false, flushing := false, clearing := false, clearOwner := none,
    clearSeq := 0, clearKeySlot := 0, clearBytes := [], badSpare := false, skipped := [],
    usedPrimary := 0, usedSpare := 0, lastBody := zeros 60, retried := false, opTime := 0, elapsed := 0, pcyc := 0,
    hostTs := none, tsSetPending := false }
/-- A section history of zeros. -/
def SecHist.zero : SecHist := ⟨0, 0, 0, 0⟩
/-- The servo engine at reset: IDLE, banks empty. -/
def Sve.reset : Sve :=
  { mode := 0, active := zeros 400, shadow := zeros 400, u1 := 0, u2 := 0, uma := 0, sat := false, xPrev := 0,
    follow := List.replicate 12 .zero, settle := List.replicate 12 .zero, ma := List.replicate 2 .zero, followI := 0,
    settleI := 0, evf := 0, pPrev := none, iCoil := 0, offset := 0, offsetHeld := none, inj := none, injStart := false,
    injStop := false, capSkip := 0, capture := [], nextBand := none, loaderArm := false,
    sig := List.replicate 16 0 }
/-- Heads on the ramp. -/
def Sek.reset : Sek :=
  { phase := .parked, queued := none, head := none, target := 0, pLast := none, wedgeLast := none, fresh := true,
    accel := 0, maSatRun := 0, okRun := 0, lastE := 0, newHead := false }
/-- A lane at reset: gates low (R50), nothing in work. -/
def LaneState.reset : LaneState :=
  { chan := ⟨[], [], [], [], [], [], none, [], 0, 0, 0, 0, 0⟩
    fmt := { wgate := false, sgate := false, pfaultN := true, refused := false, preheat := false, preamp := [],
             waiting := [], profile := none, cutAt := none, write := none }
    rcv := ⟨none, [], [], [], [], [], 0⟩
    sve := .reset, sek := .reset, mts := ⟨0, 0, false, false⟩
    sys := ⟨[], [], [], [], [], 0, 0, []⟩ }

/-- Wheel before it has taken over the Motor Link: the bridge off, nothing started. -/
def Wheel.reset : Wheel :=
  { mode := .off, modePending := false, step := 0, freewheel := false, sinceSwitch := 0, syncs := 0, txSeq := 0,
    badRun := 0, sinceReg := 8, regSent := false, acts := .replicate 4 none, vm := 0, holders := [], starting := false,
    attempt := 0, confirm := 0, seen := false, faultOff := false, stopWanted := false,
    lastZc := none, lastZcGap := none, lastStep := 0, due := none, rampStart := none, missing := 0, intervals := [], speeds := [],
    integ := 0, r := 0, atSpeedSeen := false, policy := 0, lastDecrease := none,
    busy := Vector.replicate 4 [], decided := false }
/-- Kiln before its first scan. -/
def Kiln.reset : Kiln := ⟨List.replicate 12 0, List.replicate 12 false, 0, 0, 0, [], none⟩
/-- Lookout with nothing detected. -/
def Lookout.reset : Lookout := ⟨[0, 0, 0, 0], [0, 0, 0, 0], [], 0, none, [], false, false, [], []⟩

/-- The straps of a chip that has not sampled them. -/
def strapsUnsampled : Straps := ⟨false, false, false, false⟩

/-- The boot engine before the first rise of POR_N. -/
def Boot.reset : Boot :=
  { running := false, straps := strapsUnsampled, compat := false, octal := false, cands := none, first := none,
    readRetried := false, density := 0, flashCmds := ⟨0, 0, 0, 0⟩, lockEnded := false, image := none, fuseEnded := false, memTrained := false, bulkEnded := false,
    nsReadyRaised := false }

/-- The test access port after power-up or TRST_N (R54, R56). -/
def Tap.reset : Tap := ⟨.testLogicReset, .bypass, [], [], []⟩
/-- A port with its link down and its function at its reset values. -/
def PortState.reset : PortState :=
  { perstN := false, linkUp := false, speed := 0, width := 0, inL1 := false, clkreqLow := true, aspmL1 := false, d3hot := false,
    msixEnabled := false, msixFnMask := false, msixUnmasked := [], msixPending := [], msixTable := [], cfg := [] }
/-- A controller at reset: disabled, no queues, features at their defaults (R543). -/
def Controller.reset : Controller :=
  { cc := 0, aqa := 0, asq := 0, acq := 0, rdy := false, shst := 0, sqs := [], cqs := [], arbitration := 3,
    tempThr := none, coalescing := 0, noCoalesce := [0], coalesced := [], asyncCfg := 0xFF, writeNormal := 0, hostId := 0, aers := [],
    asyncMasked := [], asyncPending := [], critical := 0, errors := [], errorCount := 0, resvCount := 0, resvLog := [],
    round := [], rot := 0, urgentLast := 0, turn := none }
/-- The SATA device after power-on. -/
def Sata.reset : Sata :=
  { ncqError := none, smart := true, autosave := true, readTimer := 0, writeTimer := 0, sctStatus := 0, sctData := [],
    standbyMs := 0, mode := 0x46, features := [], lookAhead := true, snapshot := [], errorLog := [],
    errorCount := 0, starts := 0, loads := 0, startAt := 0, spinUpMs := 0, asleep := false, stopDue := false, idle := false, pendingPeak := 0,
    selfTestStatus := 0 }
/-- The host interface before any link. -/
def Hif.reset : Hif :=
  { ports := .replicate 2 .reset, ctls := .replicate 2 .reset, cmds := [], nextSeq := 0, lastPort := 1, readBlocks := 0,
    writtenBlocks := 0, readCmds := 0, writeCmds := 0, mediaErrors := 0, totals := [], trained := [], sata := .reset }
/-- The buffer manager before training. -/
def Buffer.reset : Buffer := ⟨[], [], [], false, false, [], [], [], []⟩
/-- The drive's system areas as manufactured: features at their defaults, nothing recorded. -/
def SavedConfig.reset : SavedConfig := ⟨true, 0, [], [], none, 0, 0, none⟩
/-- CACHE before its namespaces are formed. -/
def Cache.reset : Cache :=
  { extents := [], wunc := [], through := 0, nextOp := 0, clock := 0, namespaces := [], wce := true, rrl := 0,
    admin := none, lastOp := 0, progressSeq := 1, progressAt := (0, 0), sanitizeFailed := none,
    sanitizeStatus := 0, sanitizeCdw10 := 0, selfTest := none, results := [], saved := .reset }
/-- The sideband before it has an address or a position. -/
def Sideband.reset : Sideband :=
  { alertPend := false, lastFrame := none, chain := 0, position := 0, joined := false, mrl := 64, mwl := 64, ibi := true,
    lossDestage := false, shutdown := false, miFreq := 1, miMtu := 64, tqRead := none }

/-- The machine at reset: POR_N low, every output in its reset state, nothing booted (R58, R70). The die is a PX84-Q of
grade N with blank drive-maker key slots (log entry 4). -/
def State.reset : State where
  pending := []
  regs := []
  caps := []
  tqWait := []
  fuses := ⟨.q, false, #v[.blank true, .blank false, .blank false], false⟩
  pins := { porN := false, domains := [], taken := [], xspiResetN := false,
            safeStopN := false, alertLow := false, chnOut := false, motorFaultN := true }
  tap := .reset
  boot := .reset
  flash := []
  pwr := ⟨false, none, 0, false⟩
  seqs := .replicate 7 .reset
  mend := []
  queues := .replicate 8 .reset
  crn := .reset
  lanes := .replicate 4 .reset
  shared := ⟨[.zero, .zero], 0⟩
  whl := .reset
  kln := .reset
  lko := .reset
  media := []
  scheds := .replicate 4 []
  stale := []
  rebuilds := []
  fills := []
  mover := ⟨.replicate 16 ⟨.idle, false⟩, []⟩
  buf := .reset
  cache := .reset
  hif := .reset
  sbd := .reset
  free := 0
  out := []

end Sys2Proof.Machine
end

