-- ==== Sys2Proof/Machine/RegMap.lean ====
section
/-! DEFINITION. The register window of chapter 22: every register of the list in R729 with the fields of its field map
(R8 types, R10 accepted encodings), the offset decoding of R717, and one name per field for the rest of the model. -/

namespace Sys2Proof.Machine

/-- The field types of R8. -/
inductive FieldType where
  | ro | rw | rw1c | rw1s | wo | rc | rwl
  deriving DecidableEq, Repr

/-- One field of a field map: its bits, its type and, where R10 applies, the ranges of encodings it accepts
(none listed: all). -/
structure FieldFmt where
  hi : Nat
  lo : Nat
  ty : FieldType
  ok : List (Nat × Nat)
  deriving DecidableEq, Repr

/-- The registers of R729; an indexed name stands for its whole array. -/
inductive RegName where
  | GLB_ID | GLB_REV | GLB_SIGNATURE | GLB_CAP0 | GLB_CAP1 | GLB_ABSENT_CNT
  | GLB_ABSENT_LAST | GLB_STRAPS | GLB_SCRATCH | EVT_ROUTE | EVT_STATUS | EVT_Q_STATUS
  | EVT_Q_CTRL | EVT_Q_DROPS | EVT_TQ_POP_LO | EVT_TQ_POP_HI | SEQ_PC | SEQ_SAFEPT
  | SEQ_FAULT | SEQ_PRIV_LOST | SEQ_MATCH | SEQ_MEND | IMG_BOOT_STATUS | IMG_SEQ_LO
  | IMG_SEQ_HI | IMG_SLOT_RESULT | IMG_LANE_BOOT | IMG_FUSE_KEYS | IMG_FLASH_SIZE | BUF_CONFIG
  | BUF_STATE | BUF_DEAD_REQ | BUF_BUCKET | BUF_TBUCKET | BUF_CNT_REPLAY_OK | BUF_CNT_CA_PARITY
  | BUF_CNT_CORRECTED | BUF_CNT_REBUILT | BUF_CNT_POISONED | BUF_CNT_HARD_FAULT | BUF_CNT_SHARD_VERIFY | BUF_POISON
  | BUF_RETIRE_STATUS | BUF_RETIRE_REQ | BUF_MARCH | BUF_FILL_MARK | BUF_INJECT | BUF_INJECT_ADDR
  | BUF_RETIRE | BMV_CH_CTRL | BMV_CH_STATUS | BMV_CH_RING_LO | BMV_CH_RING_HI | BMV_CH_RESULT
  | BMV_CH_CRC_LO | BMV_CH_CRC_HI | BMV_SH_CTL | BMV_SH_LEN | BMV_SH_SRC_LO | BMV_SH_SRC_HI
  | BMV_SH_DST_LO | BMV_SH_DST_HI | BMV_SH_SEED_LO | BMV_SH_SEED_HI | BMV_ACT_CTL | BMV_ACT_LEN
  | BMV_ACT_SRC_LO | BMV_ACT_SRC_HI | BMV_ACT_DST_LO | BMV_ACT_DST_HI | BMV_ACT_SEED_LO | BMV_ACT_SEED_HI
  | BMV_GSTATUS | BMV_SRAM | CACHE_STATUS | CACHE_DIRTY | CACHE_WUNC | CACHE_SCHED
  | CACHE_ADMIN | HIF_PORT | HIF_SATA | HIF_SATA_CRC | HIF_SLOTS | HIF_SLOT_PEAK
  | HIF_FETCH_SEQ_LO | HIF_FETCH_SEQ_HI | WHL_STATUS | WHL_SPEED | WHL_TARGET | WHL_OVERRIDE
  | WHL_DRIVE | WHL_POLICY | WHL_CNT_ML_CRC | WHL_CNT_ML_SEQ | WHL_CNT_LINK_DOWN | WHL_CNT_START_FAIL
  | WHL_REG_ACCESS | KLN_STATUS | KLN_TEMP | KLN_PEAK | KLN_HOLD | LKO_STATUS
  | LKO_LANE | LKO_OSC | LKO_TRIP | LKO_LIMITS | LKO_SELFTEST | LKO_CNT_WG_CUT
  | CRN_STATUS | CRN_LAST_SEQ_LO | CRN_LAST_SEQ_HI | CRN_COMMIT_LO | CRN_COMMIT_HI | CRN_BREAK_LO
  | CRN_BREAK_HI | CRN_OPTIME_LO | CRN_OPTIME_HI | CRN_NONCE_LO | CRN_NONCE_HI | CRN_PCYC
  | CRN_FLUSH | CRN_MISSED | SBD_STATUS | SBD_ADDR | SBD_GATE | SBD_CNT_MCTP_ERR
  | PWR_AVS_CTRL | PWR_AVS_STATUS | PWR_GATE_IDLE | PWR_GATE_STATUS | CHN_CTRL | CHN_STATUS
  | CHN_ACTIVE | CHN_ITER_LIMIT | CHN_LOOP_FREEZE | CHN_AGC | CHN_ASYM | CHN_TIMING
  | CHN_EQ_MSE | CHN_CNT_READ | CHN_CNT_FIRST_PASS | CHN_CNT_FAIL | CHN_CNT_CRC | CHN_CNT_BANK_CUT
  | CHN_CNT_OVERRUN | CHN_ITER_HIST | CHN_MARGIN_CTRL | CHN_MARGIN_SECT | CHN_MARGIN_BITS_LO | CHN_MARGIN_BITS_HI
  | CHN_MARGIN_MSE | CHN_RCV_STATUS | CHN_RCV_ELAPSED | CHN_RCV_OK | CHN_RCV_UNREC | CHN_RCV_TIMEOUT
  | CHN_RCV_PENDING | FMT_SYNC_CTRL | FMT_FRAME_STATUS | FMT_WRITE_CTRL | FMT_CNT_REFRAME | FMT_CNT_BACKUP_ONLY
  | FMT_CNT_BACKUP_MISSED | FMT_CNT_NO_SYNC | FMT_PSP_ACCESS | FMT_MTS_STATUS | SVE_CTRL | SVE_STATUS
  | SVE_PES | SVE_OUTPUT | SVE_INTEG | SVE_TF_OFFSET | SVE_BAND | SVE_CNT_SAT
  | SVE_CNT_INVALID | SVE_CNT_LATE | SVE_CNT_SWAP | SVE_INJ_CTRL | SVE_INJ_FREQ | SVE_INJ_SWEEP
  | SVE_CAP_CTRL | SVE_CAP_COUNT | SVE_CAP_STATUS | SVE_SHADOW | SVE_ACTIVE | SVE_CAPTURE
  | SEK_CMD | SEK_STATUS | SEK_PLAN_A | SEK_PLAN_V | SEK_POS_LO | SEK_POS_HI
  | SEK_DEMOD | SEK_WEDGE | SEK_CNT_NO_SAM | SEK_CNT_WEDGE_ERR | SEK_CNT_TRACK_ERR | SEK_CNT_LOW_AMP
  | SEK_CNT_DEFER
  deriving DecidableEq, Repr

/-- One row of the register list: where the array starts, its steps and counts (two levels), whether it repeats in
every lane window (the base is then lane 0's), and its fields. -/
structure RegRow where
  name : RegName
  base : Nat
  stride : Nat
  count : Nat
  stride2 : Nat
  count2 : Nat
  lane : Bool
  fields : List FieldFmt
  deriving DecidableEq, Repr

/-- A register reached by an offset: its row, lane and indices. -/
structure Located where
  row : RegRow
  lane : Nat
  ix : Nat
  ix2 : Nat
  deriving DecidableEq, Repr

/-- Rows of R729 (shared blocks), part 1. -/
def rowsShared0 : List RegRow := [
  ⟨.GLB_ID, 0, 0, 1, 0, 1, false,
    [⟨31, 16, .ro, []⟩, ⟨15, 0, .ro, []⟩]⟩,
  ⟨.GLB_REV, 4, 0, 1, 0, 1, false,
    [⟨15, 8, .ro, []⟩, ⟨7, 0, .ro, []⟩]⟩,
  ⟨.GLB_SIGNATURE, 8, 0, 1, 0, 1, false,
    [⟨31, 0, .ro, []⟩]⟩,
  ⟨.GLB_CAP0, 0x10, 0, 1, 0, 1, false,
    [⟨19, 16, .ro, []⟩, ⟨13, 12, .ro, []⟩, ⟨11, 11, .ro, []⟩, ⟨10, 10, .ro, []⟩, ⟨9, 9, .ro, []⟩, ⟨8, 8, .ro, []⟩, ⟨6, 4, .ro, []⟩, ⟨3, 0, .ro, []⟩]⟩,
  ⟨.GLB_CAP1, 0x14, 0, 1, 0, 1, false,
    [⟨24, 24, .ro, []⟩, ⟨23, 23, .ro, []⟩, ⟨22, 16, .ro, []⟩, ⟨12, 8, .ro, []⟩, ⟨5, 0, .ro, []⟩]⟩,
  ⟨.GLB_ABSENT_CNT, 0x20, 0, 1, 0, 1, false,
    [⟨31, 0, .rc, []⟩]⟩,
  ⟨.GLB_ABSENT_LAST, 0x24, 0, 1, 0, 1, false,
    [⟨25, 24, .ro, []⟩, ⟨22, 22, .ro, []⟩, ⟨21, 0, .ro, []⟩]⟩,
  ⟨.GLB_STRAPS, 0x28, 0, 1, 0, 1, false,
    [⟨2, 2, .ro, []⟩, ⟨1, 1, .ro, []⟩, ⟨0, 0, .ro, []⟩]⟩,
  ⟨.GLB_SCRATCH, 0x30, 0, 1, 0, 1, false,
    [⟨31, 0, .rw, []⟩]⟩,
  ⟨.EVT_ROUTE, 0x10000, 4, 2048, 0, 1, false,
    [⟨16, 16, .rwl, []⟩, ⟨15, 0, .rw, []⟩]⟩,
  ⟨.EVT_STATUS, 0x12000, 4, 64, 0, 1, false,
    [⟨31, 0, .rw1c, []⟩]⟩,
  ⟨.EVT_Q_STATUS, 0x13000, 0x20, 8, 0, 1, false,
    [⟨31, 31, .ro, []⟩, ⟨30, 30, .rw1c, []⟩, ⟨29, 29, .rw1c, []⟩, ⟨28, 28, .ro, []⟩, ⟨27, 27, .ro, []⟩, ⟨23, 16, .ro, []⟩, ⟨15, 8, .ro, []⟩, ⟨7, 0, .ro, []⟩]⟩,
  ⟨.EVT_Q_CTRL, 0x13004, 0x20, 8, 0, 1, false,
    [⟨7, 0, .rw, [(0, 128)]⟩]⟩,
  ⟨.EVT_Q_DROPS, 0x13008, 0x20, 8, 0, 1, false,
    [⟨7, 0, .rc, []⟩]⟩,
  ⟨.EVT_TQ_POP_LO, 0x130F0, 0, 1, 0, 1, false,
    [⟨31, 0, .rc, []⟩]⟩,
  ⟨.EVT_TQ_POP_HI, 0x130F4, 0, 1, 0, 1, false,
    [⟨31, 0, .ro, []⟩]⟩,
  ⟨.SEQ_PC, 0x20000, 0x40, 7, 0, 1, false,
    [⟨31, 30, .ro, []⟩, ⟨29, 29, .ro, []⟩, ⟨28, 28, .ro, []⟩, ⟨15, 0, .ro, []⟩]⟩,
  ⟨.SEQ_SAFEPT, 0x20004, 0x40, 7, 0, 1, false,
    [⟨15, 0, .ro, []⟩]⟩,
  ⟨.SEQ_FAULT, 0x20008, 0x40, 7, 0, 1, false,
    [⟨31, 28, .ro, []⟩, ⟨27, 24, .ro, []⟩, ⟨15, 0, .ro, []⟩]⟩,
  ⟨.SEQ_PRIV_LOST, 0x2000C, 0x40, 4, 0, 1, false,
    [⟨29, 24, .rc, []⟩, ⟨23, 18, .rc, []⟩, ⟨17, 12, .rc, []⟩, ⟨11, 6, .rc, []⟩, ⟨5, 0, .rc, []⟩]⟩,
  ⟨.SEQ_MATCH, 0x21000, 4, 224, 0, 1, false,
    [⟨31, 31, .rwl, []⟩, ⟨26, 16, .rwl, []⟩, ⟨15, 0, .rwl, []⟩]⟩,
  ⟨.SEQ_MEND, 0x28000, 4, 8192, 0, 1, false,
    [⟨31, 0, .ro, []⟩]⟩,
  ⟨.IMG_BOOT_STATUS, 0x30000, 0, 1, 0, 1, false,
    [⟨31, 31, .ro, []⟩, ⟨30, 30, .ro, []⟩, ⟨27, 26, .ro, []⟩, ⟨25, 24, .ro, []⟩, ⟨21, 20, .ro, []⟩, ⟨16, 16, .ro, []⟩, ⟨15, 8, .ro, []⟩, ⟨3, 0, .ro, []⟩]⟩,
  ⟨.IMG_SEQ_LO, 0x30008, 0, 1, 0, 1, false,
    [⟨31, 0, .ro, []⟩]⟩,
  ⟨.IMG_SEQ_HI, 0x3000C, 0, 1, 0, 1, false,
    [⟨31, 0, .ro, []⟩]⟩]

/-- Rows of R729 (shared blocks), part 2. -/
def rowsShared1 : List RegRow := [
  ⟨.IMG_SLOT_RESULT, 0x30010, 4, 2, 0, 1, false,
    [⟨23, 16, .ro, []⟩, ⟨15, 8, .ro, []⟩, ⟨2, 0, .ro, []⟩]⟩,
  ⟨.IMG_LANE_BOOT, 0x3001C, 0, 1, 0, 1, false,
    [⟨15, 12, .ro, []⟩, ⟨11, 8, .ro, []⟩, ⟨7, 4, .ro, []⟩, ⟨3, 0, .ro, []⟩]⟩,
  ⟨.IMG_FUSE_KEYS, 0x30020, 0, 1, 0, 1, false,
    [⟨9, 9, .ro, []⟩, ⟨8, 8, .ro, []⟩, ⟨7, 7, .ro, []⟩, ⟨6, 6, .ro, []⟩, ⟨5, 5, .ro, []⟩, ⟨4, 4, .ro, []⟩, ⟨3, 3, .ro, []⟩, ⟨2, 2, .ro, []⟩, ⟨1, 1, .ro, []⟩, ⟨0, 0, .ro, []⟩]⟩,
  ⟨.IMG_FLASH_SIZE, 0x30024, 0, 1, 0, 1, false,
    [⟨31, 0, .ro, []⟩]⟩,
  ⟨.BUF_CONFIG, 0x40000, 0, 1, 0, 1, false,
    [⟨21, 16, .ro, []⟩, ⟨12, 12, .ro, []⟩, ⟨9, 8, .ro, []⟩, ⟨5, 4, .ro, []⟩, ⟨1, 0, .ro, []⟩]⟩,
  ⟨.BUF_STATE, 0x40004, 0, 1, 0, 1, false,
    [⟨17, 17, .ro, []⟩, ⟨16, 16, .ro, []⟩, ⟨15, 12, .ro, []⟩, ⟨11, 8, .ro, []⟩, ⟨7, 4, .ro, []⟩, ⟨3, 0, .ro, []⟩]⟩,
  ⟨.BUF_DEAD_REQ, 0x40008, 0, 1, 0, 1, false,
    [⟨31, 31, .rw1s, []⟩, ⟨30, 30, .ro, []⟩, ⟨5, 5, .rw, []⟩, ⟨4, 4, .rw, []⟩, ⟨2, 0, .rw, [(0, 4)]⟩]⟩,
  ⟨.BUF_BUCKET, 0x40040, 4, 5, 0x20, 4, false,
    [⟨31, 28, .ro, []⟩, ⟨15, 0, .ro, []⟩]⟩,
  ⟨.BUF_TBUCKET, 0x400C0, 0, 1, 0, 1, false,
    [⟨31, 28, .ro, []⟩, ⟨15, 0, .ro, []⟩]⟩,
  ⟨.BUF_CNT_REPLAY_OK, 0x40100, 0, 1, 0, 1, false,
    [⟨31, 0, .rc, []⟩]⟩,
  ⟨.BUF_CNT_CA_PARITY, 0x40104, 0, 1, 0, 1, false,
    [⟨31, 0, .rc, []⟩]⟩,
  ⟨.BUF_CNT_CORRECTED, 0x40108, 0, 1, 0, 1, false,
    [⟨31, 0, .rc, []⟩]⟩,
  ⟨.BUF_CNT_REBUILT, 0x4010C, 0, 1, 0, 1, false,
    [⟨31, 0, .rc, []⟩]⟩,
  ⟨.BUF_CNT_POISONED, 0x40110, 0, 1, 0, 1, false,
    [⟨31, 0, .rc, []⟩]⟩,
  ⟨.BUF_CNT_HARD_FAULT, 0x40114, 0, 1, 0, 1, false,
    [⟨31, 0, .rc, []⟩]⟩,
  ⟨.BUF_CNT_SHARD_VERIFY, 0x40118, 0, 1, 0, 1, false,
    [⟨31, 0, .rc, []⟩]⟩,
  ⟨.BUF_POISON, 0x40120, 0, 1, 0, 1, false,
    [⟨11, 0, .ro, []⟩]⟩,
  ⟨.BUF_RETIRE_STATUS, 0x40130, 0, 1, 0, 1, false,
    [⟨12, 0, .ro, []⟩]⟩,
  ⟨.BUF_RETIRE_REQ, 0x40134, 0, 1, 0, 1, false,
    [⟨31, 31, .rw1s, []⟩, ⟨30, 30, .ro, []⟩, ⟨22, 0, .rw, []⟩]⟩,
  ⟨.BUF_MARCH, 0x40150, 0, 1, 0, 1, false,
    [⟨31, 31, .ro, []⟩, ⟨30, 16, .ro, []⟩, ⟨15, 0, .ro, []⟩]⟩,
  ⟨.BUF_FILL_MARK, 0x40154, 0, 1, 0, 1, false,
    [⟨22, 0, .ro, []⟩]⟩,
  ⟨.BUF_INJECT, 0x40160, 0, 1, 0, 1, false,
    [⟨31, 31, .rw1s, []⟩, ⟨30, 28, .rw, [(0, 4)]⟩, ⟨27, 24, .rw, []⟩, ⟨7, 0, .rw, []⟩]⟩,
  ⟨.BUF_INJECT_ADDR, 0x40164, 0, 1, 0, 1, false,
    [⟨31, 0, .rw, []⟩]⟩,
  ⟨.BUF_RETIRE, 0x41000, 4, 4096, 0, 1, false,
    [⟨31, 31, .ro, []⟩, ⟨30, 30, .ro, []⟩, ⟨22, 0, .ro, []⟩]⟩,
  ⟨.BMV_CH_CTRL, 0x50000, 0x100, 16, 0, 1, false,
    [⟨31, 31, .wo, []⟩, ⟨30, 30, .wo, []⟩, ⟨26, 26, .rw, []⟩, ⟨25, 25, .rw, []⟩, ⟨24, 24, .rw, []⟩, ⟨11, 0, .rw, []⟩]⟩]

/-- Rows of R729 (shared blocks), part 3. -/
def rowsShared2 : List RegRow := [
  ⟨.BMV_CH_STATUS, 0x50004, 0x100, 16, 0, 1, false,
    [⟨31, 29, .ro, []⟩, ⟨28, 28, .rw1c, []⟩, ⟨27, 27, .ro, []⟩, ⟨11, 0, .ro, []⟩]⟩,
  ⟨.BMV_CH_RING_LO, 0x50008, 0x100, 16, 0, 1, false,
    [⟨31, 5, .rw, []⟩]⟩,
  ⟨.BMV_CH_RING_HI, 0x5000C, 0x100, 16, 0, 1, false,
    [⟨15, 0, .rw, []⟩]⟩,
  ⟨.BMV_CH_RESULT, 0x50010, 0x100, 16, 0, 1, false,
    [⟨31, 0, .ro, []⟩]⟩,
  ⟨.BMV_CH_CRC_LO, 0x50018, 0x100, 16, 0, 1, false,
    [⟨31, 0, .ro, []⟩]⟩,
  ⟨.BMV_CH_CRC_HI, 0x5001C, 0x100, 16, 0, 1, false,
    [⟨31, 0, .ro, []⟩]⟩,
  ⟨.BMV_SH_CTL, 0x50040, 0x100, 16, 0, 1, false,
    [⟨31, 31, .rw1s, []⟩, ⟨30, 30, .rw, []⟩, ⟨29, 29, .rw, []⟩, ⟨7, 0, .rw, []⟩]⟩,
  ⟨.BMV_SH_LEN, 0x50044, 0x100, 16, 0, 1, false,
    [⟨31, 0, .rw, []⟩]⟩,
  ⟨.BMV_SH_SRC_LO, 0x50048, 0x100, 16, 0, 1, false,
    [⟨31, 0, .rw, []⟩]⟩,
  ⟨.BMV_SH_SRC_HI, 0x5004C, 0x100, 16, 0, 1, false,
    [⟨15, 0, .rw, []⟩]⟩,
  ⟨.BMV_SH_DST_LO, 0x50050, 0x100, 16, 0, 1, false,
    [⟨31, 0, .rw, []⟩]⟩,
  ⟨.BMV_SH_DST_HI, 0x50054, 0x100, 16, 0, 1, false,
    [⟨15, 0, .rw, []⟩]⟩,
  ⟨.BMV_SH_SEED_LO, 0x50058, 0x100, 16, 0, 1, false,
    [⟨31, 0, .rw, []⟩]⟩,
  ⟨.BMV_SH_SEED_HI, 0x5005C, 0x100, 16, 0, 1, false,
    [⟨31, 0, .rw, []⟩]⟩,
  ⟨.BMV_ACT_CTL, 0x50080, 0x100, 16, 0, 1, false,
    [⟨31, 31, .ro, []⟩, ⟨30, 30, .ro, []⟩, ⟨29, 29, .ro, []⟩, ⟨7, 0, .ro, []⟩]⟩,
  ⟨.BMV_ACT_LEN, 0x50084, 0x100, 16, 0, 1, false,
    [⟨31, 0, .ro, []⟩]⟩,
  ⟨.BMV_ACT_SRC_LO, 0x50088, 0x100, 16, 0, 1, false,
    [⟨31, 0, .ro, []⟩]⟩,
  ⟨.BMV_ACT_SRC_HI, 0x5008C, 0x100, 16, 0, 1, false,
    [⟨15, 0, .ro, []⟩]⟩,
  ⟨.BMV_ACT_DST_LO, 0x50090, 0x100, 16, 0, 1, false,
    [⟨31, 0, .ro, []⟩]⟩,
  ⟨.BMV_ACT_DST_HI, 0x50094, 0x100, 16, 0, 1, false,
    [⟨15, 0, .ro, []⟩]⟩,
  ⟨.BMV_ACT_SEED_LO, 0x50098, 0x100, 16, 0, 1, false,
    [⟨31, 0, .ro, []⟩]⟩,
  ⟨.BMV_ACT_SEED_HI, 0x5009C, 0x100, 16, 0, 1, false,
    [⟨31, 0, .ro, []⟩]⟩,
  ⟨.BMV_GSTATUS, 0x51000, 0, 1, 0, 1, false,
    [⟨31, 16, .ro, []⟩, ⟨15, 0, .ro, []⟩]⟩,
  ⟨.BMV_SRAM, 0x58000, 4, 8192, 0, 1, false,
    [⟨31, 0, .rw, []⟩]⟩,
  ⟨.CACHE_STATUS, 0x60000, 0, 1, 0, 1, false,
    [⟨31, 31, .ro, []⟩, ⟨30, 30, .ro, []⟩, ⟨21, 0, .ro, []⟩]⟩]

/-- Rows of R729 (shared blocks), part 4. -/
def rowsShared3 : List RegRow := [
  ⟨.CACHE_DIRTY, 0x60004, 0, 1, 0, 1, false,
    [⟨21, 0, .ro, []⟩]⟩,
  ⟨.CACHE_WUNC, 0x60008, 0, 1, 0, 1, false,
    [⟨16, 0, .ro, []⟩]⟩,
  ⟨.CACHE_SCHED, 0x60010, 4, 4, 0, 1, false,
    [⟨31, 16, .ro, []⟩, ⟨12, 0, .ro, []⟩]⟩,
  ⟨.CACHE_ADMIN, 0x60020, 0, 1, 0, 1, false,
    [⟨31, 24, .ro, []⟩, ⟨23, 20, .ro, []⟩, ⟨15, 0, .ro, []⟩]⟩,
  ⟨.HIF_PORT, 0x70000, 0x100, 2, 0, 1, false,
    [⟨31, 31, .ro, []⟩, ⟨30, 30, .ro, []⟩, ⟨29, 29, .ro, []⟩, ⟨23, 20, .ro, []⟩, ⟨19, 16, .ro, []⟩, ⟨10, 0, .ro, []⟩]⟩,
  ⟨.HIF_SATA, 0x70200, 0, 1, 0, 1, false,
    [⟨31, 31, .ro, []⟩, ⟨30, 29, .ro, []⟩, ⟨28, 28, .ro, []⟩, ⟨27, 27, .ro, []⟩, ⟨26, 26, .ro, []⟩, ⟨5, 5, .ro, []⟩, ⟨4, 0, .ro, []⟩]⟩,
  ⟨.HIF_SATA_CRC, 0x70204, 0, 1, 0, 1, false,
    [⟨31, 0, .ro, []⟩]⟩,
  ⟨.HIF_SLOTS, 0x71000, 0, 1, 0, 1, false,
    [⟨31, 31, .ro, []⟩, ⟨16, 0, .ro, []⟩]⟩,
  ⟨.HIF_SLOT_PEAK, 0x71004, 0, 1, 0, 1, false,
    [⟨16, 0, .rc, []⟩]⟩,
  ⟨.HIF_FETCH_SEQ_LO, 0x71008, 0, 1, 0, 1, false,
    [⟨31, 0, .ro, []⟩]⟩,
  ⟨.HIF_FETCH_SEQ_HI, 0x7100C, 0, 1, 0, 1, false,
    [⟨15, 0, .ro, []⟩]⟩,
  ⟨.WHL_STATUS, 0x80000, 0, 1, 0, 1, false,
    [⟨31, 28, .ro, []⟩, ⟨27, 27, .ro, []⟩, ⟨26, 26, .ro, []⟩, ⟨25, 25, .ro, []⟩, ⟨24, 24, .ro, []⟩, ⟨23, 23, .ro, []⟩, ⟨22, 22, .ro, []⟩, ⟨21, 19, .ro, []⟩, ⟨15, 8, .ro, []⟩]⟩,
  ⟨.WHL_SPEED, 0x80004, 0, 1, 0, 1, false,
    [⟨31, 16, .ro, []⟩, ⟨15, 0, .ro, []⟩]⟩,
  ⟨.WHL_TARGET, 0x80008, 0, 1, 0, 1, false,
    [⟨31, 16, .ro, []⟩, ⟨15, 0, .ro, []⟩]⟩,
  ⟨.WHL_OVERRIDE, 0x8000C, 0, 1, 0, 1, false,
    [⟨31, 31, .rw, []⟩, ⟨15, 0, .rw, []⟩]⟩,
  ⟨.WHL_DRIVE, 0x80010, 0, 1, 0, 1, false,
    [⟨31, 16, .ro, []⟩, ⟨15, 0, .ro, []⟩]⟩,
  ⟨.WHL_POLICY, 0x80014, 0, 1, 0, 1, false,
    [⟨31, 24, .ro, []⟩, ⟨23, 16, .ro, []⟩, ⟨15, 0, .ro, []⟩]⟩,
  ⟨.WHL_CNT_ML_CRC, 0x80020, 0, 1, 0, 1, false,
    [⟨31, 0, .rc, []⟩]⟩,
  ⟨.WHL_CNT_ML_SEQ, 0x80024, 0, 1, 0, 1, false,
    [⟨31, 0, .rc, []⟩]⟩,
  ⟨.WHL_CNT_LINK_DOWN, 0x80028, 0, 1, 0, 1, false,
    [⟨31, 0, .rc, []⟩]⟩,
  ⟨.WHL_CNT_START_FAIL, 0x8002C, 0, 1, 0, 1, false,
    [⟨31, 0, .rc, []⟩]⟩,
  ⟨.WHL_REG_ACCESS, 0x80030, 0, 1, 0, 1, false,
    [⟨31, 31, .rw1s, []⟩, ⟨30, 30, .rw, []⟩, ⟨29, 29, .ro, []⟩, ⟨23, 16, .rw, []⟩, ⟨15, 0, .rw, []⟩]⟩,
  ⟨.KLN_STATUS, 0x90000, 0, 1, 0, 1, false,
    [⟨31, 29, .ro, []⟩, ⟨28, 28, .ro, []⟩, ⟨27, 27, .ro, []⟩, ⟨26, 26, .ro, []⟩, ⟨25, 25, .ro, []⟩, ⟨24, 24, .ro, []⟩, ⟨23, 20, .ro, []⟩, ⟨11, 0, .ro, []⟩]⟩,
  ⟨.KLN_TEMP, 0x90010, 4, 12, 0, 1, false,
    [⟨31, 31, .ro, []⟩, ⟨30, 28, .ro, []⟩, ⟨15, 0, .ro, []⟩]⟩,
  ⟨.KLN_PEAK, 0x90040, 4, 12, 0, 1, false,
    [⟨31, 16, .ro, []⟩, ⟨15, 0, .ro, []⟩]⟩]

/-- Rows of R729 (shared blocks), part 5. -/
def rowsShared4 : List RegRow := [
  ⟨.KLN_HOLD, 0x90080, 0, 1, 0, 1, false,
    [⟨15, 0, .ro, []⟩]⟩,
  ⟨.LKO_STATUS, 0xA0000, 0, 1, 0, 1, false,
    [⟨31, 28, .ro, []⟩, ⟨27, 25, .ro, []⟩, ⟨24, 24, .ro, []⟩, ⟨23, 20, .ro, []⟩, ⟨19, 16, .ro, []⟩]⟩,
  ⟨.LKO_LANE, 0xA0010, 4, 4, 0, 1, false,
    [⟨31, 28, .ro, []⟩, ⟨27, 25, .ro, []⟩]⟩,
  ⟨.LKO_OSC, 0xA0020, 0, 1, 0, 1, false,
    [⟨23, 0, .ro, []⟩]⟩,
  ⟨.LKO_TRIP, 0xA0024, 0, 1, 0, 1, false,
    [⟨31, 16, .rwl, []⟩, ⟨15, 0, .rwl, []⟩]⟩,
  ⟨.LKO_LIMITS, 0xA0028, 0, 1, 0, 1, false,
    [⟨31, 16, .rwl, []⟩, ⟨15, 0, .rwl, []⟩]⟩,
  ⟨.LKO_SELFTEST, 0xA002C, 0, 1, 0, 1, false,
    [⟨31, 31, .ro, []⟩, ⟨24, 18, .ro, []⟩, ⟨17, 14, .ro, []⟩, ⟨13, 10, .ro, []⟩, ⟨9, 6, .ro, []⟩, ⟨5, 5, .ro, []⟩, ⟨4, 4, .ro, []⟩, ⟨3, 3, .ro, []⟩, ⟨2, 2, .ro, []⟩, ⟨1, 1, .ro, []⟩, ⟨0, 0, .ro, []⟩]⟩,
  ⟨.LKO_CNT_WG_CUT, 0xA0040, 4, 4, 0, 1, false,
    [⟨31, 0, .rc, []⟩]⟩,
  ⟨.CRN_STATUS, 0xB0000, 0, 1, 0, 1, false,
    [⟨31, 31, .ro, []⟩, ⟨30, 30, .ro, []⟩, ⟨29, 29, .ro, []⟩, ⟨28, 28, .ro, []⟩, ⟨27, 27, .ro, []⟩, ⟨26, 26, .ro, []⟩, ⟨25, 25, .ro, []⟩, ⟨22, 8, .ro, []⟩, ⟨7, 0, .ro, []⟩]⟩,
  ⟨.CRN_LAST_SEQ_LO, 0xB0008, 0, 1, 0, 1, false,
    [⟨31, 0, .ro, []⟩]⟩,
  ⟨.CRN_LAST_SEQ_HI, 0xB000C, 0, 1, 0, 1, false,
    [⟨15, 0, .ro, []⟩]⟩,
  ⟨.CRN_COMMIT_LO, 0xB0010, 0, 1, 0, 1, false,
    [⟨31, 0, .ro, []⟩]⟩,
  ⟨.CRN_COMMIT_HI, 0xB0014, 0, 1, 0, 1, false,
    [⟨15, 0, .ro, []⟩]⟩,
  ⟨.CRN_BREAK_LO, 0xB0018, 0, 1, 0, 1, false,
    [⟨31, 0, .ro, []⟩]⟩,
  ⟨.CRN_BREAK_HI, 0xB001C, 0, 1, 0, 1, false,
    [⟨15, 0, .ro, []⟩]⟩,
  ⟨.CRN_OPTIME_LO, 0xB0020, 0, 1, 0, 1, false,
    [⟨31, 0, .ro, []⟩]⟩,
  ⟨.CRN_OPTIME_HI, 0xB0024, 0, 1, 0, 1, false,
    [⟨7, 0, .ro, []⟩]⟩,
  ⟨.CRN_NONCE_LO, 0xB0030, 0, 1, 0, 1, false,
    [⟨31, 0, .ro, []⟩]⟩,
  ⟨.CRN_NONCE_HI, 0xB0034, 0, 1, 0, 1, false,
    [⟨31, 0, .ro, []⟩]⟩,
  ⟨.CRN_PCYC, 0xB0028, 0, 1, 0, 1, false,
    [⟨23, 0, .ro, []⟩]⟩,
  ⟨.CRN_FLUSH, 0xB0038, 0, 1, 0, 1, false,
    [⟨31, 31, .rw1s, []⟩]⟩,
  ⟨.CRN_MISSED, 0xB0040, 4, 15, 0, 1, false,
    [⟨15, 0, .ro, []⟩]⟩,
  ⟨.SBD_STATUS, 0xC0000, 0, 1, 0, 1, false,
    [⟨31, 31, .ro, []⟩, ⟨30, 30, .ro, []⟩, ⟨29, 29, .ro, []⟩, ⟨28, 28, .ro, []⟩, ⟨27, 27, .ro, []⟩, ⟨26, 26, .ro, []⟩, ⟨25, 24, .ro, []⟩, ⟨23, 23, .ro, []⟩, ⟨9, 0, .ro, []⟩]⟩,
  ⟨.SBD_ADDR, 0xC0004, 0, 1, 0, 1, false,
    [⟨15, 8, .ro, []⟩, ⟨6, 0, .ro, []⟩]⟩,
  ⟨.SBD_GATE, 0xC0008, 0, 1, 0, 1, false,
    [⟨31, 31, .rw, []⟩, ⟨15, 0, .rw, []⟩]⟩]

/-- Rows of R729 (shared blocks), part 6. -/
def rowsShared5 : List RegRow := [
  ⟨.SBD_CNT_MCTP_ERR, 0xC0010, 0, 1, 0, 1, false,
    [⟨31, 0, .rc, []⟩]⟩,
  ⟨.PWR_AVS_CTRL, 0xD0000, 0, 1, 0, 1, false,
    [⟨25, 16, .rw, [(600, 800)]⟩, ⟨9, 0, .rw, [(600, 800)]⟩]⟩,
  ⟨.PWR_AVS_STATUS, 0xD0004, 0, 1, 0, 1, false,
    [⟨31, 31, .rw1c, []⟩, ⟨25, 16, .ro, []⟩, ⟨9, 0, .ro, []⟩]⟩,
  ⟨.PWR_GATE_IDLE, 0xD0010, 0, 1, 0, 1, false,
    [⟨15, 0, .rw, [(0, 0), (10, 65535)]⟩]⟩,
  ⟨.PWR_GATE_STATUS, 0xD0014, 0, 1, 0, 1, false,
    [⟨13, 13, .ro, []⟩, ⟨12, 12, .ro, []⟩, ⟨11, 11, .ro, []⟩, ⟨10, 9, .ro, []⟩, ⟨8, 8, .ro, []⟩, ⟨7, 4, .ro, []⟩, ⟨3, 0, .ro, []⟩]⟩]

/-- Rows of R729 (lane blocks), part 1. -/
def rowsLane0 : List RegRow := [
  ⟨.CHN_CTRL, 0x100000, 0, 1, 0, 1, true,
    [⟨8, 8, .rw, []⟩, ⟨7, 6, .rw, [(0, 2)]⟩, ⟨5, 4, .rw, [(0, 2)]⟩]⟩,
  ⟨.CHN_STATUS, 0x100004, 0, 1, 0, 1, true,
    [⟨31, 31, .ro, []⟩, ⟨30, 30, .ro, []⟩, ⟨29, 29, .ro, []⟩, ⟨28, 24, .ro, []⟩, ⟨23, 17, .ro, []⟩, ⟨16, 12, .ro, []⟩, ⟨11, 8, .ro, []⟩, ⟨7, 4, .ro, []⟩]⟩,
  ⟨.CHN_ACTIVE, 0x100008, 0, 1, 0, 1, true,
    [⟨31, 31, .ro, []⟩, ⟨28, 24, .ro, []⟩, ⟨21, 16, .ro, []⟩, ⟨5, 4, .ro, []⟩, ⟨2, 0, .ro, []⟩]⟩,
  ⟨.CHN_ITER_LIMIT, 0x100010, 0, 1, 0, 1, true,
    [⟨28, 24, .rw, [(1, 16)]⟩, ⟨22, 16, .rw, [(1, 64)]⟩]⟩,
  ⟨.CHN_LOOP_FREEZE, 0x100014, 0, 1, 0, 1, true,
    [⟨6, 6, .rw, []⟩, ⟨5, 5, .rw, []⟩, ⟨4, 4, .rw, []⟩, ⟨3, 3, .rw, []⟩, ⟨2, 2, .rw, []⟩, ⟨1, 1, .rw, []⟩, ⟨0, 0, .rw, []⟩]⟩,
  ⟨.CHN_AGC, 0x100030, 4, 3, 0, 1, true,
    [⟨27, 16, .ro, []⟩, ⟨11, 0, .ro, []⟩]⟩,
  ⟨.CHN_ASYM, 0x100040, 4, 3, 0, 1, true,
    [⟨31, 16, .ro, []⟩, ⟨15, 0, .ro, []⟩]⟩,
  ⟨.CHN_TIMING, 0x10004C, 0, 1, 0, 1, true,
    [⟨31, 16, .ro, []⟩, ⟨5, 0, .ro, []⟩]⟩,
  ⟨.CHN_EQ_MSE, 0x100050, 0, 1, 0, 1, true,
    [⟨31, 16, .ro, []⟩, ⟨15, 0, .ro, []⟩]⟩,
  ⟨.CHN_CNT_READ, 0x100060, 0, 1, 0, 1, true,
    [⟨31, 0, .rc, []⟩]⟩,
  ⟨.CHN_CNT_FIRST_PASS, 0x100064, 0, 1, 0, 1, true,
    [⟨31, 0, .rc, []⟩]⟩,
  ⟨.CHN_CNT_FAIL, 0x100068, 0, 1, 0, 1, true,
    [⟨31, 0, .rc, []⟩]⟩,
  ⟨.CHN_CNT_CRC, 0x10006C, 0, 1, 0, 1, true,
    [⟨31, 0, .rc, []⟩]⟩,
  ⟨.CHN_CNT_BANK_CUT, 0x100070, 0, 1, 0, 1, true,
    [⟨31, 0, .rc, []⟩]⟩,
  ⟨.CHN_CNT_OVERRUN, 0x100074, 0, 1, 0, 1, true,
    [⟨31, 0, .rc, []⟩]⟩,
  ⟨.CHN_ITER_HIST, 0x100080, 4, 16, 0, 1, true,
    [⟨31, 0, .rc, []⟩]⟩,
  ⟨.CHN_MARGIN_CTRL, 0x1000C0, 0, 1, 0, 1, true,
    [⟨31, 31, .rw1s, []⟩, ⟨30, 30, .wo, []⟩, ⟨15, 0, .rw, [(1, 65535)]⟩]⟩,
  ⟨.CHN_MARGIN_SECT, 0x1000C4, 0, 1, 0, 1, true,
    [⟨31, 16, .ro, []⟩, ⟨15, 0, .ro, []⟩]⟩,
  ⟨.CHN_MARGIN_BITS_LO, 0x1000C8, 0, 1, 0, 1, true,
    [⟨31, 0, .ro, []⟩]⟩,
  ⟨.CHN_MARGIN_BITS_HI, 0x1000CC, 0, 1, 0, 1, true,
    [⟨31, 0, .ro, []⟩]⟩,
  ⟨.CHN_MARGIN_MSE, 0x1000D0, 0, 1, 0, 1, true,
    [⟨31, 16, .ro, []⟩, ⟨15, 0, .ro, []⟩]⟩,
  ⟨.CHN_RCV_STATUS, 0x100100, 0, 1, 0, 1, true,
    [⟨31, 31, .ro, []⟩, ⟨23, 20, .ro, []⟩, ⟨19, 16, .ro, []⟩, ⟨15, 0, .ro, []⟩]⟩,
  ⟨.CHN_RCV_ELAPSED, 0x100104, 0, 1, 0, 1, true,
    [⟨31, 0, .ro, []⟩]⟩,
  ⟨.CHN_RCV_OK, 0x100140, 4, 16, 0, 1, true,
    [⟨31, 0, .rc, []⟩]⟩,
  ⟨.CHN_RCV_UNREC, 0x100180, 0, 1, 0, 1, true,
    [⟨31, 0, .rc, []⟩]⟩]

/-- Rows of R729 (lane blocks), part 2. -/
def rowsLane1 : List RegRow := [
  ⟨.CHN_RCV_TIMEOUT, 0x100184, 0, 1, 0, 1, true,
    [⟨31, 0, .rc, []⟩]⟩,
  ⟨.CHN_RCV_PENDING, 0x100188, 0, 1, 0, 1, true,
    [⟨14, 0, .ro, []⟩]⟩,
  ⟨.FMT_SYNC_CTRL, 0x110000, 0, 1, 0, 1, true,
    [⟨31, 31, .rw, []⟩, ⟨13, 8, .rw, [(4, 32)]⟩, ⟨3, 0, .rw, [(0, 8)]⟩]⟩,
  ⟨.FMT_FRAME_STATUS, 0x110004, 0, 1, 0, 1, true,
    [⟨31, 31, .ro, []⟩, ⟨27, 24, .ro, []⟩, ⟨23, 16, .ro, []⟩, ⟨15, 0, .ro, []⟩]⟩,
  ⟨.FMT_WRITE_CTRL, 0x110008, 0, 1, 0, 1, true,
    [⟨21, 16, .rw, [(0, 32)]⟩, ⟨13, 8, .rw, [(8, 48)]⟩, ⟨5, 0, .rw, [(8, 48)]⟩]⟩,
  ⟨.FMT_CNT_REFRAME, 0x110010, 0, 1, 0, 1, true,
    [⟨31, 0, .rc, []⟩]⟩,
  ⟨.FMT_CNT_BACKUP_ONLY, 0x110014, 0, 1, 0, 1, true,
    [⟨31, 0, .rc, []⟩]⟩,
  ⟨.FMT_CNT_BACKUP_MISSED, 0x110018, 0, 1, 0, 1, true,
    [⟨31, 0, .rc, []⟩]⟩,
  ⟨.FMT_CNT_NO_SYNC, 0x11001C, 0, 1, 0, 1, true,
    [⟨31, 0, .rc, []⟩]⟩,
  ⟨.FMT_PSP_ACCESS, 0x110020, 0, 1, 0, 1, true,
    [⟨31, 31, .rw1s, []⟩, ⟨30, 30, .rw, []⟩, ⟨29, 29, .ro, []⟩, ⟨22, 16, .rw, []⟩, ⟨15, 0, .rw, []⟩]⟩,
  ⟨.FMT_MTS_STATUS, 0x110F00, 0, 1, 0, 1, true,
    [⟨31, 31, .ro, []⟩, ⟨30, 30, .ro, []⟩, ⟨23, 0, .ro, []⟩]⟩,
  ⟨.SVE_CTRL, 0x120000, 0, 1, 0, 1, true,
    [⟨1, 1, .rw, []⟩, ⟨0, 0, .rw1s, []⟩]⟩,
  ⟨.SVE_STATUS, 0x120004, 0, 1, 0, 1, true,
    [⟨31, 29, .ro, []⟩, ⟨28, 28, .ro, []⟩, ⟨27, 27, .ro, []⟩, ⟨26, 26, .ro, []⟩, ⟨25, 25, .rw1c, []⟩, ⟨18, 16, .ro, []⟩, ⟨15, 8, .ro, []⟩, ⟨1, 0, .ro, []⟩]⟩,
  ⟨.SVE_PES, 0x120008, 0, 1, 0, 1, true,
    [⟨31, 16, .ro, []⟩, ⟨15, 0, .ro, []⟩]⟩,
  ⟨.SVE_OUTPUT, 0x12000C, 0, 1, 0, 1, true,
    [⟨31, 16, .ro, []⟩, ⟨15, 0, .ro, []⟩]⟩,
  ⟨.SVE_INTEG, 0x120010, 0, 1, 0, 1, true,
    [⟨31, 0, .ro, []⟩]⟩,
  ⟨.SVE_TF_OFFSET, 0x120014, 0, 1, 0, 1, true,
    [⟨16, 16, .ro, []⟩, ⟨15, 0, .rw, [(0, 1024), (64512, 65535)]⟩]⟩,
  ⟨.SVE_BAND, 0x120018, 0, 1, 0, 1, true,
    [⟨31, 31, .ro, []⟩, ⟨18, 16, .ro, []⟩, ⟨15, 0, .ro, []⟩]⟩,
  ⟨.SVE_CNT_SAT, 0x120020, 0, 1, 0, 1, true,
    [⟨31, 0, .rc, []⟩]⟩,
  ⟨.SVE_CNT_INVALID, 0x120024, 0, 1, 0, 1, true,
    [⟨31, 0, .rc, []⟩]⟩,
  ⟨.SVE_CNT_LATE, 0x120028, 0, 1, 0, 1, true,
    [⟨31, 0, .rc, []⟩]⟩,
  ⟨.SVE_CNT_SWAP, 0x12002C, 0, 1, 0, 1, true,
    [⟨31, 0, .rc, []⟩]⟩,
  ⟨.SVE_INJ_CTRL, 0x120040, 0, 1, 0, 1, true,
    [⟨31, 31, .rw1s, []⟩, ⟨30, 30, .wo, []⟩, ⟨29, 29, .ro, []⟩, ⟨28, 27, .rw, []⟩, ⟨26, 25, .rw, [(0, 2)]⟩, ⟨24, 22, .rw, [(0, 4)]⟩, ⟨21, 18, .rw, []⟩, ⟨15, 0, .rw, [(0, 32767)]⟩]⟩,
  ⟨.SVE_INJ_FREQ, 0x120044, 0, 1, 0, 1, true,
    [⟨31, 16, .rw, []⟩, ⟨15, 0, .rw, []⟩]⟩,
  ⟨.SVE_INJ_SWEEP, 0x120048, 0, 1, 0, 1, true,
    [⟨15, 0, .rw, []⟩]⟩]

/-- Rows of R729 (lane blocks), part 3. -/
def rowsLane2 : List RegRow := [
  ⟨.SVE_CAP_CTRL, 0x120060, 0, 1, 0, 1, true,
    [⟨31, 31, .wo, []⟩, ⟨30, 30, .wo, []⟩, ⟨29, 28, .rw, []⟩, ⟨27, 24, .rw, [(0, 14)]⟩, ⟨23, 20, .rw, [(0, 14)]⟩, ⟨7, 0, .rw, []⟩]⟩,
  ⟨.SVE_CAP_COUNT, 0x120064, 0, 1, 0, 1, true,
    [⟨12, 0, .rw, []⟩]⟩,
  ⟨.SVE_CAP_STATUS, 0x120068, 0, 1, 0, 1, true,
    [⟨31, 31, .rw1c, []⟩, ⟨30, 30, .ro, []⟩, ⟨29, 29, .ro, []⟩, ⟨27, 14, .ro, []⟩, ⟨13, 0, .ro, []⟩]⟩,
  ⟨.SVE_SHADOW, 0x120400, 4, 100, 0, 1, true,
    [⟨31, 0, .rw, []⟩]⟩,
  ⟨.SVE_ACTIVE, 0x120800, 4, 100, 0, 1, true,
    [⟨31, 0, .ro, []⟩]⟩,
  ⟨.SVE_CAPTURE, 0x128000, 4, 8192, 0, 1, true,
    [⟨31, 0, .ro, []⟩]⟩,
  ⟨.SEK_CMD, 0x130000, 0, 1, 0, 1, true,
    [⟨31, 31, .rw1s, []⟩, ⟨30, 28, .rw, [(1, 3)]⟩, ⟨26, 24, .rw, []⟩, ⟨21, 0, .rw, []⟩]⟩,
  ⟨.SEK_STATUS, 0x130004, 0, 1, 0, 1, true,
    [⟨31, 28, .ro, []⟩, ⟨27, 27, .rw1c, []⟩, ⟨23, 16, .ro, []⟩, ⟨15, 0, .ro, []⟩]⟩,
  ⟨.SEK_PLAN_A, 0x130008, 0, 1, 0, 1, true,
    [⟨31, 16, .ro, []⟩, ⟨15, 0, .ro, []⟩]⟩,
  ⟨.SEK_PLAN_V, 0x13000C, 0, 1, 0, 1, true,
    [⟨31, 16, .ro, []⟩, ⟨15, 0, .ro, []⟩]⟩,
  ⟨.SEK_POS_LO, 0x130010, 0, 1, 0, 1, true,
    [⟨31, 0, .ro, []⟩]⟩,
  ⟨.SEK_POS_HI, 0x130014, 0, 1, 0, 1, true,
    [⟨1, 0, .ro, []⟩]⟩,
  ⟨.SEK_DEMOD, 0x130018, 0, 1, 0, 1, true,
    [⟨31, 16, .ro, []⟩, ⟨15, 0, .ro, []⟩]⟩,
  ⟨.SEK_WEDGE, 0x13001C, 0, 1, 0, 1, true,
    [⟨31, 16, .ro, []⟩, ⟨9, 0, .ro, []⟩]⟩,
  ⟨.SEK_CNT_NO_SAM, 0x130020, 0, 1, 0, 1, true,
    [⟨31, 0, .rc, []⟩]⟩,
  ⟨.SEK_CNT_WEDGE_ERR, 0x130024, 0, 1, 0, 1, true,
    [⟨31, 0, .rc, []⟩]⟩,
  ⟨.SEK_CNT_TRACK_ERR, 0x130028, 0, 1, 0, 1, true,
    [⟨31, 0, .rc, []⟩]⟩,
  ⟨.SEK_CNT_LOW_AMP, 0x13002C, 0, 1, 0, 1, true,
    [⟨31, 0, .rc, []⟩]⟩,
  ⟨.SEK_CNT_DEFER, 0x130030, 0, 1, 0, 1, true,
    [⟨31, 0, .rc, []⟩]⟩]

/-- Every register outside the lane windows. -/
def sharedRows : List RegRow := rowsShared0 ++ rowsShared1 ++ rowsShared2 ++ rowsShared3 ++ rowsShared4 ++ rowsShared5

/-- Every register of a lane window, at lane 0. -/
def laneRows : List RegRow := rowsLane0 ++ rowsLane1 ++ rowsLane2

/-- Whether `off` is one of the registers of `r`, and with which indices. -/
def RegRow.find (r : RegRow) (off : Nat) : Option (Nat × Nat) :=
  if off < r.base then none
  else
    let d := off - r.base
    let j := if r.stride2 = 0 then 0 else d / r.stride2
    let e := d - j * r.stride2
    let i := if r.stride = 0 then 0 else e / r.stride
    if j < r.count2 ∧ i < r.count ∧ r.base + j * r.stride2 + i * r.stride = off then some (i, j) else none

/-- The first row that holds `off`. -/
def findRow : List RegRow → Nat → Option (RegRow × Nat × Nat)
  | [], _ => none
  | r :: t, off =>
    match r.find off with
    | some (i, j) => some (r, i, j)
    | none => findRow t off

/-- The register at a byte offset of the window, if one of R729 lies there (R717, R720); bits [1:0] of the offset
select bytes within it. -/
def locate (off : Nat) : Option Located :=
  let a := off / 4 * 4
  if a < 0x0E0000 then (findRow sharedRows a).map fun (r, i, j) => ⟨r, 0, i, j⟩
  else if 0x100000 ≤ a ∧ a < 0x200000 then
    (findRow laneRows (0x100000 + (a - 0x100000) % 0x40000)).map
      fun (r, i, j) => ⟨r, (a - 0x100000) / 0x40000, i, j⟩
  else none

end Sys2Proof.Machine

namespace Sys2Proof.Machine.Reg
open Sys2Proof.Machine

/-- GLB.ABSENT_CNT.COUNT[31:0] (R40). -/
def GLB_ABSENT_CNT_COUNT : Fld := ⟨0x20, 31, 0⟩
/-- EVT.ROUTE.WORD[15:0] (R209). -/
def EVT_ROUTE_WORD (i : Nat) : Fld := ⟨0x10000 + 4 * i, 15, 0⟩
/-- EVT.Q_STATUS.OVERRUN[30:30] (R211). -/
def EVT_Q_STATUS_OVERRUN (i : Nat) : Fld := ⟨0x13000 + 0x20 * i, 30, 30⟩
/-- EVT.Q_STATUS.LVL_HIT[29:29] (R211). -/
def EVT_Q_STATUS_LVL_HIT (i : Nat) : Fld := ⟨0x13000 + 0x20 * i, 29, 29⟩
/-- EVT.Q_CTRL.LEVEL[7:0] (R212). -/
def EVT_Q_CTRL_LEVEL (i : Nat) : Fld := ⟨0x13004 + 0x20 * i, 7, 0⟩
/-- EVT.Q_DROPS.COUNT[7:0] (R213). -/
def EVT_Q_DROPS_COUNT (i : Nat) : Fld := ⟨0x13008 + 0x20 * i, 7, 0⟩
/-- IMG.BOOT_STATUS.HOLD[31:31] (R110). -/
def IMG_BOOT_STATUS_HOLD : Fld := ⟨0x30000, 31, 31⟩
/-- IMG.BOOT_STATUS.SLOW_FLASH[30:30] (R110). -/
def IMG_BOOT_STATUS_SLOW_FLASH : Fld := ⟨0x30000, 30, 30⟩
/-- IMG.BOOT_STATUS.KEY_SLOT[27:26] (R110). -/
def IMG_BOOT_STATUS_KEY_SLOT : Fld := ⟨0x30000, 27, 26⟩
/-- IMG.BOOT_STATUS.IMAGE_KIND[25:24] (R110). -/
def IMG_BOOT_STATUS_IMAGE_KIND : Fld := ⟨0x30000, 25, 24⟩
/-- IMG.BOOT_STATUS.SLOT[21:20] (R110). -/
def IMG_BOOT_STATUS_SLOT : Fld := ⟨0x30000, 21, 20⟩
/-- IMG.BOOT_STATUS.LOCKED[16:16] (R110). -/
def IMG_BOOT_STATUS_LOCKED : Fld := ⟨0x30000, 16, 16⟩
/-- IMG.BOOT_STATUS.ERR[15:8] (R110). -/
def IMG_BOOT_STATUS_ERR : Fld := ⟨0x30000, 15, 8⟩
/-- IMG.BOOT_STATUS.STAGE[3:0] (R110). -/
def IMG_BOOT_STATUS_STAGE : Fld := ⟨0x30000, 3, 0⟩
/-- IMG.SLOT_RESULT.SECTION_INDEX[23:16] (R112). -/
def IMG_SLOT_RESULT_SECTION_INDEX (i : Nat) : Fld := ⟨0x30010 + 4 * i, 23, 16⟩
/-- IMG.SLOT_RESULT.ERR[15:8] (R112). -/
def IMG_SLOT_RESULT_ERR (i : Nat) : Fld := ⟨0x30010 + 4 * i, 15, 8⟩
/-- IMG.SLOT_RESULT.STATE[2:0] (R112). -/
def IMG_SLOT_RESULT_STATE (i : Nat) : Fld := ⟨0x30010 + 4 * i, 2, 0⟩
/-- IMG.FLASH_SIZE.DENSITY[31:0] (R115). -/
def IMG_FLASH_SIZE_DENSITY : Fld := ⟨0x30024, 31, 0⟩
/-- BUF.CONFIG.CAPACITY[21:16] (R475). -/
def BUF_CONFIG_CAPACITY : Fld := ⟨0x40000, 21, 16⟩
/-- BUF.CONFIG.RANKS[12:12] (R475). -/
def BUF_CONFIG_RANKS : Fld := ⟨0x40000, 12, 12⟩
/-- BUF.CONFIG.SUBCH[9:8] (R475). -/
def BUF_CONFIG_SUBCH : Fld := ⟨0x40000, 9, 8⟩
/-- BUF.CONFIG.DENSITY[5:4] (R475). -/
def BUF_CONFIG_DENSITY : Fld := ⟨0x40000, 5, 4⟩
/-- BUF.CONFIG.RATE[1:0] (R475). -/
def BUF_CONFIG_RATE : Fld := ⟨0x40000, 1, 0⟩
/-- BUF.STATE.FILL_DONE[17:17] (R476). -/
def BUF_STATE_FILL_DONE : Fld := ⟨0x40004, 17, 17⟩
/-- BUF.STATE.TRAINED[16:16] (R476). -/
def BUF_STATE_TRAINED : Fld := ⟨0x40004, 16, 16⟩
/-- BUF.DEAD_REQ.GO[31:31] (R477). -/
def BUF_DEAD_REQ_GO : Fld := ⟨0x40008, 31, 31⟩
/-- BUF.DEAD_REQ.ERR[30:30] (R477). -/
def BUF_DEAD_REQ_ERR : Fld := ⟨0x40008, 30, 30⟩
/-- BUF.DEAD_REQ.RANK[5:5] (R477). -/
def BUF_DEAD_REQ_RANK : Fld := ⟨0x40008, 5, 5⟩
/-- BUF.DEAD_REQ.SUBCH[4:4] (R477). -/
def BUF_DEAD_REQ_SUBCH : Fld := ⟨0x40008, 4, 4⟩
/-- BUF.DEAD_REQ.CHIP[2:0] (R477). -/
def BUF_DEAD_REQ_CHIP : Fld := ⟨0x40008, 2, 0⟩
/-- BUF.BUCKET.OVF[31:28] (R478). -/
def BUF_BUCKET_OVF (i j : Nat) : Fld := ⟨0x40040 + 4 * i + 0x20 * j, 31, 28⟩
/-- BUF.BUCKET.LEVEL[15:0] (R478). -/
def BUF_BUCKET_LEVEL (i j : Nat) : Fld := ⟨0x40040 + 4 * i + 0x20 * j, 15, 0⟩
/-- BUF.TBUCKET.OVF[31:28] (R478). -/
def BUF_TBUCKET_OVF : Fld := ⟨0x400C0, 31, 28⟩
/-- BUF.TBUCKET.LEVEL[15:0] (R478). -/
def BUF_TBUCKET_LEVEL : Fld := ⟨0x400C0, 15, 0⟩
/-- BUF.CNT_REPLAY_OK.COUNT[31:0] (R479). -/
def BUF_CNT_REPLAY_OK_COUNT : Fld := ⟨0x40100, 31, 0⟩
/-- BUF.CNT_CA_PARITY.COUNT[31:0] (R479). -/
def BUF_CNT_CA_PARITY_COUNT : Fld := ⟨0x40104, 31, 0⟩
/-- BUF.CNT_CORRECTED.COUNT[31:0] (R479). -/
def BUF_CNT_CORRECTED_COUNT : Fld := ⟨0x40108, 31, 0⟩
/-- BUF.CNT_REBUILT.COUNT[31:0] (R479). -/
def BUF_CNT_REBUILT_COUNT : Fld := ⟨0x4010C, 31, 0⟩
/-- BUF.CNT_POISONED.COUNT[31:0] (R479). -/
def BUF_CNT_POISONED_COUNT : Fld := ⟨0x40110, 31, 0⟩
/-- BUF.CNT_HARD_FAULT.COUNT[31:0] (R479). -/
def BUF_CNT_HARD_FAULT_COUNT : Fld := ⟨0x40114, 31, 0⟩
/-- BUF.CNT_SHARD_VERIFY.COUNT[31:0] (R479). -/
def BUF_CNT_SHARD_VERIFY_COUNT : Fld := ⟨0x40118, 31, 0⟩
/-- BUF.POISON.ENTRIES[11:0] (R480). -/
def BUF_POISON_ENTRIES : Fld := ⟨0x40120, 11, 0⟩
/-- BUF.RETIRE_STATUS.ENTRIES[12:0] (R480). -/
def BUF_RETIRE_STATUS_ENTRIES : Fld := ⟨0x40130, 12, 0⟩
/-- BUF.RETIRE_REQ.GO[31:31] (R481). -/
def BUF_RETIRE_REQ_GO : Fld := ⟨0x40134, 31, 31⟩
/-- BUF.RETIRE_REQ.ERR[30:30] (R481). -/
def BUF_RETIRE_REQ_ERR : Fld := ⟨0x40134, 30, 30⟩
/-- BUF.RETIRE_REQ.PAGE[22:0] (R481). -/
def BUF_RETIRE_REQ_PAGE : Fld := ⟨0x40134, 22, 0⟩
/-- BUF.MARCH.DONE[31:31] (R483). -/
def BUF_MARCH_DONE : Fld := ⟨0x40150, 31, 31⟩
/-- BUF.MARCH.RETIRED[30:16] (R483). -/
def BUF_MARCH_RETIRED : Fld := ⟨0x40150, 30, 16⟩
/-- BUF.MARCH.FAULTS[15:0] (R483). -/
def BUF_MARCH_FAULTS : Fld := ⟨0x40150, 15, 0⟩
/-- BUF.FILL_MARK.PAGE[22:0] (R483). -/
def BUF_FILL_MARK_PAGE : Fld := ⟨0x40154, 22, 0⟩
/-- BUF.INJECT.ARM[31:31] (R484). -/
def BUF_INJECT_ARM : Fld := ⟨0x40160, 31, 31⟩
/-- BUF.INJECT.CHIP[30:28] (R484). -/
def BUF_INJECT_CHIP : Fld := ⟨0x40160, 30, 28⟩
/-- BUF.INJECT.BEAT[27:24] (R484). -/
def BUF_INJECT_BEAT : Fld := ⟨0x40160, 27, 24⟩
/-- BUF.INJECT.MASK[7:0] (R484). -/
def BUF_INJECT_MASK : Fld := ⟨0x40160, 7, 0⟩
/-- BUF.RETIRE.VALID[31:31] (R482). -/
def BUF_RETIRE_VALID (i : Nat) : Fld := ⟨0x41000 + 4 * i, 31, 31⟩
/-- BUF.RETIRE.PAGE[22:0] (R482). -/
def BUF_RETIRE_PAGE (i : Nat) : Fld := ⟨0x41000 + 4 * i, 22, 0⟩
/-- BMV.CH_CTRL.WAIT_TRIG[26:26] (R510). -/
def BMV_CH_CTRL_WAIT_TRIG (i : Nat) : Fld := ⟨0x50000 + 0x100 * i, 26, 26⟩
/-- BMV.CH_CTRL.MODE[25:25] (R510). -/
def BMV_CH_CTRL_MODE (i : Nat) : Fld := ⟨0x50000 + 0x100 * i, 25, 25⟩
/-- BMV.CH_CTRL.EN[24:24] (R510). -/
def BMV_CH_CTRL_EN (i : Nat) : Fld := ⟨0x50000 + 0x100 * i, 24, 24⟩
/-- BMV.CH_CTRL.RING_SIZE[11:0] (R510). -/
def BMV_CH_CTRL_RING_SIZE (i : Nat) : Fld := ⟨0x50000 + 0x100 * i, 11, 0⟩
/-- BMV.CH_STATUS.HALTED[28:28] (R511). -/
def BMV_CH_STATUS_HALTED (i : Nat) : Fld := ⟨0x50004 + 0x100 * i, 28, 28⟩
/-- BMV.CH_STATUS.TRIG_PEND[27:27] (R511). -/
def BMV_CH_STATUS_TRIG_PEND (i : Nat) : Fld := ⟨0x50004 + 0x100 * i, 27, 27⟩
/-- BMV.CH_STATUS.HEAD[11:0] (R511). -/
def BMV_CH_STATUS_HEAD (i : Nat) : Fld := ⟨0x50004 + 0x100 * i, 11, 0⟩
/-- BMV.CH_RING_LO.BASE_LO[31:5] (R512). -/
def BMV_CH_RING_LO_BASE_LO (i : Nat) : Fld := ⟨0x50008 + 0x100 * i, 31, 5⟩
/-- BMV.CH_RING_HI.BASE_HI[15:0] (R512). -/
def BMV_CH_RING_HI_BASE_HI (i : Nat) : Fld := ⟨0x5000C + 0x100 * i, 15, 0⟩
/-- BMV.SH_CTL.ARM[31:31] (R514). -/
def BMV_SH_CTL_ARM (i : Nat) : Fld := ⟨0x50040 + 0x100 * i, 31, 31⟩
/-- CACHE.STATUS.WRITE_THROUGH[31:31] (R596). -/
def CACHE_STATUS_WRITE_THROUGH : Fld := ⟨0x60000, 31, 31⟩
/-- CACHE.STATUS.HIGH[30:30] (R596). -/
def CACHE_STATUS_HIGH : Fld := ⟨0x60000, 30, 30⟩
/-- CACHE.STATUS.FREE[21:0] (R596). -/
def CACHE_STATUS_FREE : Fld := ⟨0x60000, 21, 0⟩
/-- CACHE.DIRTY.EXTENTS[21:0] (R597). -/
def CACHE_DIRTY_EXTENTS : Fld := ⟨0x60004, 21, 0⟩
/-- CACHE.WUNC.RANGES[16:0] (R597). -/
def CACHE_WUNC_RANGES : Fld := ⟨0x60008, 16, 0⟩
/-- CACHE.SCHED.PENDING[12:0] (R598). -/
def CACHE_SCHED_PENDING (i : Nat) : Fld := ⟨0x60010 + 4 * i, 12, 0⟩
/-- HIF.SATA.LINK_UP[31:31] (R624). -/
def HIF_SATA_LINK_UP : Fld := ⟨0x70200, 31, 31⟩
/-- HIF.SATA.GEN[30:29] (R624). -/
def HIF_SATA_GEN : Fld := ⟨0x70200, 30, 29⟩
/-- HIF.SATA.SIG_SENT[28:28] (R624). -/
def HIF_SATA_SIG_SENT : Fld := ⟨0x70200, 28, 28⟩
/-- HIF.SATA.SECTOR_4KN[27:27] (R624). -/
def HIF_SATA_SECTOR_4KN : Fld := ⟨0x70200, 27, 27⟩
/-- HIF.SATA.NCQ_LOCK[26:26] (R624). -/
def HIF_SATA_NCQ_LOCK : Fld := ⟨0x70200, 26, 26⟩
/-- HIF.SATA.STANDBY[5:5] (R624). -/
def HIF_SATA_STANDBY : Fld := ⟨0x70200, 5, 5⟩
/-- HIF.SATA.TAGS[4:0] (R624). -/
def HIF_SATA_TAGS : Fld := ⟨0x70200, 4, 0⟩
/-- HIF.SATA_CRC.COUNT[31:0] (R624). -/
def HIF_SATA_CRC_COUNT : Fld := ⟨0x70204, 31, 0⟩
/-- HIF.SLOTS.PAUSED[31:31] (R554). -/
def HIF_SLOTS_PAUSED : Fld := ⟨0x71000, 31, 31⟩
/-- HIF.SLOT_PEAK.PEAK[16:0] (R554). -/
def HIF_SLOT_PEAK_PEAK : Fld := ⟨0x71004, 16, 0⟩
/-- WHL.STATUS.STATE[31:28] (R436). -/
def WHL_STATUS_STATE : Fld := ⟨0x80000, 31, 28⟩
/-- WHL.STATUS.AT_SPEED[27:27] (R436). -/
def WHL_STATUS_AT_SPEED : Fld := ⟨0x80000, 27, 27⟩
/-- WHL.STATUS.SLEW[26:26] (R436). -/
def WHL_STATUS_SLEW : Fld := ⟨0x80000, 26, 26⟩
/-- WHL.STATUS.CAP[25:25] (R436). -/
def WHL_STATUS_CAP : Fld := ⟨0x80000, 25, 25⟩
/-- WHL.STATUS.OVR[24:24] (R436). -/
def WHL_STATUS_OVR : Fld := ⟨0x80000, 24, 24⟩
/-- WHL.STATUS.LINK_UP[23:23] (R436). -/
def WHL_STATUS_LINK_UP : Fld := ⟨0x80000, 23, 23⟩
/-- WHL.STATUS.MOTOR_FAULT[22:22] (R436). -/
def WHL_STATUS_MOTOR_FAULT : Fld := ⟨0x80000, 22, 22⟩
/-- WHL.STATUS.ATTEMPT[21:19] (R436). -/
def WHL_STATUS_ATTEMPT : Fld := ⟨0x80000, 21, 19⟩
/-- WHL.STATUS.FAULT[15:8] (R436). -/
def WHL_STATUS_FAULT : Fld := ⟨0x80000, 15, 8⟩
/-- WHL.SPEED.REF[31:16] (R437). -/
def WHL_SPEED_REF : Fld := ⟨0x80004, 31, 16⟩
/-- WHL.SPEED.S[15:0] (R437). -/
def WHL_SPEED_S : Fld := ⟨0x80004, 15, 0⟩
/-- WHL.TARGET.CAP_RPM[31:16] (R437). -/
def WHL_TARGET_CAP_RPM : Fld := ⟨0x80008, 31, 16⟩
/-- WHL.TARGET.T[15:0] (R437). -/
def WHL_TARGET_T : Fld := ⟨0x80008, 15, 0⟩
/-- WHL.OVERRIDE.EN[31:31] (R438). -/
def WHL_OVERRIDE_EN : Fld := ⟨0x8000C, 31, 31⟩
/-- WHL.OVERRIDE.RPM[15:0] (R438). -/
def WHL_OVERRIDE_RPM : Fld := ⟨0x8000C, 15, 0⟩
/-- WHL.DRIVE.IREF[31:16] (R439). -/
def WHL_DRIVE_IREF : Fld := ⟨0x80010, 31, 16⟩
/-- WHL.DRIVE.IPH[15:0] (R439). -/
def WHL_DRIVE_IPH : Fld := ⟨0x80010, 15, 0⟩
/-- WHL.POLICY.US[31:24] (R439). -/
def WHL_POLICY_US : Fld := ⟨0x80014, 31, 24⟩
/-- WHL.POLICY.UL[23:16] (R439). -/
def WHL_POLICY_UL : Fld := ⟨0x80014, 23, 16⟩
/-- WHL.CNT_ML_CRC.COUNT[31:0] (R440). -/
def WHL_CNT_ML_CRC_COUNT : Fld := ⟨0x80020, 31, 0⟩
/-- WHL.CNT_ML_SEQ.COUNT[31:0] (R440). -/
def WHL_CNT_ML_SEQ_COUNT : Fld := ⟨0x80024, 31, 0⟩
/-- WHL.CNT_LINK_DOWN.COUNT[31:0] (R440). -/
def WHL_CNT_LINK_DOWN_COUNT : Fld := ⟨0x80028, 31, 0⟩
/-- WHL.CNT_START_FAIL.COUNT[31:0] (R440). -/
def WHL_CNT_START_FAIL_COUNT : Fld := ⟨0x8002C, 31, 0⟩
/-- WHL.REG_ACCESS.GO[31:31] (R441). -/
def WHL_REG_ACCESS_GO : Fld := ⟨0x80030, 31, 31⟩
/-- WHL.REG_ACCESS.READ[30:30] (R441). -/
def WHL_REG_ACCESS_READ : Fld := ⟨0x80030, 30, 30⟩
/-- WHL.REG_ACCESS.ERR[29:29] (R441). -/
def WHL_REG_ACCESS_ERR : Fld := ⟨0x80030, 29, 29⟩
/-- WHL.REG_ACCESS.ADDR[23:16] (R441). -/
def WHL_REG_ACCESS_ADDR : Fld := ⟨0x80030, 23, 16⟩
/-- WHL.REG_ACCESS.DATA[15:0] (R441). -/
def WHL_REG_ACCESS_DATA : Fld := ⟨0x80030, 15, 0⟩
/-- KLN.STATUS.SHUT_STATE[31:29] (R643). -/
def KLN_STATUS_SHUT_STATE : Fld := ⟨0x90000, 31, 29⟩
/-- KLN.STATUS.CONE3[28:28] (R643). -/
def KLN_STATUS_CONE3 : Fld := ⟨0x90000, 28, 28⟩
/-- KLN.STATUS.CONE2[27:27] (R643). -/
def KLN_STATUS_CONE2 : Fld := ⟨0x90000, 27, 27⟩
/-- KLN.STATUS.CONE1[26:26] (R643). -/
def KLN_STATUS_CONE1 : Fld := ⟨0x90000, 26, 26⟩
/-- KLN.STATUS.WRITE_OPEN[25:25] (R643). -/
def KLN_STATUS_WRITE_OPEN : Fld := ⟨0x90000, 25, 25⟩
/-- KLN.STATUS.LKO_PACED[24:24] (R643). -/
def KLN_STATUS_LKO_PACED : Fld := ⟨0x90000, 24, 24⟩
/-- KLN.STATUS.RESTARTS[23:20] (R643). -/
def KLN_STATUS_RESTARTS : Fld := ⟨0x90000, 23, 20⟩
/-- KLN.TEMP.VALID[31:31] (R644). -/
def KLN_TEMP_VALID (i : Nat) : Fld := ⟨0x90010 + 4 * i, 31, 31⟩
/-- KLN.TEMP.READING[15:0] (R644). -/
def KLN_TEMP_READING (i : Nat) : Fld := ⟨0x90010 + 4 * i, 15, 0⟩
/-- KLN.PEAK.MAX[31:16] (R645). -/
def KLN_PEAK_MAX (i : Nat) : Fld := ⟨0x90040 + 4 * i, 31, 16⟩
/-- KLN.PEAK.MIN[15:0] (R645). -/
def KLN_PEAK_MIN (i : Nat) : Fld := ⟨0x90040 + 4 * i, 15, 0⟩
/-- KLN.HOLD.LEFT_S[15:0] (R645). -/
def KLN_HOLD_LEFT_S : Fld := ⟨0x90080, 15, 0⟩
/-- LKO.STATUS.DEV_CAUSE[31:28] (R669). -/
def LKO_STATUS_DEV_CAUSE : Fld := ⟨0xA0000, 31, 28⟩
/-- LKO.STATUS.DEV_STATE[27:25] (R669). -/
def LKO_STATUS_DEV_STATE : Fld := ⟨0xA0000, 27, 25⟩
/-- LKO.STATUS.CAL_VALID[24:24] (R669). -/
def LKO_STATUS_CAL_VALID : Fld := ⟨0xA0000, 24, 24⟩
/-- LKO.STATUS.LANE_OUT[23:20] (R669). -/
def LKO_STATUS_LANE_OUT : Fld := ⟨0xA0000, 23, 20⟩
/-- LKO.STATUS.WG_CUT[19:16] (R669). -/
def LKO_STATUS_WG_CUT : Fld := ⟨0xA0000, 19, 16⟩
/-- LKO.LANE.CAUSE[31:28] (R670). -/
def LKO_LANE_CAUSE (i : Nat) : Fld := ⟨0xA0010 + 4 * i, 31, 28⟩
/-- LKO.LANE.RETURNS[27:25] (R670). -/
def LKO_LANE_RETURNS (i : Nat) : Fld := ⟨0xA0010 + 4 * i, 27, 25⟩
/-- LKO.OSC.CAL[23:0] (R671). -/
def LKO_OSC_CAL : Fld := ⟨0xA0020, 23, 0⟩
/-- LKO.TRIP.V5_TRIP[31:16] (R671). -/
def LKO_TRIP_V5_TRIP : Fld := ⟨0xA0024, 31, 16⟩
/-- LKO.TRIP.V12_TRIP[15:0] (R671). -/
def LKO_TRIP_V12_TRIP : Fld := ⟨0xA0024, 15, 0⟩
/-- LKO.LIMITS.OVERSPEED_RPM[31:16] (R671). -/
def LKO_LIMITS_OVERSPEED_RPM : Fld := ⟨0xA0028, 31, 16⟩
/-- LKO.LIMITS.WEDGE_TIMEOUT_US[15:0] (R671). -/
def LKO_LIMITS_WEDGE_TIMEOUT_US : Fld := ⟨0xA0028, 15, 0⟩
/-- LKO.CNT_WG_CUT.COUNT[31:0] (R673). -/
def LKO_CNT_WG_CUT_COUNT (i : Nat) : Fld := ⟨0xA0040 + 4 * i, 31, 0⟩
/-- CRN.FLUSH.GO[31:31] (R700). -/
def CRN_FLUSH_GO : Fld := ⟨0xB0038, 31, 31⟩
/-- CRN.MISSED.COUNT[15:0] (R700). -/
def CRN_MISSED_COUNT (i : Nat) : Fld := ⟨0xB0040 + 4 * i, 15, 0⟩
/-- SBD.STATUS.EID_VALID[28:28] (R715). -/
def SBD_STATUS_EID_VALID : Fld := ⟨0xC0000, 28, 28⟩
/-- SBD.STATUS.ADDR_VALID[27:27] (R715). -/
def SBD_STATUS_ADDR_VALID : Fld := ⟨0xC0000, 27, 27⟩
/-- SBD.STATUS.HOST_LINK_LOST[23:23] (R715). -/
def SBD_STATUS_HOST_LINK_LOST : Fld := ⟨0xC0000, 23, 23⟩
/-- SBD.ADDR.EID[15:8] (R716). -/
def SBD_ADDR_EID : Fld := ⟨0xC0004, 15, 8⟩
/-- SBD.ADDR.ADDR[6:0] (R716). -/
def SBD_ADDR_ADDR : Fld := ⟨0xC0004, 6, 0⟩
/-- SBD.GATE.OPEN[31:31] (R716). -/
def SBD_GATE_OPEN : Fld := ⟨0xC0008, 31, 31⟩
/-- SBD.GATE.TIMEOUT_S[15:0] (R716). -/
def SBD_GATE_TIMEOUT_S : Fld := ⟨0xC0008, 15, 0⟩
/-- SBD.CNT_MCTP_ERR.COUNT[31:0] (R716). -/
def SBD_CNT_MCTP_ERR_COUNT : Fld := ⟨0xC0010, 31, 0⟩
/-- PWR.AVS_CTRL.VMAX[25:16] (R133). -/
def PWR_AVS_CTRL_VMAX : Fld := ⟨0xD0000, 25, 16⟩
/-- PWR.AVS_CTRL.VMIN[9:0] (R133). -/
def PWR_AVS_CTRL_VMIN : Fld := ⟨0xD0000, 9, 0⟩
/-- PWR.AVS_STATUS.NO_RESPONSE[31:31] (R134). -/
def PWR_AVS_STATUS_NO_RESPONSE : Fld := ⟨0xD0004, 31, 31⟩
/-- PWR.AVS_STATUS.TARGET[25:16] (R134). -/
def PWR_AVS_STATUS_TARGET : Fld := ⟨0xD0004, 25, 16⟩
/-- PWR.AVS_STATUS.READBACK[9:0] (R134). -/
def PWR_AVS_STATUS_READBACK : Fld := ⟨0xD0004, 9, 0⟩
/-- PWR.GATE_IDLE.IDLE_US[15:0] (R128). -/
def PWR_GATE_IDLE_IDLE_US : Fld := ⟨0xD0010, 15, 0⟩
/-- CHN.CTRL.RECOVERY[8:8] (R254). -/
def CHN_CTRL_RECOVERY (n : Nat) : Fld := ⟨0x100000 + 0x40000 * n, 8, 8⟩
/-- CHN.CTRL.WSET[7:6] (R254). -/
def CHN_CTRL_WSET (n : Nat) : Fld := ⟨0x100000 + 0x40000 * n, 7, 6⟩
/-- CHN.CTRL.PRESET_SEL[5:4] (R254). -/
def CHN_CTRL_PRESET_SEL (n : Nat) : Fld := ⟨0x100000 + 0x40000 * n, 5, 4⟩
/-- CHN.STATUS.BANK_FULL[30:30] (R255). -/
def CHN_STATUS_BANK_FULL (n : Nat) : Fld := ⟨0x100004 + 0x40000 * n, 30, 30⟩
/-- CHN.STATUS.FREQ_LIMIT[29:29] (R255). -/
def CHN_STATUS_FREQ_LIMIT (n : Nat) : Fld := ⟨0x100004 + 0x40000 * n, 29, 29⟩
/-- CHN.STATUS.CAP[28:24] (R255). -/
def CHN_STATUS_CAP (n : Nat) : Fld := ⟨0x100004 + 0x40000 * n, 28, 24⟩
/-- CHN.STATUS.LAST_LOCAL[23:17] (R255). -/
def CHN_STATUS_LAST_LOCAL (n : Nat) : Fld := ⟨0x100004 + 0x40000 * n, 23, 17⟩
/-- CHN.STATUS.LAST_PASSES[16:12] (R255). -/
def CHN_STATUS_LAST_PASSES (n : Nat) : Fld := ⟨0x100004 + 0x40000 * n, 16, 12⟩
/-- CHN.STATUS.LAST_CAUSE[11:8] (R255). -/
def CHN_STATUS_LAST_CAUSE (n : Nat) : Fld := ⟨0x100004 + 0x40000 * n, 11, 8⟩
/-- CHN.STATUS.BANK_USED[7:4] (R255). -/
def CHN_STATUS_BANK_USED (n : Nat) : Fld := ⟨0x100004 + 0x40000 * n, 7, 4⟩
/-- CHN.ACTIVE.VALID[31:31] (R256). -/
def CHN_ACTIVE_VALID (n : Nat) : Fld := ⟨0x100008 + 0x40000 * n, 31, 31⟩
/-- CHN.ACTIVE.HEAD[28:24] (R256). -/
def CHN_ACTIVE_HEAD (n : Nat) : Fld := ⟨0x100008 + 0x40000 * n, 28, 24⟩
/-- CHN.ACTIVE.ZONE[21:16] (R256). -/
def CHN_ACTIVE_ZONE (n : Nat) : Fld := ⟨0x100008 + 0x40000 * n, 21, 16⟩
/-- CHN.ACTIVE.REF_READER[5:4] (R256). -/
def CHN_ACTIVE_REF_READER (n : Nat) : Fld := ⟨0x100008 + 0x40000 * n, 5, 4⟩
/-- CHN.ACTIVE.READERS[2:0] (R256). -/
def CHN_ACTIVE_READERS (n : Nat) : Fld := ⟨0x100008 + 0x40000 * n, 2, 0⟩
/-- CHN.ITER_LIMIT.REC_GLOBAL[28:24] (R257). -/
def CHN_ITER_LIMIT_REC_GLOBAL (n : Nat) : Fld := ⟨0x100010 + 0x40000 * n, 28, 24⟩
/-- CHN.ITER_LIMIT.REC_LOCAL[22:16] (R257). -/
def CHN_ITER_LIMIT_REC_LOCAL (n : Nat) : Fld := ⟨0x100010 + 0x40000 * n, 22, 16⟩
/-- CHN.AGC.GAIN[27:16] (R259). -/
def CHN_AGC_GAIN (n i : Nat) : Fld := ⟨0x100030 + 0x40000 * n + 4 * i, 27, 16⟩
/-- CHN.AGC.OFFSET[11:0] (R259). -/
def CHN_AGC_OFFSET (n i : Nat) : Fld := ⟨0x100030 + 0x40000 * n + 4 * i, 11, 0⟩
/-- CHN.ASYM.CLIPPED[31:16] (R260). -/
def CHN_ASYM_CLIPPED (n i : Nat) : Fld := ⟨0x100040 + 0x40000 * n + 4 * i, 31, 16⟩
/-- CHN.ASYM.ASYM[15:0] (R260). -/
def CHN_ASYM_ASYM (n i : Nat) : Fld := ⟨0x100040 + 0x40000 * n + 4 * i, 15, 0⟩
/-- CHN.TIMING.FREQ[31:16] (R261). -/
def CHN_TIMING_FREQ (n : Nat) : Fld := ⟨0x10004C + 0x40000 * n, 31, 16⟩
/-- CHN.TIMING.PHASE[5:0] (R261). -/
def CHN_TIMING_PHASE (n : Nat) : Fld := ⟨0x10004C + 0x40000 * n, 5, 0⟩
/-- CHN.EQ_MSE.SNR[31:16] (R262). -/
def CHN_EQ_MSE_SNR (n : Nat) : Fld := ⟨0x100050 + 0x40000 * n, 31, 16⟩
/-- CHN.EQ_MSE.MSE[15:0] (R262). -/
def CHN_EQ_MSE_MSE (n : Nat) : Fld := ⟨0x100050 + 0x40000 * n, 15, 0⟩
/-- CHN.CNT_READ.COUNT[31:0] (R263). -/
def CHN_CNT_READ_COUNT (n : Nat) : Fld := ⟨0x100060 + 0x40000 * n, 31, 0⟩
/-- CHN.CNT_FIRST_PASS.COUNT[31:0] (R263). -/
def CHN_CNT_FIRST_PASS_COUNT (n : Nat) : Fld := ⟨0x100064 + 0x40000 * n, 31, 0⟩
/-- CHN.CNT_FAIL.COUNT[31:0] (R263). -/
def CHN_CNT_FAIL_COUNT (n : Nat) : Fld := ⟨0x100068 + 0x40000 * n, 31, 0⟩
/-- CHN.CNT_CRC.COUNT[31:0] (R263). -/
def CHN_CNT_CRC_COUNT (n : Nat) : Fld := ⟨0x10006C + 0x40000 * n, 31, 0⟩
/-- CHN.CNT_BANK_CUT.COUNT[31:0] (R263). -/
def CHN_CNT_BANK_CUT_COUNT (n : Nat) : Fld := ⟨0x100070 + 0x40000 * n, 31, 0⟩
/-- CHN.CNT_OVERRUN.COUNT[31:0] (R263). -/
def CHN_CNT_OVERRUN_COUNT (n : Nat) : Fld := ⟨0x100074 + 0x40000 * n, 31, 0⟩
/-- CHN.ITER_HIST.COUNT[31:0] (R263). -/
def CHN_ITER_HIST_COUNT (n i : Nat) : Fld := ⟨0x100080 + 0x40000 * n + 4 * i, 31, 0⟩
/-- CHN.MARGIN_CTRL.RUN[31:31] (R264). -/
def CHN_MARGIN_CTRL_RUN (n : Nat) : Fld := ⟨0x1000C0 + 0x40000 * n, 31, 31⟩
/-- CHN.MARGIN_CTRL.SECTORS[15:0] (R264). -/
def CHN_MARGIN_CTRL_SECTORS (n : Nat) : Fld := ⟨0x1000C0 + 0x40000 * n, 15, 0⟩
/-- CHN.MARGIN_SECT.FAILED[31:16] (R265). -/
def CHN_MARGIN_SECT_FAILED (n : Nat) : Fld := ⟨0x1000C4 + 0x40000 * n, 31, 16⟩
/-- CHN.MARGIN_SECT.DELIVERED[15:0] (R265). -/
def CHN_MARGIN_SECT_DELIVERED (n : Nat) : Fld := ⟨0x1000C4 + 0x40000 * n, 15, 0⟩
/-- CHN.MARGIN_SECT, whole (R265). -/
def CHN_MARGIN_SECT (n : Nat) : Fld := ⟨0x1000C4 + 0x40000 * n, 31, 0⟩
/-- CHN.MARGIN_BITS_LO.BITS[31:0] (R265). -/
def CHN_MARGIN_BITS_LO_BITS (n : Nat) : Fld := ⟨0x1000C8 + 0x40000 * n, 31, 0⟩
/-- CHN.MARGIN_BITS_LO, whole (R265). -/
def CHN_MARGIN_BITS_LO (n : Nat) : Fld := ⟨0x1000C8 + 0x40000 * n, 31, 0⟩
/-- CHN.MARGIN_BITS_HI.BITS[31:0] (R265). -/
def CHN_MARGIN_BITS_HI_BITS (n : Nat) : Fld := ⟨0x1000CC + 0x40000 * n, 31, 0⟩
/-- CHN.MARGIN_BITS_HI, whole (R265). -/
def CHN_MARGIN_BITS_HI (n : Nat) : Fld := ⟨0x1000CC + 0x40000 * n, 31, 0⟩
/-- CHN.MARGIN_MSE.SNR[31:16] (R265). -/
def CHN_MARGIN_MSE_SNR (n : Nat) : Fld := ⟨0x1000D0 + 0x40000 * n, 31, 16⟩
/-- CHN.MARGIN_MSE.MSE[15:0] (R265). -/
def CHN_MARGIN_MSE_MSE (n : Nat) : Fld := ⟨0x1000D0 + 0x40000 * n, 15, 0⟩
/-- CHN.MARGIN_MSE, whole (R265). -/
def CHN_MARGIN_MSE (n : Nat) : Fld := ⟨0x1000D0 + 0x40000 * n, 31, 0⟩
/-- CHN.RCV_STATUS.ACTIVE[31:31] (R323). -/
def CHN_RCV_STATUS_ACTIVE (n : Nat) : Fld := ⟨0x100100 + 0x40000 * n, 31, 31⟩
/-- CHN.RCV_STATUS.STEP[23:20] (R323). -/
def CHN_RCV_STATUS_STEP (n : Nat) : Fld := ⟨0x100100 + 0x40000 * n, 23, 20⟩
/-- CHN.RCV_STATUS.ATTEMPT[19:16] (R323). -/
def CHN_RCV_STATUS_ATTEMPT (n : Nat) : Fld := ⟨0x100100 + 0x40000 * n, 19, 16⟩
/-- CHN.RCV_STATUS.OUTSTANDING[15:0] (R323). -/
def CHN_RCV_STATUS_OUTSTANDING (n : Nat) : Fld := ⟨0x100100 + 0x40000 * n, 15, 0⟩
/-- CHN.RCV_ELAPSED.US[31:0] (R324). -/
def CHN_RCV_ELAPSED_US (n : Nat) : Fld := ⟨0x100104 + 0x40000 * n, 31, 0⟩
/-- CHN.RCV_OK.COUNT[31:0] (R325). -/
def CHN_RCV_OK_COUNT (n i : Nat) : Fld := ⟨0x100140 + 0x40000 * n + 4 * i, 31, 0⟩
/-- CHN.RCV_UNREC.COUNT[31:0] (R325). -/
def CHN_RCV_UNREC_COUNT (n : Nat) : Fld := ⟨0x100180 + 0x40000 * n, 31, 0⟩
/-- CHN.RCV_TIMEOUT.COUNT[31:0] (R325). -/
def CHN_RCV_TIMEOUT_COUNT (n : Nat) : Fld := ⟨0x100184 + 0x40000 * n, 31, 0⟩
/-- CHN.RCV_PENDING.ENTRIES[14:0] (R326). -/
def CHN_RCV_PENDING_ENTRIES (n : Nat) : Fld := ⟨0x100188 + 0x40000 * n, 14, 0⟩
/-- FMT.SYNC_CTRL.FORCE_BACKUP[31:31] (R295). -/
def FMT_SYNC_CTRL_FORCE_BACKUP (n : Nat) : Fld := ⟨0x110000 + 0x40000 * n, 31, 31⟩
/-- FMT.SYNC_CTRL.SYNC_WIN[13:8] (R295). -/
def FMT_SYNC_CTRL_SYNC_WIN (n : Nat) : Fld := ⟨0x110000 + 0x40000 * n, 13, 8⟩
/-- FMT.SYNC_CTRL.SYNC_THRESH[3:0] (R295). -/
def FMT_SYNC_CTRL_SYNC_THRESH (n : Nat) : Fld := ⟨0x110000 + 0x40000 * n, 3, 0⟩
/-- FMT.FRAME_STATUS.VALID[31:31] (R296). -/
def FMT_FRAME_STATUS_VALID (n : Nat) : Fld := ⟨0x110004 + 0x40000 * n, 31, 31⟩
/-- FMT.FRAME_STATUS.OUTCOME[27:24] (R296). -/
def FMT_FRAME_STATUS_OUTCOME (n : Nat) : Fld := ⟨0x110004 + 0x40000 * n, 27, 24⟩
/-- FMT.FRAME_STATUS.OFFSET[23:16] (R296). -/
def FMT_FRAME_STATUS_OFFSET (n : Nat) : Fld := ⟨0x110004 + 0x40000 * n, 23, 16⟩
/-- FMT.FRAME_STATUS.SECTOR[15:0] (R296). -/
def FMT_FRAME_STATUS_SECTOR (n : Nat) : Fld := ⟨0x110004 + 0x40000 * n, 15, 0⟩
/-- FMT.WRITE_CTRL.PREHEAT_WEDGES[21:16] (R297). -/
def FMT_WRITE_CTRL_PREHEAT_WEDGES (n : Nat) : Fld := ⟨0x110008 + 0x40000 * n, 21, 16⟩
/-- FMT.WRITE_CTRL.WG_TRAIL[13:8] (R297). -/
def FMT_WRITE_CTRL_WG_TRAIL (n : Nat) : Fld := ⟨0x110008 + 0x40000 * n, 13, 8⟩
/-- FMT.WRITE_CTRL.WG_LEAD[5:0] (R297). -/
def FMT_WRITE_CTRL_WG_LEAD (n : Nat) : Fld := ⟨0x110008 + 0x40000 * n, 5, 0⟩
/-- FMT.CNT_REFRAME.COUNT[31:0] (R298). -/
def FMT_CNT_REFRAME_COUNT (n : Nat) : Fld := ⟨0x110010 + 0x40000 * n, 31, 0⟩
/-- FMT.CNT_BACKUP_ONLY.COUNT[31:0] (R298). -/
def FMT_CNT_BACKUP_ONLY_COUNT (n : Nat) : Fld := ⟨0x110014 + 0x40000 * n, 31, 0⟩
/-- FMT.CNT_BACKUP_MISSED.COUNT[31:0] (R298). -/
def FMT_CNT_BACKUP_MISSED_COUNT (n : Nat) : Fld := ⟨0x110018 + 0x40000 * n, 31, 0⟩
/-- FMT.CNT_NO_SYNC.COUNT[31:0] (R298). -/
def FMT_CNT_NO_SYNC_COUNT (n : Nat) : Fld := ⟨0x11001C + 0x40000 * n, 31, 0⟩
/-- FMT.PSP_ACCESS.GO[31:31] (R299). -/
def FMT_PSP_ACCESS_GO (n : Nat) : Fld := ⟨0x110020 + 0x40000 * n, 31, 31⟩
/-- FMT.PSP_ACCESS.READ[30:30] (R299). -/
def FMT_PSP_ACCESS_READ (n : Nat) : Fld := ⟨0x110020 + 0x40000 * n, 30, 30⟩
/-- FMT.PSP_ACCESS.ERR[29:29] (R299). -/
def FMT_PSP_ACCESS_ERR (n : Nat) : Fld := ⟨0x110020 + 0x40000 * n, 29, 29⟩
/-- FMT.PSP_ACCESS.ADDR[22:16] (R299). -/
def FMT_PSP_ACCESS_ADDR (n : Nat) : Fld := ⟨0x110020 + 0x40000 * n, 22, 16⟩
/-- FMT.PSP_ACCESS.DATA[15:0] (R299). -/
def FMT_PSP_ACCESS_DATA (n : Nat) : Fld := ⟨0x110020 + 0x40000 * n, 15, 0⟩
/-- FMT.MTS_STATUS.LOCKED[31:31] (R123). -/
def FMT_MTS_STATUS_LOCKED (n : Nat) : Fld := ⟨0x110F00 + 0x40000 * n, 31, 31⟩
/-- FMT.MTS_STATUS.COAST[30:30] (R123). -/
def FMT_MTS_STATUS_COAST (n : Nat) : Fld := ⟨0x110F00 + 0x40000 * n, 30, 30⟩
/-- FMT.MTS_STATUS.WEDGE_PERIOD[23:0] (R123). -/
def FMT_MTS_STATUS_WEDGE_PERIOD (n : Nat) : Fld := ⟨0x110F00 + 0x40000 * n, 23, 0⟩
/-- SVE.CTRL.AUTO[1:1] (R366). -/
def SVE_CTRL_AUTO (n : Nat) : Fld := ⟨0x120000 + 0x40000 * n, 1, 1⟩
/-- SVE.CTRL.ARM[0:0] (R366). -/
def SVE_CTRL_ARM (n : Nat) : Fld := ⟨0x120000 + 0x40000 * n, 0, 0⟩
/-- SVE.STATUS.MODE[31:29] (R367). -/
def SVE_STATUS_MODE (n : Nat) : Fld := ⟨0x120004 + 0x40000 * n, 31, 29⟩
/-- SVE.STATUS.SAT[28:28] (R367). -/
def SVE_STATUS_SAT (n : Nat) : Fld := ⟨0x120004 + 0x40000 * n, 28, 28⟩
/-- SVE.STATUS.FROZEN[27:27] (R367). -/
def SVE_STATUS_FROZEN (n : Nat) : Fld := ⟨0x120004 + 0x40000 * n, 27, 27⟩
/-- SVE.STATUS.VALID[26:26] (R367). -/
def SVE_STATUS_VALID (n : Nat) : Fld := ⟨0x120004 + 0x40000 * n, 26, 26⟩
/-- SVE.STATUS.SECT_SAT[25:25] (R367). -/
def SVE_STATUS_SECT_SAT (n : Nat) : Fld := ⟨0x120004 + 0x40000 * n, 25, 25⟩
/-- SVE.STATUS.BAND[18:16] (R367). -/
def SVE_STATUS_BAND (n : Nat) : Fld := ⟨0x120004 + 0x40000 * n, 18, 16⟩
/-- SVE.STATUS.DWELL_CNT[15:8] (R367). -/
def SVE_STATUS_DWELL_CNT (n : Nat) : Fld := ⟨0x120004 + 0x40000 * n, 15, 8⟩
/-- SVE.STATUS.INVALID_RUN[1:0] (R367). -/
def SVE_STATUS_INVALID_RUN (n : Nat) : Fld := ⟨0x120004 + 0x40000 * n, 1, 0⟩
/-- SVE.PES.E_TF[31:16] (R368). -/
def SVE_PES_E_TF (n : Nat) : Fld := ⟨0x120008 + 0x40000 * n, 31, 16⟩
/-- SVE.PES.E[15:0] (R368). -/
def SVE_PES_E (n : Nat) : Fld := ⟨0x120008 + 0x40000 * n, 15, 0⟩
/-- SVE.OUTPUT.U_MA[31:16] (R368). -/
def SVE_OUTPUT_U_MA (n : Nat) : Fld := ⟨0x12000C + 0x40000 * n, 31, 16⟩
/-- SVE.OUTPUT.U_VCM[15:0] (R368). -/
def SVE_OUTPUT_U_VCM (n : Nat) : Fld := ⟨0x12000C + 0x40000 * n, 15, 0⟩
/-- SVE.INTEG.I[31:0] (R369). -/
def SVE_INTEG_I (n : Nat) : Fld := ⟨0x120010 + 0x40000 * n, 31, 0⟩
/-- SVE.TF_OFFSET.HELD[16:16] (R370). -/
def SVE_TF_OFFSET_HELD (n : Nat) : Fld := ⟨0x120014 + 0x40000 * n, 16, 16⟩
/-- SVE.TF_OFFSET.OFFSET[15:0] (R370). -/
def SVE_TF_OFFSET_OFFSET (n : Nat) : Fld := ⟨0x120014 + 0x40000 * n, 15, 0⟩
/-- SVE.BAND.PENDING[31:31] (R371). -/
def SVE_BAND_PENDING (n : Nat) : Fld := ⟨0x120018 + 0x40000 * n, 31, 31⟩
/-- SVE.BAND.TARGET[18:16] (R371). -/
def SVE_BAND_TARGET (n : Nat) : Fld := ⟨0x120018 + 0x40000 * n, 18, 16⟩
/-- SVE.BAND.SPEED[15:0] (R371). -/
def SVE_BAND_SPEED (n : Nat) : Fld := ⟨0x120018 + 0x40000 * n, 15, 0⟩
/-- SVE.CNT_SAT.COUNT[31:0] (R372). -/
def SVE_CNT_SAT_COUNT (n : Nat) : Fld := ⟨0x120020 + 0x40000 * n, 31, 0⟩
/-- SVE.CNT_INVALID.COUNT[31:0] (R372). -/
def SVE_CNT_INVALID_COUNT (n : Nat) : Fld := ⟨0x120024 + 0x40000 * n, 31, 0⟩
/-- SVE.CNT_LATE.COUNT[31:0] (R372). -/
def SVE_CNT_LATE_COUNT (n : Nat) : Fld := ⟨0x120028 + 0x40000 * n, 31, 0⟩
/-- SVE.CNT_SWAP.COUNT[31:0] (R372). -/
def SVE_CNT_SWAP_COUNT (n : Nat) : Fld := ⟨0x12002C + 0x40000 * n, 31, 0⟩
/-- SVE.INJ_CTRL.RUN[31:31] (R373). -/
def SVE_INJ_CTRL_RUN (n : Nat) : Fld := ⟨0x120040 + 0x40000 * n, 31, 31⟩
/-- SVE.INJ_CTRL.ERR[29:29] (R373). -/
def SVE_INJ_CTRL_ERR (n : Nat) : Fld := ⟨0x120040 + 0x40000 * n, 29, 29⟩
/-- SVE.INJ_CTRL.POINT[28:27] (R373). -/
def SVE_INJ_CTRL_POINT (n : Nat) : Fld := ⟨0x120040 + 0x40000 * n, 28, 27⟩
/-- SVE.INJ_CTRL.WAVE[26:25] (R373). -/
def SVE_INJ_CTRL_WAVE (n : Nat) : Fld := ⟨0x120040 + 0x40000 * n, 26, 25⟩
/-- SVE.INJ_CTRL.ORDER[24:22] (R373). -/
def SVE_INJ_CTRL_ORDER (n : Nat) : Fld := ⟨0x120040 + 0x40000 * n, 24, 22⟩
/-- SVE.INJ_CTRL.HOLD[21:18] (R373). -/
def SVE_INJ_CTRL_HOLD (n : Nat) : Fld := ⟨0x120040 + 0x40000 * n, 21, 18⟩
/-- SVE.INJ_CTRL.AMP[15:0] (R373). -/
def SVE_INJ_CTRL_AMP (n : Nat) : Fld := ⟨0x120040 + 0x40000 * n, 15, 0⟩
/-- SVE.INJ_FREQ.F1[31:16] (R374). -/
def SVE_INJ_FREQ_F1 (n : Nat) : Fld := ⟨0x120044 + 0x40000 * n, 31, 16⟩
/-- SVE.INJ_FREQ.F0[15:0] (R374). -/
def SVE_INJ_FREQ_F0 (n : Nat) : Fld := ⟨0x120044 + 0x40000 * n, 15, 0⟩
/-- SVE.INJ_SWEEP.RATE[15:0] (R374). -/
def SVE_INJ_SWEEP_RATE (n : Nat) : Fld := ⟨0x120048 + 0x40000 * n, 15, 0⟩
/-- SVE.CAP_CTRL.TRIG[29:28] (R375). -/
def SVE_CAP_CTRL_TRIG (n : Nat) : Fld := ⟨0x120060 + 0x40000 * n, 29, 28⟩
/-- SVE.CAP_CTRL.SEL_B[27:24] (R375). -/
def SVE_CAP_CTRL_SEL_B (n : Nat) : Fld := ⟨0x120060 + 0x40000 * n, 27, 24⟩
/-- SVE.CAP_CTRL.SEL_A[23:20] (R375). -/
def SVE_CAP_CTRL_SEL_A (n : Nat) : Fld := ⟨0x120060 + 0x40000 * n, 23, 20⟩
/-- SVE.CAP_CTRL.DECIM[7:0] (R375). -/
def SVE_CAP_CTRL_DECIM (n : Nat) : Fld := ⟨0x120060 + 0x40000 * n, 7, 0⟩
/-- SVE.CAP_COUNT.COUNT[12:0] (R376). -/
def SVE_CAP_COUNT_COUNT (n : Nat) : Fld := ⟨0x120064 + 0x40000 * n, 12, 0⟩
/-- SVE.CAP_STATUS.DONE[31:31] (R376). -/
def SVE_CAP_STATUS_DONE (n : Nat) : Fld := ⟨0x120068 + 0x40000 * n, 31, 31⟩
/-- SVE.CAP_STATUS.RUN[30:30] (R376). -/
def SVE_CAP_STATUS_RUN (n : Nat) : Fld := ⟨0x120068 + 0x40000 * n, 30, 30⟩
/-- SVE.CAP_STATUS.ARMED[29:29] (R376). -/
def SVE_CAP_STATUS_ARMED (n : Nat) : Fld := ⟨0x120068 + 0x40000 * n, 29, 29⟩
/-- SVE.CAP_STATUS.INVALID[27:14] (R376). -/
def SVE_CAP_STATUS_INVALID (n : Nat) : Fld := ⟨0x120068 + 0x40000 * n, 27, 14⟩
/-- SVE.CAP_STATUS.WRITTEN[13:0] (R376). -/
def SVE_CAP_STATUS_WRITTEN (n : Nat) : Fld := ⟨0x120068 + 0x40000 * n, 13, 0⟩
/-- SEK.CMD.GO[31:31] (R398). -/
def SEK_CMD_GO (n : Nat) : Fld := ⟨0x130000 + 0x40000 * n, 31, 31⟩
/-- SEK.CMD.ACTION[30:28] (R398). -/
def SEK_CMD_ACTION (n : Nat) : Fld := ⟨0x130000 + 0x40000 * n, 30, 28⟩
/-- SEK.CMD.HEAD[26:24] (R398). -/
def SEK_CMD_HEAD (n : Nat) : Fld := ⟨0x130000 + 0x40000 * n, 26, 24⟩
/-- SEK.CMD.TARGET[21:0] (R398). -/
def SEK_CMD_TARGET (n : Nat) : Fld := ⟨0x130000 + 0x40000 * n, 21, 0⟩
/-- SEK.STATUS.STATE[31:28] (R399). -/
def SEK_STATUS_STATE (n : Nat) : Fld := ⟨0x130004 + 0x40000 * n, 31, 28⟩
/-- SEK.STATUS.ERR[27:27] (R399). -/
def SEK_STATUS_ERR (n : Nat) : Fld := ⟨0x130004 + 0x40000 * n, 27, 27⟩
/-- SEK.STATUS.DEFERS[23:16] (R399). -/
def SEK_STATUS_DEFERS (n : Nat) : Fld := ⟨0x130004 + 0x40000 * n, 23, 16⟩
/-- SEK.STATUS.LEFT[15:0] (R399). -/
def SEK_STATUS_LEFT (n : Nat) : Fld := ⟨0x130004 + 0x40000 * n, 15, 0⟩
/-- SEK.PLAN_A.NA[31:16] (R400). -/
def SEK_PLAN_A_NA (n : Nat) : Fld := ⟨0x130008 + 0x40000 * n, 31, 16⟩
/-- SEK.PLAN_A.NJ[15:0] (R400). -/
def SEK_PLAN_A_NJ (n : Nat) : Fld := ⟨0x130008 + 0x40000 * n, 15, 0⟩
/-- SEK.PLAN_V.PEAK[31:16] (R400). -/
def SEK_PLAN_V_PEAK (n : Nat) : Fld := ⟨0x13000C + 0x40000 * n, 31, 16⟩
/-- SEK.PLAN_V.NV[15:0] (R400). -/
def SEK_PLAN_V_NV (n : Nat) : Fld := ⟨0x13000C + 0x40000 * n, 15, 0⟩
/-- SEK.POS_LO.POS[31:0] (R401). -/
def SEK_POS_LO_POS (n : Nat) : Fld := ⟨0x130010 + 0x40000 * n, 31, 0⟩
/-- SEK.POS_HI.POS[1:0] (R401). -/
def SEK_POS_HI_POS (n : Nat) : Fld := ⟨0x130014 + 0x40000 * n, 1, 0⟩
/-- SEK.DEMOD.N[31:16] (R402). -/
def SEK_DEMOD_N (n : Nat) : Fld := ⟨0x130018 + 0x40000 * n, 31, 16⟩
/-- SEK.DEMOD.Q[15:0] (R402). -/
def SEK_DEMOD_Q (n : Nat) : Fld := ⟨0x130018 + 0x40000 * n, 15, 0⟩
/-- SEK.WEDGE.RRO[31:16] (R402). -/
def SEK_WEDGE_RRO (n : Nat) : Fld := ⟨0x13001C + 0x40000 * n, 31, 16⟩
/-- SEK.WEDGE.WEDGE[9:0] (R402). -/
def SEK_WEDGE_WEDGE (n : Nat) : Fld := ⟨0x13001C + 0x40000 * n, 9, 0⟩
/-- SEK.CNT_NO_SAM.COUNT[31:0] (R403). -/
def SEK_CNT_NO_SAM_COUNT (n : Nat) : Fld := ⟨0x130020 + 0x40000 * n, 31, 0⟩
/-- SEK.CNT_WEDGE_ERR.COUNT[31:0] (R403). -/
def SEK_CNT_WEDGE_ERR_COUNT (n : Nat) : Fld := ⟨0x130024 + 0x40000 * n, 31, 0⟩
/-- SEK.CNT_TRACK_ERR.COUNT[31:0] (R403). -/
def SEK_CNT_TRACK_ERR_COUNT (n : Nat) : Fld := ⟨0x130028 + 0x40000 * n, 31, 0⟩
/-- SEK.CNT_LOW_AMP.COUNT[31:0] (R403). -/
def SEK_CNT_LOW_AMP_COUNT (n : Nat) : Fld := ⟨0x13002C + 0x40000 * n, 31, 0⟩
/-- SEK.CNT_DEFER.COUNT[31:0] (R403). -/
def SEK_CNT_DEFER_COUNT (n : Nat) : Fld := ⟨0x130030 + 0x40000 * n, 31, 0⟩

end Sys2Proof.Machine.Reg
end

