-- ==== Sys2Proof/Machine/Rom.lean ====
section
/-! DEFINITION. What the ROM and the die fix: the values of GLB.CAP0 and GLB.CAP1 (R33), which units a variant has (R1),
the default routing words of the event tables, the reset values of the window registers, and the default contents of
the optional image sections. -/

namespace Sys2Proof.Machine

/-- Lanes present (R1). -/
def variantLanes : Variant → Nat
  | .q => 4
  | .d => 2
  | .s => 1

/-- Whether the variant has PCIe and NVMe (R1, R31). -/
def variantNvme : Variant → Bool
  | .s => false
  | _ => true

/-- GLB.CAP0 (R33). -/
def variantCap0 : Variant → Nat
  | .q => 0x00053F7F
  | .d => 0x00043F73
  | .s => 0x00030831

/-- GLB.CAP1 without MODE and GRADE (R33). -/
def variantCap1 : Variant → Nat
  | .q => 0x007F1020
  | .d => 0x00731010
  | .s => 0x00710008

/-- The PCI device ID (R1). -/
def variantDeviceId : Variant → Nat
  | .q => 0x8401
  | .d => 0x8402
  | .s => 0x8403

/-- Whether a chapter defines the event at an offset of a lane's range (R253, R294, R322, R365, R397). -/
def definedLaneEvent (o : Nat) : Bool :=
  decide (o ≤ 0x04) || (decide (0x20 ≤ o) && decide (o ≤ 0x24)) || (decide (0x40 ≤ o) && decide (o ≤ 0x44)) ||
    (decide (0x50 ≤ o) && decide (o ≤ 0x56)) || (decide (0x70 ≤ o) && decide (o ≤ 0x74))

/-- Whether a chapter defines an event ID (R178); every other ID is reserved and never raised. -/
def definedEvent (id : Nat) : Bool :=
  if 0x100 ≤ id ∧ id < 0x500 then definedLaneEvent (id % 0x100)
  else
    [(0x00E, 2), (0x010, 8), (0x020, 2), (0x080, 7), (0x088, 7), (0x090, 4), (0x0A0, 16), (0x500, 5), (0x506, 4), (0x520, 4),
     (0x680, 8), (0x700, 10), (0x780, 32), (0x7C0, 8), (0x7D0, 7), (0x7E0, 7), (0x7F0, 15)].any fun (b, n) =>
      decide (b ≤ id) && decide (id < b + n)

/-- Default routing of an event at an offset of lane `n`'s range (R253, R294, R322, R365, R397). -/
def laneRoute (n o : Nat) : Nat :=
  match o with
  | 0x00 => 0x1400 + n | 0x01 => 0x8000 | 0x02 => 0x1806 | 0x04 => 0x8000
  | 0x20 => 0x1400 + n | 0x22 => 0x9000 + n | 0x23 => 0x9400 + n | 0x24 => 0x8000
  | 0x41 => 0x8000 | 0x43 => 0x8000 | 0x44 => 0x8000
  | 0x50 => 0x9000 + n | 0x51 => 0x1800 + n | 0x52 => 0x8000 | 0x54 => 0x8000
  | 0x70 => 0x9400 + n | 0x71 => 0x8000 | 0x72 => 0x8000 | 0x73 => 0x8000 | 0x74 => 0x1800 + n
  | _ => 0

/-- Default routing outside the lanes, from the event tables of the owning chapters (R185). -/
def sharedRoute : List (Nat × Nat) :=
  [(0x010, 0x8000), (0x011, 0x8000), (0x012, 0xC000), (0x013, 0x8000), (0x014, 0x8000), (0x015, 0x8000),
   (0x016, 0x8000), (0x017, 0x8000), (0x020, 0x8000), (0x021, 0x8000), (0x500, 0x8000), (0x501, 0x8000),
   (0x502, 0x8000), (0x503, 0x8000), (0x520, 0x8000), (0x521, 0x8000), (0x523, 0x8000), (0x680, 0x8000),
   (0x682, 0x8000), (0x683, 0x8000), (0x684, 0x8000), (0x685, 0x8000), (0x686, 0x8000), (0x687, 0x8000)] ++
  [(0x700, 0xD005), (0x701, 0xD005), (0x702, 0x9005), (0x703, 0x8000), (0x704, 0x8000), (0x705, 0x8000),
   (0x706, 0xC000), (0x707, 0xC000), (0x708, 0xC000), (0x709, 0x8000),
   (0x7C0, 0x1806), (0x7C1, 0x8000), (0x7C3, 0x9006), (0x7C4, 0x9006), (0x7C5, 0x8000), (0x7C6, 0x8000),
   (0x7C7, 0x1806), (0x7D0, 0x9806), (0x7D1, 0x9006), (0x7D2, 0xD006), (0x7D3, 0x9406), (0x7D4, 0xC000),
   (0x7D5, 0xC000), (0x7D6, 0x8000)] ++
  [(0x7E1, 0xD006), (0x7E2, 0xC000), (0x7E3, 0x8000), (0x7E4, 0x8000), (0x7E5, 0x8000), (0x7E6, 0xC000),
   (0x7F1, 0x4000), (0x7F2, 0x4000), (0x7F3, 0x4000), (0x7F4, 0x4000), (0x7F5, 0xC000),
   (0x7F8, 0x8000), (0x7F9, 0x8000), (0x7FA, 0xC000), (0x7FB, 0x8000), (0x7FC, 0x8000), (0x7FD, 0xC000)]

/-- The default routing word of an event (R185). -/
def defaultRoute (id : Nat) : Nat :=
  if 0x100 ≤ id ∧ id < 0x500 then laneRoute ((id - 0x100) / 0x100) (id % 0x100)
  else if 0x080 ≤ id ∧ id < 0x087 then 0x8000
  else if 0x088 ≤ id ∧ id < 0x08F then 0xC000
  else if 0x090 ≤ id ∧ id < 0x094 then 0x8000
  else if 0x780 ≤ id ∧ id < 0x790 then
    if id % 16 < 8 then 0x1805 else if id % 16 < 12 then 0x1806 else 0
  else if 0x790 ≤ id ∧ id < 0x7A0 then
    if id % 16 < 8 then 0x9005 else if id % 16 < 12 then 0x9006 else 0x8000
  else ((sharedRoute.find? (·.1 == id)).map (·.2)).getD 0

/-- The reset value of a lane register at an offset of the lane window, where the field map gives one that is not 0. -/
def laneResetOf (o : Nat) : Nat :=
  match o with
  | 0x00010 => 0x10400000 | 0x000C0 => 0x400 | 0x10000 => 0x1003 | 0x10008 => 0x42018 | 0x20000 => 0x2
  | _ => 0

/-- The reset value of the window register at a byte offset (field maps; 0 where they give none). -/
def resetOf (off : Nat) : Word :=
  BitVec.ofNat 32 <|
    if 0x100000 ≤ off then laneResetOf ((off - 0x100000) % 0x40000)
    else if 0x10000 ≤ off ∧ off < 0x12000 then defaultRoute ((off - 0x10000) / 4)
    else if 0x90040 ≤ off ∧ off < 0x90070 then 0x80007FFF
    else
      match off with
      | 0x30000 => 0xC000000 | 0x30010 => 0xFF0000 | 0x30014 => 0xFF0000
      | 0xA0024 => 0x119427D8 | 0xA0028 => 0xC8 | 0xD0000 => 0x3200258 | 0xD0010 => 0x64
      | _ => 0

/-- SEQ_PARAMS defaults (R170). -/
def romSeqParams : List Byte :=
  [3, 70, 40, 3] ++ leBytes 2 500 ++ leBytes 2 100 ++ leBytes 4 86400 ++ leBytes 2 168 ++ [10, 2] ++ zeros 16

/-- One RETRY_LADDER step entry (R306). -/
def ladderStep (action attempts rrl cost : Nat) (param : List Int) : List Byte :=
  leBytes 1 action ++ leBytes 1 attempts ++ leBytes 1 rrl ++ [0] ++ leBytes 2 cost ++ zeros 2 ++
    padTo 8 (param.map fun p => BitVec.ofNat 8 (twos 8 p))

/-- The ROM's retry ladder (R308). -/
def romLadder : List Byte :=
  [9, 5] ++ leBytes 2 3000 ++ [64, 16] ++ zeros 10 ++
    ladderStep 0x01 2 15 8 [64, 16] ++ ladderStep 0x02 2 12 8 [1, 2] ++
    ladderStep 0x03 6 8 10 [4, -4, 8, -8, 12, -12] ++ ladderStep 0x04 2 12 8 [1, 2] ++
    ladderStep 0x05 8 4 8 [] ++ ladderStep 0x06 1 12 8 [] ++ ladderStep 0x07 3 4 12 [20, 40, -20] ++
    ladderStep 0x08 1 12 8 [] ++ ladderStep 0x0F 0 15 0 []

/-- SPIN_POLICY defaults (R426). -/
def romSpinPolicy : List Byte :=
  leBytes 2 3600 ++ leBytes 2 7200 ++ leBytes 2 300 ++ [60, 85] ++ leBytes 2 1000 ++ leBytes 2 60 ++ leBytes 2 120 ++
    zeros 18

/-- SAFETY defaults (R665). -/
def romSafety : List Byte :=
  leBytes 2 10200 ++ leBytes 2 4500 ++ leBytes 2 200 ++ [2, 1] ++ (List.range 4).flatMap (fun _ => leBytes 2 16384) ++
    zeros 16

/-- One default THERMAL channel entry (R632): on-die with every Cone for channels 8 to 11, off for the others. -/
def romChannel (gradeX : Bool) (c : Nat) : List Byte :=
  if c < 8 then zeros 32
  else
    let d := if gradeX then 100 else 0
    [3, 7] ++ zeros 14 ++ leBytes 2 (950 + d) ++ leBytes 2 (1000 + d) ++ leBytes 2 (1080 + d) ++ leBytes 2 50 ++
      leBytes 2 50 ++ leBytes 2 50 ++ zeros 4

/-- THERMAL defaults (R632); CAP_RPM 65,535 is no cap. -/
def romThermal (gradeX : Bool) : List Byte :=
  [11, 11, 31, 8] ++ leBytes 2 65535 ++ leBytes 2 32767 ++ leBytes 2 (twos 16 (-550)) ++ leBytes 2 1750 ++
    leBytes 2 5 ++ leBytes 2 500 ++ leBytes 2 60 ++ zeros 14 ++ (List.range 12).flatMap (romChannel gradeX)

/-- The default content of an optional section (R81). -/
def romSection (ty : Nat) : List Byte :=
  match ty with
  | 0x0006 => romLadder
  | 0x0008 => romSpinPolicy
  | 0x0010 => romSafety
  | 0x000D => romSeqParams
  | _ => []

end Sys2Proof.Machine
end

