-- ==== Sys2Proof/Machine/Ops.lean ====
section
/-! DEFINITION. The named operations over the machine's registers, memories, lanes and image: every meaning is written
over these. -/

namespace Sys2Proof.Machine

/-! ## Sparse maps -/

/-- The value at a key: the default where nothing is listed. -/
def Sparse.get {β : Type} (d : Nat → β) : Sparse β → Nat → β
  | [], a => d a
  | (k, v) :: t, a => if k = a then v else Sparse.get d t a

/-- A pair put before the first larger key. -/
def Sparse.place {β : Type} : Sparse β → Nat → β → Sparse β
  | [], a, v => [(a, v)]
  | (k, w) :: t, a, v => if a < k then (a, v) :: (k, w) :: t else (k, w) :: Sparse.place t a v

/-- `m` with `a` set to `v`, in canonical form: strictly rising keys, no entry that equals the default. -/
def Sparse.set {β : Type} [DecidableEq β] (d : Nat → β) (m : Sparse β) (a : Nat) (v : β) : Sparse β :=
  if v = d a then m.filter fun e => e.1 != a else Sparse.place (m.filter fun e => e.1 != a) a v

/-- The canonical form: keys above `lo` and strictly rising, no entry at its default. -/
def Sparse.wfFrom {β : Type} [DecidableEq β] (d : Nat → β) : Nat → Sparse β → Bool
  | _, [] => true
  | lo, (k, v) :: t => decide (lo ≤ k) && decide (v ≠ d k) && Sparse.wfFrom d (k + 1) t

/-- The canonical form of a whole map. -/
def Sparse.wf {β : Type} [DecidableEq β] (d : Nat → β) (m : Sparse β) : Bool := Sparse.wfFrom d 0 m

/-- What an unlisted flash byte reads as: erased flash (log entry 5). -/
def flashDefault (_ : Nat) : Byte := 0xFF

/-- `n` bytes of a memory from `a`. -/
def Memory.read (d : Nat → Byte) (m : Memory) (a : Nat) : Nat → List Byte
  | 0 => []
  | n + 1 => Sparse.get d m a :: Memory.read d m (a + 1) n

/-- `m` with bytes `l` stored from `a` up. -/
def Memory.write (d : Nat → Byte) (m : Memory) (a : Nat) : List Byte → Memory
  | [] => m
  | b :: t => Memory.write d (Sparse.set d m a b) (a + 1) t

/-- `m` with every entry from `a` to `a + n - 1` back at the default (an erase). -/
def Memory.erase (m : Memory) (a n : Nat) : Memory := m.filter fun c => c.1 < a || a + n ≤ c.1

/-- The canonical form of a byte memory. -/
def Memory.wf (d : Nat → Byte) (m : Memory) : Bool := Sparse.wf d m

/-! ## Registers -/

/-- The stored word of the window register at a byte offset. -/
def State.reg (s : State) (off : Nat) : Word := Sparse.get resetOf s.regs off

/-- `s` with the stored word at `off` set. -/
def State.setReg (s : State) (off : Nat) (v : Word) : State :=
  { s with regs := Sparse.set resetOf s.regs off v }

/-- The value of a stored register field. -/
def State.get (s : State) (f : Fld) : Nat := bits (s.reg f.off).toNat f.hi f.lo

/-- `s` with a stored register field set. -/
def State.put (s : State) (f : Fld) (v : Nat) : State :=
  s.setReg f.off (BitVec.ofNat 32 (setBits (s.reg f.off).toNat f.hi f.lo v))

/-- `s` with a counter field raised by `k`, saturating at its width. -/
def State.bump (s : State) (f : Fld) (k : Nat) : State :=
  s.put f (satAdd (2 ^ (f.hi + 1 - f.lo) - 1) (s.get f) k)

/-- Whether R10 lets a value into a field. -/
def FieldFmt.accepts (f : FieldFmt) (v : Nat) : Bool := f.ok.isEmpty || f.ok.any fun (a, b) => a ≤ v && v ≤ b

/-- `s` with the RW fields of the register at `off` written from `v` (R8); a reserved encoding leaves its field as it
is (R10). -/
def State.storeRw (s : State) (off v : Nat) : State :=
  match locate off with
  | none => s
  | some r => r.row.fields.foldl (fun s f =>
      if f.ty = .rw ∧ f.accepts (bits v f.hi f.lo) then s.put ⟨off, f.hi, f.lo⟩ (bits v f.hi f.lo) else s) s

/-! ## Outputs and free values -/

/-- Record an output. -/
def State.emit (s : State) (o : Output) : State := { s with out := o :: s.out }

/-- The free value a step draws next (log entry 1). -/
def State.freeNat (s : State) : Nat := (Config.freeValue s.free).toNat

/-- `s` after drawing a free value. -/
def State.drew (s : State) : State := { s with free := s.free + 1 }

/-! ## Units present and used -/

/-- Lanes on the die (R1). -/
def State.laneCount (s : State) : Nat := variantLanes s.fuses.variant

/-- Whether the lane is on the die. -/
def State.present (s : State) (n : Nat) : Bool := decide (n < s.laneCount)

/-- Whether sequencer `q` is on the die (R32, R33). -/
def State.seqPresent (s : State) (q : Nat) : Bool := if q < 4 then s.present q else decide (q < 7)

/-- Whether PCIe port `p` is on the die (R31). -/
def State.portPresent (s : State) (_p : Nat) : Bool := variantNvme s.fuses.variant

/-- Whether the patch lock is done (R98). -/
def State.locked (s : State) : Bool := s.get Reg.IMG_BOOT_STATUS_LOCKED == 1

/-- Whether the device is in the hold state (R104). -/
def State.held (s : State) : Bool := s.get Reg.IMG_BOOT_STATUS_HOLD == 1

/-- Whether the device runs: POR_N is high and TESTMODE was sampled 0 (R61). -/
def State.powered (s : State) : Bool := s.pins.porN && !s.boot.straps.testMode

/-- The boot stage (R102). -/
def State.stage (s : State) : Nat := s.get Reg.IMG_BOOT_STATUS_STAGE

/-- GLB.CAP0 (R31, R33). -/
def State.cap0 (s : State) : Nat := variantCap0 s.fuses.variant

/-- GLB.CAP1 (R32, R33): the variant's value with GRADE and the resolved MODE. -/
def State.cap1 (s : State) : Nat :=
  variantCap1 s.fuses.variant + (if s.fuses.gradeX then 0x800000 else 0) + (if s.boot.compat then 0x1000000 else 0)

/-! ## Lanes, sequencers -/

/-- A lane. -/
def State.lane (s : State) (n : Lane) : LaneState := s.lanes[n]

/-- `s` with a lane replaced. -/
def State.setLane (s : State) (n : Lane) (l : LaneState) : State := { s with lanes := s.lanes.set n l }

/-- `s` with lane `n`'s channel replaced. -/
def State.setChan (s : State) (n : Lane) (c : Chan) : State := s.setLane n { s.lane n with chan := c }
/-- `s` with lane `n`'s FMT replaced. -/
def State.setFmt (s : State) (n : Lane) (c : Fmt) : State := s.setLane n { s.lane n with fmt := c }
/-- `s` with lane `n`'s recovery replaced. -/
def State.setRcv (s : State) (n : Lane) (c : Recovery) : State := s.setLane n { s.lane n with rcv := c }
/-- `s` with lane `n`'s servo engine replaced. -/
def State.setSve (s : State) (n : Lane) (c : Sve) : State := s.setLane n { s.lane n with sve := c }
/-- `s` with lane `n`'s SEK replaced. -/
def State.setSek (s : State) (n : Lane) (c : Sek) : State := s.setLane n { s.lane n with sek := c }
/-- `s` with lane `n`'s synthesizer replaced. -/
def State.setMts (s : State) (n : Lane) (c : MediaTime) : State := s.setLane n { s.lane n with mts := c }

/-- A sequencer. -/
def State.seq (s : State) (q : SeqIx) : Seq := s.seqs[q]
/-- `s` with a sequencer replaced. -/
def State.setSeq (s : State) (q : SeqIx) (x : Seq) : State := { s with seqs := s.seqs.set q x }

/-- The sequencer of a lane (R137). -/
def laneSeq (n : Lane) : SeqIx := ⟨n.val, by omega⟩

/-! ## The accepted image -/

/-- Section types of R81. -/
def secGeometry : Nat := 0x0001
/-- DDR5. -/
def secDdr5 : Nat := 0x0002
/-- ZONES. -/
def secZones : Nat := 0x0003
/-- HEADS. -/
def secHeads : Nat := 0x0004
/-- SERVO_BANKS. -/
def secServoBanks : Nat := 0x0005
/-- RETRY_LADDER. -/
def secLadder : Nat := 0x0006
/-- THERMAL. -/
def secThermal : Nat := 0x0007
/-- SPIN_POLICY. -/
def secSpinPolicy : Nat := 0x0008
/-- EVENT_ROUTING. -/
def secRouting : Nat := 0x0009
/-- NAMESPACES. -/
def secNamespaces : Nat := 0x000A
/-- PATCHES. -/
def secPatches : Nat := 0x000B
/-- FUSE_REQUEST. -/
def secFuse : Nat := 0x000C
/-- SEQ_PARAMS. -/
def secSeqParams : Nat := 0x000D
/-- IDENTITY. -/
def secIdentity : Nat := 0x000E
/-- SPINDLE. -/
def secSpindle : Nat := 0x000F
/-- SAFETY. -/
def secSafety : Nat := 0x0010

/-- The bytes of a section among `secs`, with the ROM default where it is absent (R81). -/
def sectionOf (secs : Sparse (List Byte)) (ty : Nat) : List Byte :=
  match secs.find? (·.1 == ty) with
  | some (_, l) => l
  | none => romSection ty

/-- The bytes of a section of the running image, with the ROM default where it is absent. -/
def State.section (s : State) (ty : Nat) : List Byte :=
  let secs := (s.boot.image.map (·.sections)).getD []
  if ty = secThermal ∧ (secs.find? (·.1 == ty)).isNone then romThermal s.fuses.gradeX else sectionOf secs ty

/-- Whether the running image itself carries the section. -/
def State.hasSection (s : State) (ty : Nat) : Bool :=
  ((s.boot.image.map (·.sections)).getD []).any (·.1 == ty)

/-- Byte, 16-bit and 32-bit fields of a section of the running image. -/
def State.sec8 (s : State) (ty o : Nat) : Nat := u8 (s.section ty) o
/-- 16-bit field. -/
def State.sec16 (s : State) (ty o : Nat) : Nat := u16 (s.section ty) o
/-- 32-bit field. -/
def State.sec32 (s : State) (ty o : Nat) : Nat := u32 (s.section ty) o

/-- GEOMETRY.WEDGES (R83). -/
def State.wedges (s : State) : Nat := s.sec16 secGeometry 0

/-- The HEAD_MAP byte of a global head (R83). -/
def headMap (geo : List Byte) (h : Nat) : Nat := u8 geo (8 + h)

/-- Whether a global head is fitted. -/
def headFitted (geo : List Byte) (h : Nat) : Bool := bit (headMap geo h) 7 && decide (h < 32)
/-- The lane a global head maps to (R84: with compatibility mode every fitted head is on lane 0). -/
def headLane (geo : List Byte) (h : Nat) : Nat := bits (headMap geo h) 4 3
/-- The index of a global head within its lane. -/
def headIndex (geo : List Byte) (h : Nat) : Nat := bits (headMap geo h) 2 0
/-- LAST_TRACK of a global head. -/
def lastTrack (geo : List Byte) (h : Nat) : Nat := u32 geo (0x28 + 4 * h) % 2 ^ 22

/-- The global heads fitted on lane `n`. -/
def headsOf (geo : List Byte) (n : Nat) : List Nat :=
  (List.range 32).filter fun h => headFitted geo h && headLane geo h == n

/-- The global head with an index in a lane. -/
def globalHead (geo : List Byte) (n ix : Nat) : Option Nat :=
  (headsOf geo n).find? fun h => headIndex geo h == ix

/-- Whether a lane is used (R747): present, allowed by the mode, with a fitted head. -/
def State.used (s : State) (n : Nat) : Bool :=
  s.present n && (!s.boot.compat || n == 0) && !(headsOf (s.section secGeometry) n).isEmpty

/-- The used lanes as a mask. -/
def State.usedMask (s : State) : Nat :=
  ((List.range 4).filter s.used).foldl (fun m n => m + 2 ^ n) 0

/-- Offset of a head's zone entry in ZONES (R230, R232), by head and zone. -/
def zoneEntry (zones : List Byte) (h z : Nat) : Option Nat :=
  let base := 16 + 144 * u16 zones 2
  ((List.range (u16 zones 0)).map (fun i => base + 128 * i)).find? fun o => u8 zones o == h && u8 zones (o + 1) == z

/-- The zone entries of a head, by offset. -/
def zonesOfHead (zones : List Byte) (h : Nat) : List Nat :=
  let base := 16 + 144 * u16 zones 2
  ((List.range (u16 zones 0)).map (fun i => base + 128 * i)).filter fun o => u8 zones o == h

/-- The zone entry that covers a track of a head: the last START_TRACK at or below it (R234). -/
def zoneAt (zones : List Byte) (h track : Nat) : Option Nat :=
  (zonesOfHead zones h).foldl (fun best o =>
    let t := u32 zones (o + 4) % 2 ^ 22
    if t ≤ track then
      match best with
      | none => some o
      | some b => if u32 zones (b + 4) % 2 ^ 22 ≤ t then some o else best
    else best) none

/-- Offset of a head's entry in HEADS (R233). -/
def headEntry (heads : List Byte) (h : Nat) : Option Nat :=
  ((List.range (u16 heads 0)).map (fun i => 16 + 64 * i)).find? fun o => u8 heads o == h

/-- A 16-bit or 8-bit field of the zone entry at offset `o`, as lane `n`'s running step has loaded it: refined by KS before the step (R235). -/
def State.zoneField (s : State) (n : Lane) (o f w : Nat) : Nat :=
  let zones := s.section secZones
  let h := u8 zones o
  let z := u8 zones (o + 1)
  match (s.lane n).chan.loaded.find? fun (h', z', f', _) => h' == h && z' == z && f' == f with
  | some (_, _, _, v) => v
  | none => field zones (o + f) w

/-- A field of lane `n`'s actuator block in SPINDLE (R377). -/
def State.act (s : State) (n : Nat) (o w : Nat) : Nat := field (s.section secSpindle) (0x100 + 64 * n + o) w

/-! ## Physical block addresses (R268) -/

/-- PBA of head, track and slot. -/
def pbaOf (h t slot : Nat) : Nat := h * 2 ^ 36 + t * 2 ^ 14 + slot
/-- Head of a PBA. -/
def pbaHead (p : Nat) : Nat := bits p 40 36
/-- Track of a PBA. -/
def pbaTrack (p : Nat) : Nat := bits p 35 14
/-- Slot of a PBA. -/
def pbaSlot (p : Nat) : Nat := bits p 13 0

/-! ## Checks -/

/-- One step of a reflected CRC of width `w` with reflected polynomial `poly`. -/
def crcBit (poly c : Nat) : Nat := if c % 2 = 1 then (c / 2).xor poly else c / 2

/-- Eight steps. -/
def crcByte (poly c : Nat) (b : Byte) : Nat :=
  (List.range 8).foldl (fun c _ => crcBit poly c) (c.xor b.toNat)

/-- A reflected CRC with the initial value and final XOR all ones. -/
def crcReflected (w poly : Nat) (l : List Byte) : Nat :=
  (l.foldl (crcByte poly) (2 ^ w - 1)).xor (2 ^ w - 1)

/-- CRC-32C (R269): polynomial 0x1EDC6F41 reflected. -/
def crc32c (l : List Byte) : Nat := crcReflected 32 0x82F63B78 l

/-- CRC-32 of the DV-40 image (R95): polynomial 0x04C11DB7 reflected. -/
def crc32 (l : List Byte) : Nat := crcReflected 32 0xEDB88320 l

/-- CRC-64/NVME from a seed (R496): polynomial 0xAD93D23594C93659 reflected. -/
def crc64 (seed : Nat) (l : List Byte) : Nat :=
  (l.foldl (crcByte 0x9A6C9329AC4BC9B5) (seed.xor (2 ^ 64 - 1))).xor (2 ^ 64 - 1)

/-- CRC-8 of the preamp port (R289): polynomial 0x07, initial value 0, not reflected. -/
def crc8 (l : List Byte) : Nat :=
  l.foldl (fun c b => (List.range 8).foldl
    (fun c _ => if c / 128 % 2 = 1 then (c * 2 % 256).xor 0x07 else c * 2 % 256) (c.xor b.toNat)) 0

/-- The sector CRC of a PBA with its DATA and TAG (R269). -/
def sectorCrc (pba : Nat) (data tag : List Byte) : Nat := crc32c (leBytes 8 pba ++ data ++ tag)

end Sys2Proof.Machine
end

