-- ==== Sys2Proof/Machine/Layout.lean ====
section
/-! DEFINITION. How blocks reach media (R574 to R578): the logical space of a lane, its spare tracks, and the mapping of
namespace LBAs to lanes and physical block addresses. -/

namespace Sys2Proof.Machine

/-- Data cells of a wedge interval (R270, R379). -/
def dataCells (c : Nat) : Nat := c - c * 7 / 100 - 64

/-- One zone of a surface (R577): head, zone number, first track, tracks, spare tracks, data sectors per track, and the
group size and parity sectors of its track parity (0 where it has none). -/
structure Zone where
  head : Nat
  zone : Nat
  start : Nat
  tracks : Nat
  spares : Nat
  perTrack : Nat
  grp : Nat
  par : Nat
  deriving DecidableEq, Repr

/-- The slot of the `j`-th data sector of a track (R282). -/
def Zone.slot (z : Zone) (j : Nat) : Nat := if z.par = 0 then j else j / z.grp * (z.grp + z.par) + j % z.grp

/-- The place of a slot among the data sectors of its track; none for a parity slot. -/
def Zone.unslot (z : Zone) (slot : Nat) : Option Nat :=
  if z.par = 0 then (if slot < z.perTrack then some slot else none)
  else if slot % (z.grp + z.par) < z.grp then some (slot / (z.grp + z.par) * z.grp + slot % (z.grp + z.par)) else none

/-- Whether track `i` of the zone is a spare track (R577). -/
def Zone.isSpare (z : Zone) (i : Nat) : Bool := decide (i * z.spares / z.tracks < (i + 1) * z.spares / z.tracks)

/-- Data sectors of the zone outside its spare tracks. -/
def Zone.blocks (z : Zone) : Nat := (z.tracks - z.spares) * z.perTrack

/-- The `j`-th data sector of the zone in track and slot order, spare tracks skipped: its track is the
`j / perTrack`-th that is not spare. -/
def Zone.pba (z : Zone) (j : Nat) : Nat :=
  pbaOf z.head (z.start + j / z.perTrack * z.tracks / (z.tracks - z.spares)) (z.slot (j % z.perTrack))

/-- The `k`-th spare sector of the zone in track and slot order. -/
def Zone.sparePba (z : Zone) (k : Nat) : Nat :=
  pbaOf z.head (z.start + (ceilDiv ((k / z.perTrack + 1) * z.tracks) z.spares - 1)) (z.slot (k % z.perTrack))

/-- The place of a PBA among the zone's data sectors, where it is one outside the spare tracks. -/
def Zone.index (z : Zone) (pba : Nat) : Option Nat :=
  let i := pbaTrack pba - z.start
  if pbaHead pba = z.head ∧ z.start ≤ pbaTrack pba ∧ i < z.tracks ∧ !z.isSpare i then
    (z.unslot (pbaSlot pba)).map fun k => (i - i * z.spares / z.tracks) * z.perTrack + k
  else none

/-- The zones of a surface in track order (R234), with the spare tracks of `permille` (R577). -/
def surfaceZones (geo zones : List Byte) (tp : Bool) (permille h : Nat) : List Zone :=
  (List.range (zonesOfHead zones h).length).filterMap fun z =>
    (zoneEntry zones h z).map fun o =>
      let start := u32 zones (o + 4) % 2 ^ 22
      let next := match zoneEntry zones h (z + 1) with
        | some p => u32 zones (p + 4) % 2 ^ 22
        | none => lastTrack geo h + 1
      let n := next - start
      let spt := u16 zones (o + 0x0C)
      let par := if tp ∧ bit (u8 zones (o + 2)) 0 then u8 zones (o + 3) else 0
      let grp := if par = 0 then 0 else u8 zones (o + 0x0E)
      { head := h, zone := z, start := start, tracks := n, spares := ceilDiv (n * permille) 1000,
        perTrack := if par = 0 then spt else spt / (grp + par) * grp, grp := grp, par := par }

/-- The zones of a lane in head and track order. -/
def laneZones (geo zones : List Byte) (tp : Bool) (permille n : Nat) : List Zone :=
  (headsOf geo n).flatMap (surfaceZones geo zones tp permille)

/-- The `k`-th data sector of zones in order, listed defects included. -/
def rawPba : List Zone → Nat → Option Nat
  | [], _ => none
  | z :: t, k => if k < z.blocks then some (z.pba k) else rawPba t (k - z.blocks)

/-- The place of a PBA in that order. -/
def rawIndex : List Zone → Nat → Option Nat
  | [], _ => none
  | z :: t, p =>
    match z.index p with
    | some j => some j
    | none => (rawIndex t p).map (· + z.blocks)

/-- The places of the data sectors of the group in whose slots a PBA lies, as the first and one past the last (R282). -/
def Zone.group (z : Zone) (pba : Nat) : Option (Nat × Nat) :=
  let i := pbaTrack pba - z.start
  if pbaHead pba = z.head ∧ z.start ≤ pbaTrack pba ∧ i < z.tracks ∧ !z.isSpare i ∧ z.par ≠ 0 then
    let a := (i - i * z.spares / z.tracks) * z.perTrack + pbaSlot pba / (z.grp + z.par) * z.grp
    some (a, a + z.grp)
  else none

/-- The same places among the lane's data sectors. -/
def rawGroup : List Zone → Nat → Option (Nat × Nat)
  | [], _ => none
  | z :: t, p =>
    match z.group p with
    | some g => some g
    | none => (rawGroup t p).map fun g => (g.1 + z.blocks, g.2 + z.blocks)

/-- Insert into a rising list. -/
def insertRising (x : Nat) : List Nat → List Nat
  | [] => [x]
  | y :: t => if x < y then x :: y :: t else if x = y then y :: t else y :: insertRising x t

/-- The places of the listed defects among the data sectors, rising. -/
def defectPlaces (zs : List Zone) (defects : List Nat) : List Nat :=
  (defects.filterMap (rawIndex zs)).foldl (fun l x => insertRising x l) []

/-- Blocks of a lane's logical space (R577). -/
def laneBlocks (zs : List Zone) (defects : List Nat) : Nat :=
  zs.foldl (fun k z => k + z.blocks) 0 - (defectPlaces zs defects).length

/-- The PBA of block `k` of the logical space. -/
def lanePba (zs : List Zone) (defects : List Nat) (k : Nat) : Option Nat :=
  rawPba zs ((defectPlaces zs defects).foldl (fun k d => if d ≤ k then k + 1 else k) k)

/-- The block of the logical space at a PBA. -/
def laneIndex (zs : List Zone) (defects : List Nat) (p : Nat) : Option Nat :=
  if defects.contains p then none
  else (rawIndex zs p).map fun i => i - ((defectPlaces zs defects).filter (· < i)).length

/-! ## Namespaces -/

/-- A namespace as formed (R575, R576): layout, band size, blocks, its lanes' (lane, first block, blocks), and FLAGS. -/
structure NsMap where
  layout : Nat
  band : Nat
  blocks : Nat
  parts : List (Nat × Nat × Nat)
  flags : Nat
  deriving DecidableEq, Repr

/-- Take the space of a UNIFIED namespace lane by lane. -/
def takeUnified (left : Nat → Nat) : List Nat → Nat → List (Nat × Nat)
  | [], _ => []
  | l :: t, need =>
    if need = 0 then []
    else if left l = 0 then takeUnified left t need
    else (l, min need (left l)) :: takeUnified left t (need - min need (left l))

/-- Form one namespace from its 32-byte entry over the usable lanes, given the blocks taken so far (R576). -/
def formNs (space taken : Nat → Nat) (used : Nat → Bool) (e : List Byte) : Option NsMap :=
  let lanes := (List.range 4).filter fun l => bit (u8 e 1) l && used l
  let left := fun l => space l - taken l
  let b := u64 e 8
  let band := u32 e 4
  let k := lanes.length
  if k = 0 then none
  else
    match u8 e 0 with
    | 1 =>
      let l := lanes.headD 0
      let n := if b = 0 then left l else b
      if n = 0 ∨ left l < n then none else some ⟨1, 0, n, [(l, taken l, n)], u8 e 2⟩
    | 2 =>
      let least := lanes.foldl (fun m l => min m (left l)) (left (lanes.headD 0))
      let n := if b = 0 then k * least / (k * band) * (k * band) else b
      if n = 0 ∨ band = 0 ∨ n % (k * band) ≠ 0 ∨ least < n / k then none
      else some ⟨2, band, n, lanes.map fun l => (l, taken l, n / k), u8 e 2⟩
    | 3 =>
      let all := lanes.foldl (fun m l => m + left l) 0
      let n := if b = 0 then all else b
      if n = 0 ∨ all < n then none
      else some ⟨3, 0, n, (takeUnified left lanes n).map fun (l, c) => (l, taken l, c), u8 e 2⟩
    | _ => none

/-- Form the namespaces in entry order. -/
def formAll (space : Nat → Nat) (used : Nat → Bool) : List (List Byte) → (Nat → Nat) → Option (List NsMap)
  | [], _ => some []
  | e :: t, taken =>
    match formNs space taken used e with
    | none => none
    | some m =>
      let more := fun l => taken l + (m.parts.foldl (fun c p => if p.1 = l then c + p.2.2 else c) 0)
      (formAll space used t more).map (m :: ·)

/-- The default NAMESPACES entry (R575). -/
def defaultNs (crypt : Bool) : List Byte := [2, 0x0F, if crypt then 1 else 0, 0] ++ leBytes 4 64 ++ zeros 24

/-- The NS entries of a section; the default one where it is absent; lane 0 whole in compatibility mode (R574). -/
def nsEntries (sec : List Byte) (compat crypt : Bool) : List (List Byte) :=
  if compat then [[1, 1, 0, 0] ++ zeros 28]
  else if sec.isEmpty then [defaultNs crypt]
  else (List.range (u8 sec 0)).map fun i => (sec.drop (16 + 32 * i)).take 32

/-- Where an LBA of a namespace lies: lane and block of its logical space (R576). -/
def NsMap.locate (m : NsMap) (lba : Nat) : Option (Nat × Nat) :=
  if m.blocks ≤ lba then none
  else if m.layout = 2 then
    let b := lba / m.band
    let k := m.parts.length
    (m.parts[b % k]?).map fun (l, f, _) => (l, f + b / k * m.band + lba % m.band)
  else
    (m.parts.foldl (fun (r : Option (Nat × Nat) × Nat) (p : Nat × Nat × Nat) =>
      match r.1 with
      | some _ => r
      | none => if r.2 < p.2.2 then (some (p.1, p.2.1 + r.2), 0) else (none, r.2 - p.2.2)) (none, lba)).1

/-! ## On the state -/

/-- SPARE_PERMILLE in force (R574, R575). -/
def State.sparePermille (s : State) : Nat :=
  let sec := s.section secNamespaces
  if s.boot.compat ∨ sec.isEmpty then 10 else u8 sec 1

/-- SCHED_AGE_MS in force. -/
def State.schedAgeMs (s : State) : Nat :=
  let sec := s.section secNamespaces
  if s.boot.compat ∨ sec.isEmpty then 500 else u16 sec 2

/-- Whether track parity can be in use. -/
def State.tpUsable (s : State) : Bool := !s.boot.compat && bit s.cap0 8

/-- A lane by number. -/
def State.laneAt (s : State) (n : Nat) : LaneState := s.lanes.toList.getD n LaneState.reset

/-- The zones of a lane. -/
def State.laneZones (s : State) (n : Nat) : List Zone :=
  Machine.laneZones (s.section secGeometry) (s.section secZones) s.tpUsable s.sparePermille n

/-- Blocks of a lane's logical space. -/
def State.laneBlocks (s : State) (n : Nat) : Nat :=
  if s.used n then Machine.laneBlocks (s.laneZones n) (s.laneAt n).sys.defects else 0

/-- Spare sectors of a lane. -/
def State.laneSpares (s : State) (n : Nat) : Nat := (s.laneZones n).foldl (fun k z => k + z.spares * z.perTrack) 0

/-- The namespaces as formed. -/
def State.nsMaps (s : State) : List NsMap :=
  (formAll s.laneBlocks s.used (nsEntries (s.section secNamespaces) s.boot.compat (bit s.cap0 9)) fun _ => 0).getD []

/-- The map of a namespace identifier. -/
def State.nsMap (s : State) (ns : Nat) : Option NsMap := if ns = 0 then none else s.nsMaps[ns - 1]?

/-- Lane and PBA of a block of a namespace, after reallocation (R321, R577). -/
def State.blockAt (s : State) (ns lba : Nat) : Option (Nat × Nat) :=
  match (s.nsMap ns).bind (·.locate lba) with
  | none => none
  | some (l, k) =>
    (Machine.lanePba (s.laneZones l) (s.laneAt l).sys.defects k).map fun p =>
      (l, ((((s.laneAt l).rcv.remap.find? (·.1 == p)).map (·.2)).getD p))

/-- The namespace and LBA whose block lies at a block of a lane's logical space. -/
def NsMap.lbaOf (m : NsMap) (lane k : Nat) : Option Nat :=
  if m.layout = 2 then
    (m.parts.findIdx? (fun p => p.1 == lane)).bind fun r =>
      (m.parts[r]?).bind fun (_, f, c) =>
        if f ≤ k ∧ k < f + c then some (((k - f) / m.band * m.parts.length + r) * m.band + (k - f) % m.band) else none
  else
    (m.parts.foldl (fun (r : Option Nat × Nat) (p : Nat × Nat × Nat) =>
      match r.1 with
      | some _ => r
      | none => if p.1 = lane ∧ p.2.1 ≤ k ∧ k < p.2.1 + p.2.2 then (some (r.2 + (k - p.2.1)), 0)
          else (none, r.2 + p.2.2)) (none, 0)).1

/-- The namespace and LBA at a PBA, if it holds one (R620). -/
def State.lbaAt (s : State) (pba : Nat) : Option (Nat × Nat) :=
  let n := headLane (s.section secGeometry) (pbaHead pba)
  let home := (((s.laneAt n).rcv.remap.find? (·.2 == pba)).map (·.1)).getD pba
  match laneIndex (s.laneZones n) (s.laneAt n).sys.defects home with
  | none => none
  | some k => (s.nsMaps.zipIdx.findSome? fun (m, i) => (m.lbaOf n k).map fun x => (i + 1, x))

/-- Spare sectors of a zone in the order R577 gives them out, as many as may be needed. -/
def Zone.spareList (z : Zone) (need : Nat) : List Nat :=
  (List.range (min need (z.spares * z.perTrack))).map z.sparePba

/-- Zones of a surface in the order of nearness to zone number `z`, the lower first on a tie (R577). -/
def nearestZones (zs : List Zone) (z : Nat) : List Zone :=
  (List.range 65).flatMap fun d =>
    (zs.filter fun x => x.zone + d == z) ++ (if d = 0 then [] else zs.filter fun x => x.zone == z + d)

/-- The spare sector that takes a block (R577): its own zone, the nearest zones of its surface, then the lane's other
surfaces in head order. -/
def State.freeSpare (s : State) (n : Nat) (pba : Nat) : Option Nat :=
  let zs := s.laneZones n
  let l := s.laneAt n
  let own := ((zs.find? fun z => z.head == pbaHead pba && z.start ≤ pbaTrack pba &&
    pbaTrack pba < z.start + z.tracks).map (·.zone)).getD 0
  let heads := pbaHead pba :: (headsOf (s.section secGeometry) n).filter (· != pbaHead pba)
  let gone := l.rcv.remap.map (·.2) ++ l.rcv.grown ++ l.sys.defects
  heads.findSome? fun h => (nearestZones (zs.filter (·.head == h)) own).findSome? fun z =>
    (z.spareList (gone.length + 1)).find? fun p => !gone.contains p

end Sys2Proof.Machine
end

