-- ==== Sys2Proof/Machine/Loops.lean ====
section
/-! DEFINITION. A sector's signal path, cell by cell (chapter 7): reader correction and alignment, the timing interpolator, the
two-dimensional equalizer, the tentative detector and the loops of R225, and the framer's distances (R273). Arithmetic is exact
(log entry 178). -/

namespace Sys2Proof.Machine

/-! ## Values -/

/-- a[k] of a bit value: 0 is +1 (R221). -/
def sgn (b : Bool) : Rat := if b then -1 else 1

/-- `2^-k`. -/
def twoPow (k : Nat) : Rat := 1 / (2 ^ k : Nat)

/-- A Q1.15 value held as 16 bits. -/
def q15 (w : Nat) : Rat := (signed 16 w : Rat) / 32768

/-- Σ of taps times samples, newest sample first. -/
def fir (taps x : List Rat) : Rat := (taps.zip x).foldl (fun a p => a + p.1 * p.2) 0

/-- The largest value of Q1.15 taps bounds them (R221). -/
def clampQ (x : Rat) : Rat := max (-1) (min (32767 / 32768) x)

/-- Target response t[k] from bits k, k-1 and k-2 (R221). -/
def LoopSetup.tgt (c : LoopSetup) (b0 b1 b2 : Bool) : Rat := c.target * (sgn b0 + c.g1 * sgn b1 + c.g2 * sgn b2)

/-- Bits of the 2T preamble pattern (R266): 0, 0, 1, 1 repeated. -/
def toneBit (k : Int) : Bool := decide (2 ≤ k % 4)

/-- The target value of a preamble cell. -/
def LoopSetup.tone (c : LoopSetup) (k : Int) : Rat := c.tgt (toneBit k) (toneBit (k - 1)) (toneBit (k - 2))

/-- The equalizer's decision delay in cells (R221): output `k` stands for cell `k - 8`. -/
def eqDelay : Nat := 8
/-- The tentative detector's decision delay in cells. -/
def tentDelay : Nat := 6

/-- A value as a register with a coarser step shows it: either neighbour (R259 to R262). -/
def roundOpen (x : Rat) : Int := if x.den = 1 then x.num else x.floor + flag (Config.roundUp x)

/-! ## One reader -/

/-- π × 2^25: the angle of one 65,536th of a turn, times 2^40. -/
def pi25 : Int := 105414358

/-- The Taylor sum of the sine of `θ` (scaled by 2^40) from the term `t` of order `k` on. -/
def sineSum : Nat → Int → Int → Int → Int
  | 0, _, _, _ => 0
  | f + 1, th, t, k => t + sineSum f th (-(t * th / 2 ^ 40 * th / 2 ^ 40) / ((k + 1) * (k + 2))) (k + 2)

/-- The sine of `ph` / 65,536 of a turn, scaled by 2^40. -/
def sine40 (ph : Nat) : Int :=
  let k := ph % 32768
  let m := if k ≤ 16384 then k else 32768 - k
  let v := sineSum 8 (m * pi25) (m * pi25) 1
  if ph % 65536 < 32768 then v else -v

/-- A sample arrives (R218, R225): clipped samples are counted and used as they are; offset and asymmetry are corrected. -/
def ReaderPath.take (r : ReaderPath) (v : Int) : ReaderPath :=
  let x := clamp (-128) 127 v
  let f : Rat := x - r.offset / 16
  { r with
    clipped := if x = -128 ∨ x = 127 then r.clipped + 1 else r.clipped
    raw := (x : Rat) :: r.raw, fixed := f :: r.fixed, corr := (f - r.asym * f * f / 128) :: r.corr }

/-- Δ of the fast AGC in 1/64 dB (R225): 64 × 20 log10(T / A), rounded down; with no signal the gain goes to its end. -/
def agcDelta (target : Nat) (a2 : Rat) : Int :=
  if a2 ≤ 0 then 2560 * 256
  else
    let top := ((target * target * a2.den : Nat)) ^ 640
    let bot := a2.num.toNat ^ 640
    let up := ((List.range 3000).takeWhile fun i => decide (bot * 10 ^ (i + 1) ≤ top)).length
    let down := ((List.range 3000).takeWhile fun i => decide (top * 10 ^ i < bot)).length
    if bot ≤ top then up else -(down : Int)

/-- The fast loops of a reader after each fourth of cells 0 to 31 (R225), unless frozen (R258); the gain stays within R218. -/
def ReaderPath.fast (c : LoopSetup) (r : ReaderPath) : ReaderPath :=
  let x := r.raw.take 4
  let a2 := (x.foldl (fun a v => a + v * v) 0) / 2
  let sum := x.foldl (· + ·) 0
  { r with
    gain := if bit c.freeze 0 then r.gain else max 0 (min 2560 (r.gain + twoPow c.agcFast * agcDelta c.target a2))
    offset := if bit c.freeze 1 then r.offset else max (-2048) (min 2047 (r.offset + twoPow c.ofsFast * 4 * sum)) }

/-- The sample of a reader, aligned by `delay` (R219): a FIFO of whole cells, then the fractional delay filter of 64 phases and 8
taps. `age` counts back from the newest. -/
def ReaderPath.aligned (r : ReaderPath) (age : Nat) : Rat :=
  fir ((List.range 8).map fun j => q15 (Config.delayTap (r.delay % 64) j).toNat) (r.corr.drop (r.delay / 64 + age))

/-- The timing interpolator on a reader's stream, `frac` 64ths of a cell before the sample `age` cells back: one common phase for every
reader (R215). -/
def ReaderPath.interpolated (r : ReaderPath) (age frac : Nat) : Rat :=
  fir ((List.range 8).map fun j => q15 (Config.interpTap frac j).toNat) ((List.range 8).map fun j => r.aligned (age + j))

/-- The phase of the 2T tone on 16 samples, newest first, in 64ths of a cell: of the 256 phases of its four cells the one that the samples
match best (R225). -/
def tonePhase (x : List Rat) : Rat :=
  let l := x.reverse
  let i := (l.zipIdx.foldl (fun a p => a + (if p.2 % 4 = 0 then p.1 else if p.2 % 4 = 2 then -p.1 else 0)) (0 : Rat))
  let q := (l.zipIdx.foldl (fun a p => a + (if p.2 % 4 = 1 then p.1 else if p.2 % 4 = 3 then -p.1 else 0)) (0 : Rat))
  let score := fun (j : Nat) => i * (sine40 (256 * j + 16384) : Rat) + q * (sine40 (256 * j) : Rat)
  let best := (List.range 256).foldl (fun b j => if score b < score j then j else b) 0
  -- the pattern +1, +1, -1, -1 itself has its peak half a cell after its first cell
  let d : Int := (best : Int) - 32
  ((if 128 ≤ d then d - 256 else if d < -128 then d + 256 else d : Int) : Rat) / 64

/-! ## The tentative detector -/

/-- One cell of the 4-state Viterbi detector; state 2 a[k-1] + a[k-2] as bits. -/
def LoopSetup.viterbi (c : LoopSetup) (paths : List (Rat × List Bool)) (y : Rat) : List (Rat × List Bool) :=
  (List.range 4).map fun t =>
    let b0 := bit t 1
    let b1 := bit t 0
    let way : Bool → Rat × List Bool := fun b2 =>
      let (m, l) := paths.getD (2 * flag b1 + flag b2) (0, [])
      let e := y - c.tgt b0 b1 b2
      (m + e * e, (b0 :: l).take (tentDelay + 1))
    if (way true).1 < (way false).1 then way true else way false

/-- Its decision on the cell `tentDelay` back: that of the survivor of least metric. -/
def decision (paths : List (Rat × List Bool)) : Option Bool :=
  let best := paths.foldl (fun (b : Option (Rat × List Bool)) p => match b with
    | none => some p
    | some q => if p.1 < q.1 then some p else some q) none
  best.bind fun p => p.2[tentDelay]?

/-! ## Marks (R266, R273) -/

/-- The primary sync mark. -/
def primaryMark : Nat := 0x1D4F6B29
/-- The backup sync mark. -/
def backupMark : Nat := 0x7A31C86E

/-- The bits of a mark, bit 31 first. -/
def markBits (p : Nat) : List Bool := (List.range 32).map fun i => bit p (31 - i)

/-- Hamming distance between the 32 decisions from cell `k` and a mark; none where they are not all made. -/
def Loops.distance (l : Loops) (pattern k : Nat) : Option Nat :=
  let last := k + eqDelay + 31
  if l.bits.length ≤ last then none
  else
    let d := (l.bits.drop (l.bits.length - 1 - last)).take 32
    some (((d.reverse.zip (markBits pattern)).filter fun p => p.1 != p.2).length)

/-- The distances at the start positions `lo` to `hi`. -/
def Loops.marks (l : Loops) (pattern lo hi : Nat) : List (Nat × Nat) :=
  (List.range (hi + 1 - lo)).filterMap fun i => (l.distance pattern (lo + i)).map fun d => (lo + i, d)

/-! ## The loops (R225 to R228, R258) -/

/-- Update of phase and frequency (R225, R228): the frequency saturates at 0.5 %. -/
def Loops.timing (l : Loops) (kp ki : Nat) (tau : Rat) : Loops :=
  let u := tau * ((Config.timingScale.toNat : Rat) / 2 ^ 64)
  let f := l.freq + twoPow ki * u
  { l with
    phase := l.phase + twoPow kp * u + l.freq
    freq := max (-(1 / 200)) (min (1 / 200) f)
    limited := l.limited || decide (f ≤ -(1 / 200)) || decide (1 / 200 ≤ f) }

/-- Whether a cell lies in a data part by the primary framing, or the nominal one where no primary mark was found (R275). -/
def Loops.inData (l : Loops) (cell : Nat) : Bool :=
  let q := l.primary.getD 160
  (decide (q + 32 ≤ cell) && decide (cell < q + 2080)) || (decide (q + 2112 ≤ cell) && decide (cell < q + 36928))

/-- The decision-directed loops after cell 95 (R223, R225, R239), on the cell whose decision has just been made: `e` its error, `t` and `t1` the
target values of that cell and the one before. -/
def Loops.track (c : LoopSetup) (l : Loops) : Loops :=
  let b := fun i => l.bits.getD i false
  let t := fun i => c.tgt (b i) (b (i + 1)) (b (i + 2))
  let y := fun i => l.y.getD (tentDelay + i) 0
  let err := fun i => y i - t i
  let e := err 0
  let data := l.inData (l.bits.length - 1 - eqDelay)
  let l1 := if bit c.freeze 2 then l else l.timing c.trkP c.trkI (y 0 * t 1 - y 1 * t 0)
  let l2 := if bit c.freeze 3 then l1
    else { l1 with common := l1.common - twoPow c.agcSlow * e * t 0 / (c.target * c.target : Nat),
                   bias := l1.bias + twoPow c.ofsSlow * e }
  let reader := fun (r : ReaderPath) =>
    if !r.used then r
    else
      let f := r.fixed.getD (tentDelay + r.delay / 64) 0
      let past := r.z.drop tentDelay
      { r with
        asym := if bit c.freeze 4 then r.asym else clampQ (r.asym + twoPow c.asymMu * e * r.weight * f * f / 128)
        taps := if data ∧ c.eqMu ≠ 0 ∧ !bit c.freeze 5 then
            r.taps.zipIdx.map fun (x, i) => clampQ (x - twoPow c.eqMu * e * past.getD i 0 / 128)
          else r.taps }
  let p := 4 * flag (b 0) + 2 * flag (b 1) + flag (b 2)
  let np :=
    if data ∧ c.npMu ≠ 0 ∧ !bit c.freeze 6 then
      l2.np.zipIdx.map fun (x, i) =>
        if i ≠ p then x
        else
          let pe := e - x.1 * err 1 - x.2 * err 2
          (clampQ (x.1 + twoPow c.npMu * pe * err 1), clampQ (x.2 + twoPow c.npMu * pe * err 2))
    else l2.np
  { l2 with readers := l2.readers.map reader, np := np }

/-- The framer looks for the primary mark at the position whose 32 decisions are now complete (R274). -/
def Loops.seek (c : LoopSetup) (l : Loops) : Loops :=
  let k := l.bits.length - 1 - eqDelay - 31
  if l.primary.isSome ∨ c.force ∨ k < 160 - c.win ∨ 160 + c.win < k then l
  else
    match l.distance primaryMark k with
    | some d => if d ≤ c.thr then { l with primary := some k } else l
    | none => l

/-- The tentative decision on a new output, and the loops that follow it. -/
def Loops.decide (c : LoopSetup) (l : Loops) : Loops :=
  match decision l.paths with
  | none => l
  | some b =>
    let l1 := ({ l with bits := b :: l.bits } : Loops).seek c
    if 96 ≤ l.cell then l1.track c else l1

/-- One equalized cell, where the samples it needs have arrived (R221, R225, R226): interpolation, equalizer, detection, loops. -/
def Loops.output (c : LoopSetup) (l : Loops) : Loops :=
  let pos : Rat := (l.cell : Rat) + l.phase
  let whole := pos.floor
  if (l.taken : Int) ≤ whole then l
  else
    let age := ((l.taken : Int) - 1 - whole).toNat
    let frac := ((pos - whole) * 64).floor.toNat
    let readers := l.readers.map fun (r : ReaderPath) => if r.used then { r with z := r.interpolated age frac :: r.z } else r
    let y := l.common * (readers.foldl (fun a r => a + (if r.used then r.weight * fir r.taps r.z else 0)) 0) - l.bias
    let k := l.cell
    let y1 := l.y.headD 0
    let l1 := { l with readers := readers, y := y :: l.y, paths := c.viterbi l.paths y }
    let l2 :=
      if k = 47 then { l1 with phase := match readers[c.ref]? with
        | some r => tonePhase ((r.raw.drop (l.taken - 48)).take 16)
        | none => l1.phase }
      else if 48 ≤ k ∧ k ≤ 95 then
        let i := (k : Int) - eqDelay
        l1.timing c.acqP c.acqI (y * c.tone (i - 1) - y1 * c.tone i)
      else l1
    { l2.decide c with cell := k + 1 }

/-- A cell's samples arrive. A splice or a servo field changes nothing (R227): no loop moves and nothing enters the equalizer. -/
def Loops.feed (c : LoopSetup) (l : Loops) (x : Cell) : Loops :=
  match x with
  | none => l
  | some v =>
    let taken := l.readers.zipIdx.map fun ((r : ReaderPath), i) => if r.used then r.take (v.getD i 0) else r
    let m := l.taken
    let after := if m < 32 ∧ m % 4 = 3 then taken.map fun r => if r.used then r.fast c else r else taken
    (({ l with readers := after, taken := m + 1 } : Loops).output c).output c

/-- A run of cells. -/
def Loops.feedAll (c : LoopSetup) (l : Loops) (x : List Cell) : Loops := x.foldl (Loops.feed c) l

/-! ## What the framer sees (R273, R274) -/

/-- The distances to the primary mark in its window, and to the backup mark in any window the decision may use. -/
def Loops.framerMarks (c : LoopSetup) (l : Loops) : List (Nat × Nat) × List (Nat × Nat) :=
  (l.marks primaryMark (160 - c.win) (160 + c.win), l.marks backupMark (2240 - 2 * c.win) (2240 + 2 * c.win))

/-- The equalizer output that stands for a cell. -/
def Loops.at (l : Loops) (cell : Nat) : Rat := (l.y.reverse).getD (cell + eqDelay) 0

end Sys2Proof.Machine
end

