-- ==== Sys2Proof/Machine/Ldpc.lean ====
section
/-! DEFINITION. The sector's codeword (R241, R242, R266, R267), its encoding, the soft detector (R238, R240) and the layered offset
min-sum decoder (R243). The exponent table is a data file outside the spec: `Config.ldpcExponent`. -/

namespace Sys2Proof.Machine

/-! ## The code (R241, R242) -/

/-- Codeword length. -/
def codeBits : Nat := 36864
/-- Information bits. -/
def infoBits : Nat := 32864
/-- Parity bits. -/
def parityBits : Nat := 4000
/-- Block rows of the base matrix. -/
def blockRows : Nat := 125
/-- Block columns. -/
def blockCols : Nat := 1152
/-- Circulant size. -/
def circulant : Nat := 32

/-- The blocks of a block row that are not zero: block column and right-circular shift of the identity. -/
def rowBlocks (i : Nat) : List (Nat × Nat) :=
  (List.range blockCols).filterMap fun c =>
    let b := (Config.ldpcExponent (blockCols * i + c)).toNat
    if b < circulant then some (c, b) else none

/-- The codeword bits of parity check `j` of block row `i`: row `j` of the identity shifted right by `b` has its 1 in column `j + b`. -/
def checkBits (i j : Nat) : List Nat := (rowBlocks i).map fun (c, b) => circulant * c + (j + b) % circulant

/-- The parity checks in order. -/
def allChecks : List (List Nat) :=
  (List.range blockRows).flatMap fun i => (List.range circulant).map fun j => checkBits i j

/-- Parity of the bits a check names. -/
def parityOf (w : Nat → Bool) (l : List Nat) : Bool := l.foldl (fun p v => p != w v) false

/-- Whether every parity check holds. -/
def checksHold (w : Nat → Bool) : Bool := allChecks.all fun l => !parityOf w l

/-- Solve linear equations over GF(2) in `k` unknowns, each a row of coefficients with its right side, by elimination; an unknown that no
equation fixes is 0. -/
def solveBits : Nat → List (List Bool × Bool) → List Bool
  | 0, _ => []
  | k + 1, rows =>
    match rows.find? fun r => r.1.headD false with
    | none => false :: solveBits k (rows.map fun r => (r.1.tail, r.2))
    | some p =>
      let rest := (rows.erase p).map fun r =>
        if r.1.headD false then ((r.1.tail.zip p.1.tail).map fun x => x.1 != x.2, r.2 != p.2) else (r.1.tail, r.2)
      let l := solveBits k rest
      ((p.1.tail.zip l).foldl (fun a x => a != (x.1 && x.2)) p.2) :: l

/-- Systematic encoding (R242): the information bits, then the parity bits with which every check holds. -/
def encodeBits (info : List Bool) : List Bool :=
  let a := info.toArray
  let rows := allChecks.map fun l =>
    ((List.range parityBits).map fun k => l.contains (infoBits + k),
      parityOf (fun v => a.getD v false) (l.filter fun v => decide (v < infoBits)))
  info ++ solveBits parityBits rows

/-- The bits of bytes, each most significant bit first (R267). -/
def msbBits (l : List Byte) : List Bool := l.flatMap fun b => (List.range 8).map fun m => b.getLsbD (7 - m)

/-- The bytes of bits, most significant bit first. -/
def bitBytes : Nat → List Bool → List Byte
  | 0, _ => []
  | k + 1, l => BitVec.ofNat 8 ((l.take 8).foldl (fun a b => 2 * a + flag b) 0) :: bitBytes k (l.drop 8)

/-- The information bytes of a sector (R267): DATA, TAG and the CRC, least significant byte first. -/
def infoBytes (data tag : List Byte) (crc : Nat) : List Byte := data ++ tag ++ leBytes 4 crc

/-- The cells of a sector on media (R266): preamble, primary mark, data part 1, backup mark, data part 2, and the pad, which continues the
preamble's pattern. -/
def sectorCells (data tag : List Byte) (crc : Nat) : List Bool :=
  let w := encodeBits (msbBits (infoBytes data tag crc))
  (List.range 160).map (fun (k : Nat) => toneBit k) ++ markBits primaryMark ++ w.take 2048 ++ markBits backupMark ++ w.drop 2048 ++
    (List.range 64).map fun (k : Nat) => toneBit (37088 + k)

/-! ## The soft detector (R238, R240) -/

/-- Where the codeword begins for a framing (R274): the cells at which data part 1 and data part 2 begin. -/
def dataStart (outcome : Nat) (offset : Int) : Nat × Nat :=
  if outcome = 0 ∨ outcome = 3 then
    let p := (160 + offset).toNat
    (p + 32, p + 2112)
  else
    let b := (2240 + offset).toNat
    (b - 2048, b + 32)

/-- Cost of a transition: state `s` holds the bits of the four cells before as 8, 4, 2, 1, newest first; `b0` is the new one. The errors of the
last two cells predict this one's with the taps of pattern p = 4 b0 + 2 b1 + b2; `prior` is the metric's cost of bit 1. -/
def branchCost (c : LoopSetup) (np : List (Rat × Rat)) (y0 y1 y2 prior : Rat) (s : Nat) (b0 : Bool) : Rat :=
  let b := fun i => bit s (4 - i)
  let n0 := y0 - c.tgt b0 (b 1) (b 2)
  let n1 := y1 - c.tgt (b 1) (b 2) (b 3)
  let n2 := y2 - c.tgt (b 2) (b 3) (b 4)
  let (h1, h2) := np.getD (4 * flag b0 + 2 * flag (b 1) + flag (b 2)) (0, 0)
  let e := n0 - h1 * n1 - h2 * n2
  e * e + if b0 then prior else 0

/-- State after a bit. -/
def nextState (s : Nat) (b : Bool) : Nat := 8 * flag b + s / 2

/-- Least of a list of costs. -/
def least (l : List Rat) : Rat := l.foldl min (l.headD 0)

/-- One step forward: the cost of each state. -/
def stepForward (cost : Nat → Bool → Rat) (a : List Rat) : List Rat :=
  (List.range 16).map fun t =>
    let b := bit t 3
    let s0 := 2 * (t % 8)
    min (a.getD s0 0 + cost s0 b) (a.getD (s0 + 1) 0 + cost (s0 + 1) b)

/-- One step back. -/
def stepBack (cost : Nat → Bool → Rat) (z : List Rat) : List Rat :=
  (List.range 16).map fun s => min (cost s false + z.getD (nextState s false) 0) (cost s true + z.getD (nextState s true) 0)

/-- The max-log LLR of the bit that a step decides: positive favours 0. -/
def stepLlr (cost : Nat → Bool → Rat) (a z : List Rat) : Rat :=
  let way := fun (b : Bool) => least ((List.range 16).map fun s => a.getD s 0 + cost s b + z.getD (nextState s b) 0)
  way true - way false

/-- LLRs of a run of cells from the forward costs `a`: the backward costs of each come from the 128 cells after it (R238). -/
def detectRun : List (Nat → Bool → Rat) → List Rat → List Rat
  | [], _ => []
  | c :: t, a =>
    let z := (t.take 128).reverse.foldl (fun z f => stepBack f z) (List.replicate 16 0)
    stepLlr c a z :: detectRun t (stepForward c a)

/-- A metric difference as an LLR of 6 bits, -31 to +31 (R240). -/
def llrOf (d : Rat) : Int := clamp (-31) 31 (roundOpen (d * 2 ^ 32 / ((Config.llrUnit.toNat : Rat) + 1)))

/-- The metric's cost of bit 1 for an a priori LLR. -/
def priorCost (l : Int) : Rat := l * ((Config.llrUnit.toNat : Rat) + 1) / 2 ^ 32

/-- LLRs of one data part, `count` cells from `start`: the mark before it is known, so the detector starts from its last four bits. -/
def Loops.detectPart (c : LoopSetup) (l : Loops) (mark start count : Nat) (prior : List Int) : List Int :=
  let ys := (l.y.reverse.drop (start + eqDelay - 2)).toArray
  let known := (markBits mark).drop 28
  let s0 := known.foldl (fun s b => nextState s b) 0
  let a0 := (List.range 16).map fun s => if s = s0 then (0 : Rat) else 2 ^ 40
  let pr := prior.toArray
  let costs := (List.range count).map fun i =>
    branchCost c l.np (ys.getD (i + 2) 0) (ys.getD (i + 1) 0) (ys.getD i 0) (priorCost (pr.getD i 0))
  ((detectRun costs a0).zip (prior ++ List.replicate count 0)).map fun (d, p) => llrOf (d - priorCost p)

/-- A detector pass over a framed sector: one LLR per codeword bit, the a priori input taken out of it (log entry 179). -/
def Loops.detect (c : LoopSetup) (l : Loops) (start : Nat × Nat) (prior : List Int) : List Int :=
  l.detectPart c primaryMark start.1 2048 (prior.take 2048) ++ l.detectPart c backupMark start.2 34816 (prior.drop 2048)

/-! ## The decoder (R243) -/

/-- The decoder's state: the posterior of each codeword bit, and the check messages per check. -/
structure Ldpc where
  post : Array Int
  msgs : Array (List Int)

/-- One parity check: offset min-sum with an offset of 1 on the 6-bit message scale. -/
def Ldpc.check (d : Ldpc) (i j : Nat) : Ldpc :=
  let vars := checkBits i j
  let k := circulant * i + j
  let old := d.msgs.getD k []
  let q := vars.zipIdx.map fun (v, x) => clamp (-31) 31 (d.post.getD v 0 - old.getD x 0)
  let new := q.zipIdx.map fun (_, x) =>
    let others := (q.zipIdx.filter fun p => p.2 != x).map (·.1)
    let mag := max 0 ((others.foldl (fun m (o : Int) => min m (o.natAbs : Int)) 31) - 1)
    if others.foldl (fun (p : Bool) o => p != decide (o < 0)) false then -mag else mag
  { post := ((vars.zip q).zip new).foldl (fun (a : Array Int) x => a.setIfInBounds x.1.1 (x.1.2 + x.2)) d.post
    msgs := d.msgs.setIfInBounds k new }

/-- One layer: the 32 checks of a block row. -/
def Ldpc.layer (d : Ldpc) (i : Nat) : Ldpc := (List.range circulant).foldl (fun d j => d.check i j) d

/-- The hard decision of a bit: a positive LLR favours 0 (R240). -/
def Ldpc.bit (d : Ldpc) (v : Nat) : Bool := decide (d.post.getD v 0 < 0)

/-- Layers from `i` on, at most `fuel`, until the checks hold at the end of one: the layers run, where they did. -/
def Ldpc.layers : Nat → Nat → Nat → Ldpc → Ldpc × Nat × Bool
  | 0, _, ran, d => (d, ran, false)
  | f + 1, i, ran, d =>
    let e := d.layer (i % blockRows)
    if checksHold e.bit then (e, ran + 1, true) else Ldpc.layers f (i + 1) (ran + 1) e

/-- What a decode comes to: layers run, detector passes, whether the checks hold, the bits, and the hard decisions of the first detector pass. -/
structure Decoded where
  layers : Nat
  passes : Nat
  holds : Bool
  bits : List Bool
  first : List Bool
  llr : List Int

/-- Replace the channel LLRs of a decode and keep the check messages (log entry 179). -/
def Ldpc.load (d : Ldpc) (llr : List Int) : Ldpc :=
  let sums := (List.range (blockRows * circulant)).foldl (fun (a : Array Int) k =>
    ((checkBits (k / circulant) (k % circulant)).zip (d.msgs.getD k [])).foldl (fun (a : Array Int) x =>
      a.setIfInBounds x.1 (a.getD x.1 0 + x.2)) a) llr.toArray
  { d with post := sums }

/-- Passes of detector and decoder (R243): `detect` gives the LLRs of a pass from the a priori input; `left` layers may still run, `per` in one
pass. -/
def decodePasses (detect : List Int → List Int) (per : Nat) :
    Nat → Nat → Nat → Nat → List Int → List Bool → Ldpc → Decoded
  | 0, passes, _, ran, _, first, d => ⟨ran, passes, false, (List.range codeBits).map d.bit, first, []⟩
  | f + 1, passes, left, ran, prior, first, d =>
    let llr := detect prior
    let first' := if passes = 0 then llr.map fun x => decide (x < 0) else first
    let (e, now, ok) := (d.load llr).layers (min left per) ran ran
    if ok then ⟨now, passes + 1, true, (List.range codeBits).map e.bit, first', llr⟩
    else if left < per then ⟨now, passes + 1, false, (List.range codeBits).map e.bit, first', llr⟩
    else
      let ext := (List.range codeBits).map fun v => clamp (-31) 31 (e.post.getD v 0 - llr.getD v 0)
      decodePasses detect per f (passes + 1) (left - per) now ext first' e

/-- A decode of LLRs with at most `locals` local iterations in `globals` passes of `per` iterations each (R243). -/
def decodeSector (detect : List Int → List Int) (locals globals per : Nat) : Decoded :=
  decodePasses detect (per * blockRows) globals 0 (locals * blockRows) 0 [] []
    ⟨#[], Array.replicate (blockRows * circulant) []⟩

end Sys2Proof.Machine
end

