-- ==== Sys2Proof/Machine/Events.lean ====
section
/-! DEFINITION. The event matrix (chapter 6): raising an event, the priority ping-pong FIFOs, asynchronous events (R549), the sideband
alert and MSI-X targets, staging a Cairn record (R683), and block-mover triggers (R506, R507). -/

namespace Sys2Proof.Machine

/-! ## Power gating -/

/-- The GATE_STATUS bit of a block (R129). -/
def gateField : GateBlock → Fld
  | .tpar => ⟨0xD0014, 13, 13⟩
  | .imgEng => ⟨0xD0014, 12, 12⟩
  | .xts => ⟨0xD0014, 11, 11⟩
  | .hif p => ⟨0xD0014, 9 + p.val, 9 + p.val⟩
  | .bmv => ⟨0xD0014, 8, 8⟩
  | .fmt n => ⟨0xD0014, 4 + n.val, 4 + n.val⟩
  | .chn n => ⟨0xD0014, n.val, n.val⟩

/-- Whether the die has the block (R129). -/
def State.gatePresent (s : State) : GateBlock → Bool
  | .tpar => bit s.cap0 8
  | .xts => bit s.cap0 9
  | .hif p => bit s.cap0 (12 + p.val)
  | .fmt n => s.present n
  | .chn n => s.present n
  | _ => true

/-- Whether the block may wake: a present but unused unit stays gated for the whole power cycle (R129, R36). -/
def State.gateUsable (s : State) : GateBlock → Bool
  | .tpar => !s.boot.compat
  | .xts => !s.boot.compat
  | .hif p => !s.boot.compat || p == 0
  | .fmt n => s.used n
  | .chn n => s.used n
  | _ => true

/-- The blocks that gate, in the order of R129's table. -/
def gateBlocks : List GateBlock :=
  [.tpar, .imgEng, .xts, .hif 0, .hif 1, .bmv] ++ (List.finRange 4).flatMap fun n => [.fmt n, .chn n]

/-- PWR.GATE_STATUS (R129): the blocks that have removed their power, and the present but unused ones. -/
def State.showGates (s : State) : Nat :=
  gateBlocks.foldl (fun w b =>
    w + (if s.gatePresent b ∧ (!s.gateUsable b ∨ s.get (gateField b) = 1) then 2 ^ (gateField b).lo else 0)) 0

/-- A handshake or access reaches a block: it wakes (R126). -/
def State.wake (s : State) (b : GateBlock) : State :=
  if s.gatePresent b ∧ s.gateUsable b then s.put (gateField b) 0 else s


/-! ## Block-mover triggers -/

/-- A channel. -/
def State.chan (s : State) (c : ChanIx) : MoverChan := s.mover.chans[c]
/-- `s` with a channel replaced. -/
def State.setMover (s : State) (c : ChanIx) (x : MoverChan) : State :=
  { s with mover := { s.mover with chans := s.mover.chans.set c x } }

/-- The descriptor in a register set of channel `c` whose registers start at `base` (R514). -/
def State.setDescriptor (s : State) (base : Nat) : Descriptor :=
  let w := fun k => (s.reg (base + 4 * k)).toNat
  { control := w 0, length := w 1, src := w 2 + w 3 % 0x10000 * 2 ^ 32, dst := w 4 + w 5 % 0x10000 * 2 ^ 32,
    seed := w 6 + w 7 * 2 ^ 32, addr := 0, direct := true, head := 0 }

/-- The take-over of R507: shadow set to active set, ARM and TRIG_PEND cleared, the descriptor started. -/
def State.takeOver (s : State) (c : ChanIx) : State :=
  let base := 0x50000 + 0x100 * c.val
  let s1 := (List.range 8).foldl (fun s k => s.setReg (base + 0x80 + 4 * k) (s.reg (base + 0x40 + 4 * k))) s
  let s2 := s1.put ⟨base + 0x80, 31, 31⟩ 0
  let s3 := (s2.put (Reg.BMV_SH_CTL_ARM c) 0).put (Reg.BMV_CH_STATUS_TRIG_PEND c) 0
  s3.setMover c { s3.chan c with run := .running (s3.setDescriptor (base + 0x80)), abort := false }

/-- At a descriptor boundary or while idle and not halted, a direct channel takes an armed shadow set (R507); a ring
channel with a pending trigger fetches (R505). -/
def State.moverNext (s : State) (c : ChanIx) : State :=
  if s.get (Reg.BMV_CH_CTRL_EN c) = 0 ∨ s.get (Reg.BMV_CH_STATUS_HALTED c) = 1 ∨ (s.chan c).run ≠ .idle then s
  else if s.get (Reg.BMV_CH_CTRL_MODE c) = 1 then
    if s.get (Reg.BMV_SH_CTL_ARM c) = 1 ∧
        (s.get (Reg.BMV_CH_CTRL_WAIT_TRIG c) = 0 ∨ s.get (Reg.BMV_CH_STATUS_TRIG_PEND c) = 1) then s.takeOver c
    else s
  else if s.get (Reg.BMV_CH_STATUS_TRIG_PEND c) = 1 then s.setMover c { s.chan c with run := .fetch } else s

/-- A trigger (R506): it sets TRIG_PEND, except in direct mode with WAIT_TRIG 0. -/
def State.trigger (s : State) (c : ChanIx) : State :=
  if s.get (Reg.BMV_CH_CTRL_MODE c) = 1 ∧ s.get (Reg.BMV_CH_CTRL_WAIT_TRIG c) = 0 then s
  else ((s.wake .bmv).put (Reg.BMV_CH_STATUS_TRIG_PEND c) 1).moverNext c

/-! ## Priority ping-pong FIFOs -/

/-- A FIFO of R182. -/
def State.queue (s : State) (q : QIx) : Queue := s.queues[q]
/-- `s` with a FIFO replaced. -/
def State.setQueue (s : State) (q : QIx) (x : Queue) : State := { s with queues := s.queues.set q x }

/-- DEPTH (R196). -/
def Queue.depth (x : Queue) : Nat := x.fill.length + x.drain.length

/-- PKTS (R200): packets of which no item has been popped. -/
def Queue.pkts (x : Queue) : Nat :=
  ((x.fill ++ x.drain).filter (·.last)).length - (if x.half.isSome then 1 else 0)

/-- R197: the bank a packet goes to; `none` where it is refused. -/
def Queue.place (x : Queue) (items : List Item) : Option Queue :=
  if x.fill.length + items.length ≤ 64 then some { x with fill := x.fill ++ items }
  else if x.drain.length + items.length ≤ 64 then some { x with drain := x.drain ++ items }
  else none

/-- The oldest item of priority `p`, and the rest. -/
def takePrio (p : Nat) : List Item → Option (Item × List Item)
  | [] => none
  | i :: t =>
    if i.prio = p then some (i, t)
    else (takePrio p t).map fun (j, r) => (j, i :: r)

/-- The oldest item of the highest priority, and the rest (R198 step 3). -/
def takeBest (l : List Item) : Option (Item × List Item) :=
  ((takePrio 0 l).orElse fun _ => (takePrio 1 l).orElse fun _ => (takePrio 2 l).orElse fun _ => takePrio 3 l)

/-- R198: a pop; `none` where both banks are empty. -/
def Queue.pop (x : Queue) : Option (Item × Queue) :=
  let y : Queue := if x.drain.isEmpty then { x with fill := [], drain := x.fill, drainBank := !x.drainBank } else x
  let got := match y.half with
    | some p => takePrio p y.drain
    | none => takeBest y.drain
  got.map fun (i, r) => (i, { y with drain := r, half := if i.last then none else some i.prio })

/-- R205: ARMED becomes 1 whenever LVL_HIT is 0 and DEPTH is below LEVEL. -/
def State.rearm (s : State) (q : QIx) : State :=
  if s.get (Reg.EVT_Q_STATUS_LVL_HIT q) = 0 ∧ (s.queue q).depth < s.get (Reg.EVT_Q_CTRL_LEVEL q) then
    s.setQueue q { s.queue q with armed := true }
  else s

/-- The items of one push: every item carries the event's ID and PRIO, END on the last only (R195). -/
def packetItems (id prio : Nat) : List Nat → List Item
  | [] => []
  | [p] => [⟨id, prio, true, p % 2 ^ 48⟩]
  | p :: t => ⟨id, prio, false, p % 2 ^ 48⟩ :: packetItems id prio t

/-- A push (R197, R201, R205): the new state and the queue events it raises, with their payloads (R208). -/
def State.push (s : State) (q : QIx) (items : List Item) : State × List (Nat × Nat) :=
  let x := s.queue q
  let level := s.get (Reg.EVT_Q_CTRL_LEVEL q)
  match x.place items with
  | some y =>
    if x.armed ∧ x.depth < level ∧ level ≤ y.depth then
      ((s.setQueue q { y with armed := false }).put (Reg.EVT_Q_STATUS_LVL_HIT q) 1,
        [(0x0A0 + q.val, y.depth + level * 2 ^ 8)])
    else (s.setQueue q y, [])
  | none =>
    let s1 := (s.bump (Reg.EVT_Q_DROPS_COUNT q) items.length).put (Reg.EVT_Q_STATUS_OVERRUN q) 1
    (s1, if s.get (Reg.EVT_Q_STATUS_OVERRUN q) = 0 then
        [(0x0A8 + q.val, ((items.head?.map (·.id)).getD 0) + items.length * 2 ^ 16)] else [])

/-- A pop by a consumer (R198), with the arming of R205 that the lower DEPTH brings. -/
def State.popQueue (s : State) (q : QIx) : Option (Item × State) :=
  (s.queue q).pop.map fun (i, y) => (i, (s.setQueue q y).rearm q)

/-- The 64 bits of an item (R195). -/
def Item.word (i : Item) : Nat := i.id % 2 ^ 11 + i.prio % 4 * 2 ^ 11 + flag i.last * 2 ^ 13 + i.payload * 2 ^ 16

/-! ## Telemetry reads (R203, R204) -/

/-- A requester's number: the ports, the sideband, the sequencers. -/
def reqIndex : Requester → Nat
  | .port p => p.val
  | .sideband => 2
  | .seq q => 3 + q.val

/-- The capture of a LO register by a requester (R12, R204): the upper half. -/
def State.capture (s : State) (master off v : Nat) : State :=
  { s with caps := Sparse.set (fun _ => 0) s.caps (master * 2 ^ 22 + off) (BitVec.ofNat 32 (v / 2 ^ 32)) }

/-- What a requester captured for the LO register at `off`. -/
def State.captured (s : State) (master off : Nat) : Nat := (Sparse.get (fun _ => 0) s.caps (master * 2 ^ 22 + off)).toNat

/-- Offset of EVT.TQ_POP_LO. -/
def tqPopLo : Nat := 0x130F0

/-- A telemetry read that waited is answered with 64 bits (R203, R204): their low half goes to the requester, or, for a Register Read,
into its response with the registers after it, of which only the first, EVT.TQ_POP_HI, is not reserved. -/
def State.answerTelemetry (s : State) (r : Requester) (w : Nat) : State :=
  let s1 := s.capture (reqIndex r) tqPopLo w
  match r, s.sbd.tqRead with
  | .sideband, some (before, after) =>
    ({ s1 with sbd := { s1.sbd with tqRead := none } }).emit (.miResponse 0 (zeros 3 ++ before ++ leBytes 4 w ++
      (if after = 0 then [] else leBytes 4 (w / 2 ^ 32) ++ zeros (4 * (after - 1)))))
  | _, _ => s1.emit (.readData r (BitVec.ofNat 32 w))

/-- The telemetry reads that wait, oldest first, take items as long as there are any (R203, R207). -/
def serveWaiting : List Requester → State → State
  | [], s => { s with tqWait := [] }
  | r :: t, s =>
    match s.popQueue 7 with
    | none => { s with tqWait := r :: t }
    | some (i, s1) => serveWaiting t (s1.answerTelemetry r i.word)

/-- The telemetry reads that wait are served after a push. -/
def State.serveTelemetry (s : State) : State := serveWaiting s.tqWait s

/-! ## A WAIT that stalls (R202) -/

/-- The rank of the pending source that is to be taken, if any: higher than the running handler's (R162). -/
def Seq.pendingRank (x : Seq) : Option Nat :=
  ((List.range 5).find? fun i => x.latches.toList.getD i false).bind fun i =>
    if x.ctx.rank = 0 ∨ i + 1 < x.ctx.rank then some (i + 1) else none

/-- A sequencer stalled in WAIT pops as soon as an item is in its queue (R202, R207), unless a privileged source that arrived before has
yet to end the stall (R162). The item is held for the WAIT, which ends with the sequencer's next WAIT command. -/
def State.serveWait (s : State) (q : SeqIx) : State :=
  let x := s.seq q
  if x.run = .stalled ∧ x.item.isNone ∧ (4 ≤ q.val ∨ x.pendingRank.isNone) then
    match s.popQueue ⟨q.val, by omega⟩ with
    | none => s
    | some (i, t) => t.setSeq q { t.seq q with run := .running, item := some i }
  else s

/-- What waits on a queue is served after a push: the WAIT of its sequencer, or the telemetry reads. -/
def State.serveQueue (s : State) (q : QIx) : State :=
  if h : q.val < 7 then s.serveWait ⟨q.val, h⟩ else s.serveTelemetry

/-! ## Cairn staging -/

/-- The class of an event ID (R675). -/
def eventClass (id : Nat) : Nat :=
  if id < 0x080 then 0 else if id < 0x100 then 1 else if id < 0x500 then 2 + (id - 0x100) / 0x100
  else if id < 0x680 then 6 else if id < 0x700 then 7 else if id < 0x780 then 8 else if id < 0x7C0 then 9
  else if id < 0x7D0 then 10 else if id < 0x7E0 then 11 else if id < 0x7F0 then 12 else if id < 0x7F8 then 13 else 14

/-- Records in the log (R680). -/
def Cairn.count (c : Cairn) : Nat := c.usedPrimary + c.usedSpare - c.skipped.length

/-- A record stamped now (R678, R679); before the scan it carries the time since POR_N rose. -/
def State.stamp (s : State) (id payload : Nat) (extra : List Byte) : Record :=
  let c := s.crn
  { seq := 0, id := id, opTime := if c.scanned then c.opTime else c.elapsed, pcyc := c.pcyc,
    hostTs := (c.hostTs.map fun (t, at_) => t + (c.elapsed - at_)).getD 0, tsValid := c.hostTs.isSome,
    lkoTime := s.pwr.crystalStopped, tsSet := c.tsSetPending, payload := payload % 2 ^ 48, extra := extra }

/-- Append a record to staging with the next SEQ (R683); before the scan ends it is held without one. -/
def State.stageRecord (s : State) (r : Record) : State :=
  let c := s.crn
  let c1 := if c.scanned then { c with staged := c.staged ++ [{ r with seq := c.nextSeq }], nextSeq := c.nextSeq + 1 }
    else { c with staged := c.staged ++ [r] }
  { s with crn := { c1 with tsSetPending := c.tsSetPending && !r.tsSet } }

/-- Staged records that the running flush takes: while a clear waits for its step 3, those below its SEQ (R694). -/
def Cairn.flushable (c : Cairn) : Bool :=
  match c.staged.head? with
  | some r => !c.clearing || decide (r.seq < c.clearSeq)
  | none => false

/-- A flush starts (R684); it ends at once when nothing is staged or both regions have failed. -/
def State.startFlush (s : State) : State :=
  if s.crn.scanned ∧ !s.crn.bothFail ∧ s.crn.flushable then { s with crn := { s.crn with flushing := true } } else s


/-- Whether staging takes one more routed record (R682, R683). -/
def Cairn.accepts (c : Cairn) : Bool :=
  if c.scanned then decide (c.count + c.staged.length < 16383) && decide (c.staged.length < 128)
  else decide (c.staged.length < 127)

/-- The last place in the log takes CRN_FULL, which Cairn writes itself as soon as the records in the log and those
staged reach 16,383 and staging has room (R682). Answers whether it did. -/
def State.fullCheck (s : State) : State × Bool :=
  if s.crn.scanned ∧ !s.crn.full ∧ s.crn.count + s.crn.staged.length = 16383 ∧ s.crn.staged.length < 128 then
    let s1 := s.stageRecord (s.stamp 0x7F2 0 (zeros 14))
    ({ s1 with crn := { s1.crn with full := true } }, true)
  else (s, false)

/-- Whether the log holds CRN_FULL: it is no longer staged (R698). -/
def Cairn.holdsFull (c : Cairn) : Bool := c.full && !c.staged.any (·.id == 0x7F2)

/-- CRN 1 (R189, R683): the event's record is staged, or refused and counted as missed (R682). Answers whether CRN_FULL
was staged after it. -/
def State.stageEvent (s : State) (id payload : Nat) : State × Bool :=
  if s.crn.accepts then (s.stageRecord (s.stamp id payload (zeros 14))).fullCheck
  else (s.bump (Reg.CRN_MISSED_COUNT (eventClass id)) 1, false)

/-- The host interface replaced. -/
def State.setHif (s : State) (h : Hif) : State := { s with hif := h }
/-- A controller. -/
def State.ctl (s : State) (p : Port) : Controller := s.hif.ctls[p]
/-- A controller replaced. -/
def State.setCtl (s : State) (p : Port) (c : Controller) : State := s.setHif { s.hif with ctls := s.hif.ctls.set p c }
/-! ## Asynchronous events (R549) -/

/-- The log page whose reading unmasks an event. -/
def asyncLog (ty info : Nat) : Nat :=
  match ty, info with
  | 0, _ => 0x01
  | 1, _ => 0x02
  | 6, _ => 0x80
  | _, 1 => 0xC3
  | _, 2 => 0xC4
  | _, _ => 0x02

/-- Whether the Asynchronous Event Configuration lets an event through (R543, R549). -/
def Controller.asyncOn (k : Controller) (ty info : Nat) : Bool :=
  if ty = 1 then (if info = 0 then bit k.asyncCfg 2 else bit k.asyncCfg 1) else true

/-- An Asynchronous Event Request completes with success (R531): it goes behind the commands committed before. -/
def State.endAer (s : State) (seq dw0 : Nat) : State :=
  match s.hif.cmds.find? (·.seq == seq) with
  | none => s
  | some c => s.setHif { s.hif with cmds := s.hif.cmds.filter (·.seq != seq) ++ [{ c with phase := .committed 0 dw0 }] }

/-- Report an event on a controller: an outstanding request completes with it, else it waits; it is masked until its log
is read. -/
def State.asyncEvent (s : State) (p : Port) (ty info : Nat) : State :=
  let k := s.ctl p
  if !k.rdy ∨ !k.asyncOn ty info ∨ k.asyncMasked.contains (ty, info) then s
  else
    let dw0 := ty + info * 2 ^ 8 + asyncLog ty info * 2 ^ 16
    match k.aers with
    | a :: t => (s.setCtl p { k with aers := t, asyncMasked := (ty, info) :: k.asyncMasked }).endAer a dw0
    | [] => s.setCtl p { k with asyncMasked := (ty, info) :: k.asyncMasked,
                                asyncPending := k.asyncPending ++ [(ty, info, dw0)] }

/-- On both controllers. -/
def State.asyncAll (s : State) (ty info : Nat) : State := (s.asyncEvent 0 ty info).asyncEvent 1 ty info

/-- KS writes operating time and the power-cycle count to the system area of every used lane (R677). -/
def State.saveTimes (s : State) : State :=
  { s with lanes := Vector.ofFn fun (n : Fin 4) =>
      let l := s.lanes[n]
      if s.used n.val then { l with sys := { l.sys with opTime := s.crn.opTime, pcyc := s.crn.pcyc } } else l }

/-! ## Routing -/

/-- Whether an event ID belongs to an absent unit (R748): such IDs are never raised. -/
def State.absentEvent (s : State) (id : Nat) : Bool :=
  if 0x100 ≤ id ∧ id < 0x500 then !s.present ((id - 0x100) / 0x100)
  else if 0x080 ≤ id ∧ id < 0x090 then decide (id % 8 < 7) && !s.seqPresent (id % 8)
  else if 0x090 ≤ id ∧ id < 0x094 then !s.present (id % 4)
  else if 0x0A0 ≤ id ∧ id < 0x0B0 then decide (id % 8 < 7) && !s.seqPresent (id % 8)
  else if 0x500 ≤ id ∧ id < 0x504 then !s.portPresent (id % 2)
  else if 0x506 ≤ id ∧ id < 0x50A then !s.portPresent (id % 2)
  else false

/-- MSI-X table size of a function (R191): 2,048 entries. -/
def msixVectors : Nat := 2048

/-- The message address and data of a table entry (R191); an entry the host has not written holds zeros (log entry 169). -/
def PortState.msixEntry (x : PortState) (vec : Nat) : Nat × Nat := Sparse.get (fun _ => (0, 0)) x.msixTable vec

/-- Send, or pend, an MSI-X message of a port (R191); in D3hot nothing is sent, and the message pends (log entry 154). -/
def State.msixSend (s : State) (p : Port) (vec : Nat) : State :=
  if s.boot.compat ∨ !s.portPresent p then s
  else
    let f := s.hif.ports[p]
    if !f.msixEnabled ∨ msixVectors ≤ vec then s
    else if f.msixFnMask ∨ !f.msixUnmasked.contains vec then
      { s with hif := { s.hif with ports := s.hif.ports.set p { f with msixPending := f.msixPending.insert vec } } }
    else if f.d3hot then { s with hif := { s.hif with ports := s.hif.ports.set p { f with msixPending := f.msixPending.insert vec } } }
    else
      let (a, d) := f.msixEntry vec
      s.emit (.msix p vec a d)

/-- Present the sideband alert (R190, R711): ALERT_N is pulled low, and in I3C mode an in-band interrupt is sent where the
bus has it enabled; an alert presented while one is pending adds nothing. -/
def State.presentAlert (s : State) : State :=
  if s.sbd.alertPend then s
  else
    let s1 := { s with sbd := { s.sbd with alertPend := true }, pins := { s.pins with alertLow := true } }
    if s.boot.straps.sbSel ∧ s.sbd.ibi then s1.emit (.inBandInterrupt 0xA0) else s1

/-- The status bit of R190 and what its setting sends. -/
def State.raiseStatus (s : State) (id word : Nat) : State :=
  let f : Fld := ⟨0x12000 + 4 * (id / 32), id % 32, id % 32⟩
  let s1 := s.put f 1
  if s.get f = 1 then s1
  else
    let s2 := if word / 0x1000 % 4 = 2 then s1.msixSend (if bit word 11 then 1 else 0) (word % 0x800) else s1
    if bit word 14 then s2.presentAlert else s2

/-- One event to its targets (R181, R184): the state and the queue events that follow. An ID that no chapter defines, or that belongs
to an absent unit, is never raised (R178, R748). The record of a packet of several items holds the first item's payload (log entry
170). -/
def State.deliver (s : State) (id : Nat) (payloads : List Nat) : State × List (Nat × Nat) :=
  if !definedEvent id ∨ s.absentEvent id ∨ !s.powered then (s, [])
  else
    let word := s.get (Reg.EVT_ROUTE_WORD id)
    let own := 0x7F0 ≤ id ∧ id < 0x7F8 ∧ id ≠ 0x7F4 ∧ id ≠ 0x7F5
    let (s0, full) := if bit word 15 ∧ ¬ own then s.stageEvent id (payloads.headD 0) else (s, false)
    let s1 := if full then s0.asyncAll 7 2 else s0
    let s2 := if bit word 14 ∨ word / 0x1000 % 4 = 2 then s1.raiseStatus id word else s1
    let s3 := if word / 0x1000 % 4 = 3 then s2.trigger ⟨word % 16, Nat.mod_lt _ (by decide)⟩ else s2
    let after := if full then [(0x7F2, 0)] else []
    if word / 0x1000 % 4 = 1 then
      let (s4, ev) := s3.push ⟨word % 8, Nat.mod_lt _ (by decide)⟩ (packetItems id (word / 0x400 % 4) payloads)
      (s4.serveQueue ⟨word % 8, Nat.mod_lt _ (by decide)⟩, after ++ ev)
    else (s3, after)

/-- Deliver events one after another, with the queue events each brings; `fuel` bounds the chain (R208: neither queue
event can follow itself while its queue stays unarmed or overrun, so the chain of eight queues ends). -/
def raiseList : Nat → State → List (Nat × List Nat) → State
  | 0, s, _ => s
  | _, s, [] => s
  | fuel + 1, s, (id, ps) :: t =>
    let (s1, ev) := s.deliver id ps
    raiseList fuel s1 (ev.map (fun (i, p) => (i, [p])) ++ t)

/-- Raise an event with one payload (R178, R180, R184). -/
def State.raise (s : State) (id payload : Nat) : State := raiseList 40 s [(id, [payload % 2 ^ 48])]

/-- Raise an event that delivers a packet (R194). -/
def State.raisePacket (s : State) (id : Nat) (payloads : List Nat) : State := raiseList 40 s [(id, payloads.take 8)]

/-- Raise lane `n`'s event at an offset of its range. -/
def State.raiseLane (s : State) (n : Lane) (o payload : Nat) : State := s.raise (0x100 + 0x100 * n.val + o) payload

/-- CRN_FULL where it is due, with its event and the asynchronous event (R682, R697). -/
def State.fullNow (s : State) : State :=
  let (t, full) := s.fullCheck
  if full then (t.asyncAll 7 2).raise 0x7F2 0 else t

/-- A record that Cairn writes itself, whatever its routing word says (R697), with the event's other targets. -/
def State.ownRecord (s : State) (id payload : Nat) (extra : List Byte) : State :=
  let s1 := if s.crn.accepts then (s.stageRecord (s.stamp id payload extra)).fullNow
    else s.bump (Reg.CRN_MISSED_COUNT (eventClass id)) 1
  s1.raise id payload

/-! ## Privileged sources -/

/-- The rank of a source (R161), 1 highest. -/
def privRank : PrivSource → Nat
  | .powerFail => 1
  | .lookout => 2
  | .cone3 => 3
  | .writeAbort => 4
  | .wedge => 5

/-- The SEQ.PRIV_LOST_n field of a rank (R175). -/
def privLostField (n rank : Nat) : Fld := ⟨0x2000C + 0x40 * n, 35 - 6 * rank, 30 - 6 * rank⟩

/-- A privileged source asserts at lane sequencer `n` (R163). -/
def State.assertPriv (s : State) (n : Lane) (src : PrivSource) : State :=
  if !s.present n then s
  else
    let x := s.seq (laneSeq n)
    let r := privRank src
    if x.latches.toList.getD (r - 1) false then
      (s.bump (privLostField n r) 1).raise (0x090 + n.val) r
    else s.setSeq (laneSeq n) { x with latches := Vector.ofFn fun i => if i.val = r - 1 then true else x.latches[i] }

end Sys2Proof.Machine
end

