-- ==== Sys2Proof/Machine/Power.lean ====
section
/-! DEFINITION. Power management (chapter 4): core voltage requests over AVSBus (R130 to R134), power gating (R126 to
R129) and the stopped crystal (R119). -/

namespace Sys2Proof.Machine

/-- The voltage PWR steps from: the last request, else the last read-back, else an open value in the range the
regulator must start in (R131; log entry 6). -/
def State.avsBase (s : State) : Nat :=
  if s.get Reg.PWR_AVS_STATUS_TARGET ≠ 0 then s.get Reg.PWR_AVS_STATUS_TARGET
  else if s.get Reg.PWR_AVS_STATUS_READBACK ≠ 0 then s.get Reg.PWR_AVS_STATUS_READBACK
  else 750 + s.freeNat % 51

/-- The voltage to request for a wanted one (R130, R133): a multiple of 5 mV within VMIN, the floor and VMAX; VMAX itself where none lies
between them, as where the floor lies above VMAX. -/
def State.avsWithin (s : State) (floor mv : Nat) : Nat :=
  let vmax := s.get Reg.PWR_AVS_CTRL_VMAX
  let lo := ceilDiv (max (s.get Reg.PWR_AVS_CTRL_VMIN) floor) 5 * 5
  if vmax < lo then vmax else min (vmax / 5 * 5) (max lo mv)

/-- Send a request (R130) on rail 0; none is sent before the LOCK stage has ended (R131), none that equals the one in force, and after
the failure of R132 none that does not raise the voltage. -/
def State.avsSend (s : State) (mv : Nat) : State :=
  if !s.boot.lockEnded ∨ mv = s.get Reg.PWR_AVS_STATUS_TARGET ∨ (s.pwr.raiseOnly ∧ mv ≤ s.avsBase) then s
  else
    { (s.put Reg.PWR_AVS_STATUS_TARGET mv).emit (.avs 0 (.voltageWrite mv)) with
      pwr := { s.pwr with avsRequest := some mv, avsTries := 0 } }.drew

/-- One step up (R124, R130): to the next multiple of 5 mV, not below the floor or VMIN, never above VMAX. -/
def State.avsUp (s : State) (floor : Nat) : State := s.avsSend (s.avsWithin floor ((s.avsBase + 5) / 5 * 5))

/-- AVS_STEP_UP (R130): a backlog stayed above half its depth for 10 µs. -/
def execAvsStepUp (floor : Nat) (s : State) : Host.Outcome State Fault Refusal := .next (s.avsUp floor)

/-- AVS_STEP_DOWN (R130): every backlog stayed below one quarter of its depth for 1 ms; never below the floor, and not
after the failure of R132. -/
def execAvsStepDown (floor : Nat) (s : State) : Host.Outcome State Fault Refusal :=
  .next (if s.pwr.raiseOnly then s
    else s.avsSend (s.avsWithin floor (ceilDiv (s.avsBase - 5) 5 * 5)))

/-- AVS_RESPONSE (R130, R132, R134): the regulator acknowledged the request. PWR then sends the Voltage read and the Status read (log
entry 172), and the voltage read back is shown. -/
def execAvsResponse (readback : Nat) (s : State) : Host.Outcome State Fault Refusal :=
  .next <|
    let s1 : State := { s.put Reg.PWR_AVS_STATUS_READBACK readback with pwr := { s.pwr with avsRequest := none, avsTries := 0 } }
    if s.pwr.avsRequest.isSome then (s1.emit (.avs 0 .voltageRead)).emit (.avs 0 .statusRead) else s1

/-- AVS_NO_RESPONSE (R132): no acknowledge within 100 µs. The request is retried twice; the third failure sets
NO_RESPONSE, raises event 0x020 and ends lowering. -/
def execAvsNoResponse (s : State) : Host.Outcome State Fault Refusal :=
  .next <|
    match s.pwr.avsRequest with
    | none => s
    | some mv =>
      if s.pwr.avsTries < 2 then
        { s.emit (.avs 0 (.voltageWrite mv)) with pwr := { s.pwr with avsTries := s.pwr.avsTries + 1 } }
      else
        { s.put Reg.PWR_AVS_STATUS_NO_RESPONSE 1 with
          pwr := { s.pwr with avsRequest := none, avsTries := 0, raiseOnly := true } }.raise 0x020
            (s.get Reg.PWR_AVS_STATUS_TARGET)

/-! ## Power gating -/

/-- GATE_IDLE_EXPIRY (R126, R127): a block without a pending handshake for IDLE_US removes its power; 0 never gates, and
HIF of a port does not gate while its link is in L0. -/
def execGateIdleExpiry (b : GateBlock) (s : State) : Host.Outcome State Fault Refusal :=
  .next <|
    let inL0 : Bool := match b with
      | .hif p => s.hif.ports[p].linkUp && !s.hif.ports[p].inL1
      | _ => false
    if s.get Reg.PWR_GATE_IDLE_IDLE_US = 0 ∨ !s.gatePresent b ∨ inL0 then s else s.put (gateField b) 1

/-- BLOCK_WAKE (R126): a handshake at a gated block wakes it and completes once the block is awake. -/
def execBlockWake (b : GateBlock) (s : State) : Host.Outcome State Fault Refusal := .next (s.wake b)

/-! ## The crystal -/

/-- CRYSTAL_EDGE_RETURN (R119, R135): operating time and the scan go back to the crystal; event 0x021 with payload 1. -/
def execCrystalEdgeReturn (s : State) : Host.Outcome State Fault Refusal :=
  .next <|
    if s.pwr.crystalStopped then
      ({ s with pwr := { s.pwr with crystalStopped := false } }.put Reg.KLN_STATUS_LKO_PACED 0).raise 0x021 1
    else s

end Sys2Proof.Machine
end

