-- ==== Sys2Proof/Machine/Channel.lean ====
section
/-! DEFINITION. The read channel (chapter 7): the iteration bank, the run and the end of a decode, the loop values, the counters and the
margin measurement. -/

namespace Sys2Proof.Machine

/-- Readers of the active head that the channel uses (R216), as a mask. -/
def State.readersOf (s : State) (h : Nat) : Nat :=
  let heads := s.section secHeads
  match headEntry heads h with
  | none => 0
  | some o => ((u8 heads (o + 2) % 8).land (bits s.cap0 6 4)).land (if s.boot.compat then 3 else 7)

/-- The delay of each used reader (R219): the latest reader is not delayed. -/
def State.readerDelays (s : State) (n : Lane) (h track : Nat) : List Nat :=
  let heads := s.section secHeads
  let zones := s.section secZones
  match headEntry heads h, zoneAt zones h track with
  | some ho, some zo =>
    let used := (List.range 3).filter fun r => bit (s.readersOf h) r
    let late := fun r => signed 16 (u16 heads (ho + 4 + 2 * r)) + signed 16 (s.zoneField n zo (0x2A + 2 * r) 2)
    let top := used.foldl (fun m r => max m (late r)) (late (used.headD 0))
    (List.range 3).map fun r => if used.contains r then (top - late r).toNat else 0
  | _, _ => [0, 0, 0]

/-- A decode limit under the Kiln cap in force (R248). -/
def capped (limit cap : Nat) : Nat := if cap = 0 then limit else min limit cap

/-- The zone entries and presets that a sector's loops start from (R221 to R225, R230 to R232): what stays constant through the sector. -/
def State.loopSetup (s : State) (n : Lane) (h track : Nat) : LoopSetup :=
  let zones := s.section secZones
  let z := (zoneAt zones h track).getD 0
  let p := 0x10 + 144 * u16 zones (z + 0x10 + 2 * s.get (Reg.CHN_CTRL_PRESET_SEL n))
  let lo := fun o => u8 zones (z + o) % 16
  let hi := fun o => u8 zones (z + o) / 16
  let q14 := fun o => (signed 16 (u16 zones (p + o)) : Rat) / 16384
  { target := u8 zones (z + 0x42), g1 := q14 0x60, g2 := q14 0x62, agcFast := lo 0x43, agcSlow := hi 0x43, ofsFast := lo 0x44,
    ofsSlow := hi 0x44, asymMu := lo 0x45, acqP := lo 0x46, acqI := hi 0x46, trkP := lo 0x47, trkI := hi 0x47,
    eqMu := u8 zones (z + 0x48), npMu := u8 zones (z + 0x49), freeze := (s.reg (0x100014 + 0x40000 * n.val)).toNat % 128,
    ref := ((headEntry (s.section secHeads) h).map fun o => u8 (s.section secHeads) (o + 3)).getD 0,
    win := s.get (Reg.FMT_SYNC_CTRL_SYNC_WIN n), thr := s.get (Reg.FMT_SYNC_CTRL_SYNC_THRESH n),
    force := s.get (Reg.FMT_SYNC_CTRL_FORCE_BACKUP n) == 1 }

/-- The loops at a preamble (R224): gain, offset, asymmetry and weights of the zone entry, taps and noise-predictor taps of the preset, G = 1 and
b = 0; a reader that is not used has weight 0 (R216). -/
def State.loopStart (s : State) (n : Lane) (h track : Nat) : Loops :=
  let zones := s.section secZones
  let z := (zoneAt zones h track).getD 0
  let p := 0x10 + 144 * u16 zones (z + 0x10 + 2 * s.get (Reg.CHN_CTRL_PRESET_SEL n))
  let v := fun o => signed 16 (s.zoneField n z o 2)
  let w := 0x30 + 6 * s.get (Reg.CHN_CTRL_WSET n)
  let used := fun r => bit (s.readersOf h) r
  let late := s.readerDelays n h track
  { taken := 0, cell := 0, common := 1, bias := 0, phase := 0, freq := 0, limited := false,
    paths := List.replicate 4 (0, []), bits := [], y := [], primary := none,
    np := (List.range 8).map fun i => (q15 (u16 zones (p + 0x68 + 4 * i)), q15 (u16 zones (p + 0x6A + 4 * i))),
    readers := (List.range 3).map fun r =>
      { used := used r, delay := late.getD r 0, weight := if used r then (v (w + 2 * r) : Rat) / 32768 else 0,
        gain := v (0x18 + 2 * r), offset := v (0x1E + 2 * r), asym := (v (0x24 + 2 * r) : Rat) / 32768, clipped := 0,
        taps := (List.range 16).map fun i => q15 (u16 zones (p + 32 * r + 2 * i)), raw := [], fixed := [], corr := [], z := [] } }

/-- The sector settings latched at a preamble (R219, R222, R224, R228, R243, R247, R258). -/
def State.latchSector (s : State) (n : Lane) (index pba : Nat) : BankSector :=
  let zones := s.section secZones
  let rec_ := s.get (Reg.CHN_CTRL_RECOVERY n) == 1
  let z := zoneAt zones (pbaHead pba) (pbaTrack pba)
  let zf := fun o => (z.map fun e => u8 zones (e + o)).getD 0
  let seed := fun (o r : Nat) => match z with
    | some e => signed 16 (s.zoneField n e (o + 2 * r) 2)
    | none => 0
  { index := index, pba := pba, preset := s.get (Reg.CHN_CTRL_PRESET_SEL n), wset := s.get (Reg.CHN_CTRL_WSET n),
    recovery := rec_,
    localMax := if rec_ then s.get (Reg.CHN_ITER_LIMIT_REC_LOCAL n) else zf 0x4A,
    globalMax := if rec_ then s.get (Reg.CHN_ITER_LIMIT_REC_GLOBAL n) else zf 0x4B,
    perGlobal := zf 0x4C, delays := s.readerDelays n (pbaHead pba) (pbaTrack pba),
    seeds := (List.range 3).map fun r => ((seed 0x18 r).toNat, seed 0x1E r, seed 0x24 r),
    freeze := (s.reg (0x100014 + 0x40000 * n.val)).toNat, target := zf 0x42,
    margin := s.get (Reg.CHN_MARGIN_CTRL_RUN n) == 1,
    combine := if rec_ then (s.lane n).rcv.ladder.bind fun l => if s.sec8 secLadder (0x10 + 16 * l.step) = 5 then
        (l.sums.find? (·.1 == pba)).map (·.2) else none else none,
    framed := none, start := (192, 2272),
    setup := s.loopSetup n (pbaHead pba) (pbaTrack pba), loops := s.loopStart n (pbaHead pba) (pbaTrack pba) }

/-- Whether the sector is decoded from combined LLRs: from the second attempt of a SOFT_COMBINE step on (R314). -/
def BankSector.combined (b : BankSector) : Bool := (b.combine.map fun c => decide (0 < c.1)).getD false

/-- Detector passes allowed and local iterations per pass; a combined decode has one pass (R314). -/
def BankSector.shape (b : BankSector) : Nat × Nat := if b.combined then (1, b.localMax) else (b.globalMax, max 1 b.perGlobal)

/-- How a decode ends (R243, R246, R248): whether the parity checks hold, and the local iterations and detector passes used. `cut` marks a
decode that a full bank stops; one that has used more than a cap allows when the cap asserts stops too. Both end at the next layer boundary, in
the iteration after the last completed one; `next` tells whether that layer satisfies every check. -/
def BankSector.decode (b : BankSector) (capL capG : Nat) (r : DecodeResult) (next cut : Bool) : Bool × Nat × Nat :=
  let (g, p) := b.shape
  let most := min b.localMax (g * p)
  let limit := min (capped b.localMax capL) (capped g capG * p)
  let stopped : Bool := (cut || decide (limit ≤ r.ran)) && decide (r.ran < most)
  let ok : Bool := if stopped then next else decide (1 ≤ r.needs ∧ r.needs ≤ limit)
  let k := if ok then r.needs else if stopped then r.ran else limit
  (ok, k, if ok then ceilDiv k (max 1 p) else min (if stopped then g else capped g capG) (k / max 1 p + 1))

/-- The SNR of a delivered sector in 1/16 dB (R262): 160 log10(256 T² / MSE), rounded down, or up where `r.snr` is odd and it is no whole
number; where MSE is 0 the manual states no value, and it is `r.snr`. -/
def snrOf (target : Nat) (r : DecodeResult) : Nat :=
  if r.mse = 0 then r.snr % 2 ^ 16
  else
    let top := (256 * target * target) ^ 160
    let bot := r.mse ^ 160
    let k := ((List.range 1200).takeWhile fun i => decide (bot * 10 ^ (i + 1) ≤ top)).length
    if bot * 10 ^ k = top then k else k + r.snr % 2

/-- Sum of LLRs, bit by bit (R314). -/
def addLlrs (a b : List Int) : List Int := if a.isEmpty then b else (a.zip b).map fun x => x.1 + x.2

/-- The combined LLRs of `k` reads (R314): sum / k to the nearest integer, ties toward zero, saturated. -/
def combineLlrs (k : Nat) (sum : List Int) : List Int :=
  sum.map fun x => let m : Int := ((2 * x.natAbs + k - 1) / (2 * k) : Nat); clamp (-31) 31 (if x < 0 then -m else m)

/-- What a sector's samples come to (R238 to R243, R251, R262): the loops run over its remaining cells, the detector and the decoder over its
data parts; needs, raw errors, the mean of e[k]² against the decoded bits, and what the loops show, with the LLRs of the first pass. A combined
decode takes sum / N, rounded to the nearest with ties toward zero (R314). Without samples it is what `r` reports, and then `r.needs` tells too
whether the next layer converges. -/
def BankSector.measure (b : BankSector) (r : DecodeResult) : DecodeResult × Bool × List Int :=
  if r.cells.isEmpty then (r, decide (1 ≤ r.needs ∧ r.needs ≤ r.ran + 1), [])
  else
    let l := b.loops.feedAll b.setup r.cells
    let one := l.detect b.setup b.start []
    let detect := match b.combine with
      | some (k, sum) => if k = 0 then l.detect b.setup b.start else fun _ => combineLlrs (k + 1) (addLlrs sum one)
      | none => l.detect b.setup b.start
    let d := decodeSector detect b.localMax b.shape.1 b.shape.2
    let bytes := bitBytes 4108 d.bits
    let data := bytes.take 4096
    let tag := (bytes.drop 4096).take 8
    let errs := fun (mark start : Nat) (w : List Bool) =>
      let a := ((markBits mark).drop 30 ++ w).toArray
      (List.range w.length).map fun i =>
        let e := l.at (start + i) - b.setup.tgt (a.getD (i + 2) false) (a.getD (i + 1) false) (a.getD i false)
        e * e
    let sq := errs primaryMark b.start.1 (d.bits.take 2048) ++ errs backupMark b.start.2 (d.bits.drop 2048)
    ({ r with
        needs := if d.holds then ceilDiv d.layers blockRows else 0
        ran := r.layers / blockRows
        crcOk := leVal (bytes.drop 4104) == sectorCrc b.pba data tag
        data := data, tag := tag
        rawErrors := ((d.first.zip d.bits).filter fun x => x.1 != x.2).length
        mse := min 0xFFFF (roundOpen (256 * sq.foldl (· + ·) 0 / (codeBits : Nat))).toNat
        agc := l.readers.map fun (x : ReaderPath) => ((roundOpen x.gain).toNat, clamp (-2048) 2047 (roundOpen x.offset))
        asym := l.readers.map fun (x : ReaderPath) => (x.clipped, clamp (-32768) 32767 (roundOpen (x.asym * 32768)))
        phase := ((roundOpen (64 * (l.phase - l.phase.floor))) % 64).toNat
        freqPpm := roundOpen (l.freq * 1000000), freqLimit := l.limited },
      d.holds && decide (d.layers ≤ r.layers + 1), one)

/-- What CHN shows of a reader at the end of a sector (R258 to R260): a frozen loop keeps its seed. The gain lies within R218. -/
def BankSector.shown (b : BankSector) (r : DecodeResult) (i : Nat) : Nat × Int × Nat × Int :=
  let (g0, o0, a0) := b.seeds.getD i (0, 0, 0)
  let (g, o) := r.agc.getD i (0, 0)
  let (cl, a) := r.asym.getD i (0, 0)
  (if bit b.freeze 0 then g0 else min 2560 g, if bit b.freeze 1 then o0 else o, min 0xFFFF cl, if bit b.freeze 4 then a0 else a)

/-- Count in a channel counter; the first saturation after a read raises CHN_COUNTER_SAT with the counter's number
(R250, R253). -/
def State.chnCount (s : State) (n : Lane) (f : Fld) (ix : Nat) : State :=
  if s.get f + 1 = 0xFFFFFFFF then (s.bump f 1).raiseLane n 0x03 ix else s.bump f 1

/-- Show the bank's occupancy (R255). -/
def State.showBank (s : State) (n : Lane) : State :=
  let k := (s.lane n).chan.bank.length
  (s.put (Reg.CHN_STATUS_BANK_USED n) k).put (Reg.CHN_STATUS_BANK_FULL n) (flag (decide (12 ≤ k)))

/-- Whether a read step is active on a lane (R255): its operation in work is a read, a ladder runs, or sectors are in the bank. -/
def State.readActive (s : State) (n : Lane) : Bool :=
  !(s.lane n).chan.bank.isEmpty || (s.lane n).rcv.ladder.isSome || (((s.scheds[n]).head?.map fun (o : MediaOp) => !o.write).getD false)

/-! ## The active set (R216, R217, R229, R256, R280, R292) -/

/-- The synthesized bit rate in Hz: cells of the zone per wedge interval, whose period counts 2.5 ns. -/
def State.bitRate (s : State) (n : Lane) : Rat :=
  let period := s.get (Reg.FMT_MTS_STATUS_WEDGE_PERIOD n)
  let zones := s.section secZones
  match zoneEntry zones (s.get (Reg.CHN_ACTIVE_HEAD n)) (s.get (Reg.CHN_ACTIVE_ZONE n)) with
  | some z => if period = 0 then 0 else (u32 zones (z + 8) * 400000000 : Nat) / (period : Nat)
  | none => 0

/-- The front end takes over the cutoff and the boost of the active zone (R217); it does so in each servo field, from the synthesizer's
frequency, and keeps them where no clock runs. -/
def State.retune (s : State) (n : Lane) : State :=
  let zones := s.section secZones
  match zoneEntry zones (s.get (Reg.CHN_ACTIVE_HEAD n)) (s.get (Reg.CHN_ACTIVE_ZONE n)) with
  | some z =>
    if s.get (Reg.CHN_ACTIVE_VALID n) = 0 ∨ s.bitRate n = 0 then s
    else s.setChan n { (s.lane n).chan with
      cutoff := ((10 + u8 zones (z + 0x16) : Nat) : Rat) / 100 * s.bitRate n, boost := u8 zones (z + 0x17) }
  | none => s

/-- A preamp register write that FMT has to send, in place of one to the same register still to be sent; none where the preamp holds the value
(R292). `pspUnwritten` stands for a register not written since reset. -/
def pspUnwritten : Nat := 65536

/-- What the preamp holds in a register, as FMT has written it. -/
def Fmt.holds (f : Fmt) (addr : Nat) : Nat := Sparse.get (fun _ => pspUnwritten) f.preamp addr

/-- A register write becomes due (R281, R292). -/
def State.pspDue (s : State) (n : Lane) (addr data : Nat) : State :=
  let f := (s.lane n).fmt
  let rest := f.waiting.filter (·.1 != addr)
  s.setFmt n { f with waiting := if f.holds addr = data then rest else rest ++ [(addr, data)] }

/-- The preamp registers of a head and zone (R280, R290), in address order: HEAD with its readers, the write settings, the heaters, and the
biases of the readers in use. -/
def State.preampFor (s : State) (n : Lane) (h track : Nat) : List (Nat × Nat) :=
  let zones := s.section secZones
  let heads := s.section secHeads
  match zoneAt zones h track, headEntry heads h with
  | some z, some o =>
    [(1, headIndex (s.section secGeometry) h % 8 + flag (s.lane n).fmt.preheat * 8 + s.readersOf h % 8 * 16), (2, u16 zones (z + 0x50)),
      (3, u16 zones (z + 0x52)), (4, s.zoneField n z 0x56 2), (5, u16 zones (z + 0x54)), (6, u16 zones (z + 0x58))] ++
      ((List.range 3).filter fun r => bit (s.readersOf h) r).map fun r => (7 + r, u8 heads (o + 0x0A + r))
  | _, _ => []

/-- The entries that a step loads (R235): what KS has refined by now. -/
def State.loadEntries (s : State) (n : Lane) : State := s.setChan n { (s.lane n).chan with loaded := (s.lane n).chan.refined }

/-- The registers that FMT writes at the start of a read step (R254, R295): LSn's nominal settings; and the entries are loaded. -/
def State.readStep (s : State) (n : Lane) : State :=
  ((((s.loadEntries n).put (Reg.CHN_CTRL_RECOVERY n) 0).put (Reg.CHN_CTRL_WSET n) 0).put (Reg.CHN_CTRL_PRESET_SEL n) 0).put
    (Reg.FMT_SYNC_CTRL_FORCE_BACKUP n) 0

/-- The active set follows a head or zone change during the seek: entries, front ends, filter and preamp registers (R216, R217, R256,
R292). -/
def State.loadNow (s : State) (n : Lane) (ix target : Nat) : State :=
  match globalHead (s.section secGeometry) n.val ix with
  | none => s
  | some h =>
    let zones := s.section secZones
    let heads := s.section secHeads
    let z := ((zoneAt zones h target).map fun e => u8 zones (e + 1)).getD 0
    let ref := ((headEntry heads h).map fun o => u8 heads (o + 3)).getD 0
    let s1 := ((((s.put (Reg.CHN_ACTIVE_VALID n) 1).put (Reg.CHN_ACTIVE_HEAD n) h).put (Reg.CHN_ACTIVE_ZONE n) z).put
      (Reg.CHN_ACTIVE_REF_READER n) ref).put (Reg.CHN_ACTIVE_READERS n) (s.readersOf h)
    let s2 := s1.setChan n { (s1.lane n).chan with activeDue := none, frontEnd := s.readersOf h }
    let s3 := (s2.loadEntries n).retune n
    (s3.preampFor n h target).foldl (fun s (a, d) => s.pspDue n a d) s3

/-- Whether a read or write step runs, through which the active entry stays (R229). -/
def State.stepRuns (s : State) (n : Lane) : Bool := !(s.lane n).chan.bank.isEmpty || (s.lane n).fmt.wgate

/-- A head or zone change (R229): the active set changes now, or when the step that runs has ended. -/
def State.loadActive (s : State) (n : Lane) (ix target : Nat) : State :=
  if s.stepRuns n then s.setChan n { (s.lane n).chan with activeDue := some (ix, target) } else s.loadNow n ix target

/-- A step may have ended: an active set that waited for it is loaded. -/
def State.stepEnded (s : State) (n : Lane) : State :=
  match (s.lane n).chan.activeDue with
  | some (ix, t) => if s.stepRuns n then s else s.loadNow n ix t
  | none => s

/-- A measured sector of a margin measurement (R251, R265), with what its decode reports where it was delivered; the set number ends
the measurement with CHN_MARGIN_DONE. -/
def State.marginSector (s : State) (n : Lane) (delivered : Option DecodeResult) : State :=
  if s.get (Reg.CHN_MARGIN_CTRL_RUN n) = 0 then s
  else
    let c := (s.lane n).chan
    let s1 :=
      match delivered with
      | some r =>
        let k := s.get (Reg.CHN_MARGIN_SECT_DELIVERED n) + 1
        let b := s.get (Reg.CHN_MARGIN_BITS_LO_BITS n) + s.get (Reg.CHN_MARGIN_BITS_HI_BITS n) * 2 ^ 32 + r.rawErrors
        let c1 := { c with marginMse := c.marginMse + r.mse, marginSnr := c.marginSnr + r.snr }
        ((((((s.setChan n c1).put (Reg.CHN_MARGIN_SECT_DELIVERED n) k).put (Reg.CHN_MARGIN_BITS_LO_BITS n) b).put
          (Reg.CHN_MARGIN_BITS_HI_BITS n) (b / 2 ^ 32)).put (Reg.CHN_MARGIN_MSE_MSE n) (c1.marginMse / k))).put
          (Reg.CHN_MARGIN_MSE_SNR n) (c1.marginSnr / k)
      | none => s.bump (Reg.CHN_MARGIN_SECT_FAILED n) 1
    let d := s1.get (Reg.CHN_MARGIN_SECT_DELIVERED n)
    let f := s1.get (Reg.CHN_MARGIN_SECT_FAILED n)
    if s1.get (Reg.CHN_MARGIN_CTRL_SECTORS n) ≤ d + f then
      (s1.put (Reg.CHN_MARGIN_CTRL_RUN n) 0).raiseLane n 0x02 (d + f * 2 ^ 16)
    else s1

/-- The cells of a sector as on media: DATA under its key, where it has one (R581). -/
def MediaSector.cells (m : MediaSector) : List Byte :=
  match m.key with
  | none => m.data
  | some (gen, lba) => Config.xts gen lba m.data

/-- Bytes of a 32-bit pattern over a block. -/
def patternBlock (p : Nat) : List Byte := (List.replicate 1024 (leBytes 4 p)).flatten

/-- Whether the stretch from `lo` to `hi` of a lane's data sectors takes in a PBA: a data sector of it, or a parity sector whose group lies
wholly in it, which is written inline (R284). -/
def inStretch (zs : List Zone) (lo hi pba : Nat) : Bool :=
  match rawIndex zs pba, rawGroup zs pba with
  | some i, _ => decide (lo ≤ i) && decide (i < hi)
  | none, some (a, b) => decide (lo ≤ a) && decide (b ≤ hi)
  | none, none => false

/-- What a stretch written by Format or Sanitize holds at a PBA of lane `n` (R583, R585): the pattern, in a parity sector too, since Format
writes zeros, whose parity is zero, and Sanitize writes the pattern into the parity slots. -/
def State.fillAt (s : State) (pba : Nat) : Option MediaSector :=
  if s.fills.isEmpty then none
  else
    let n := headLane (s.section secGeometry) (pbaHead pba)
    let zs := s.laneZones n
    match s.fills.find? fun f => f.lane == n && (f.whole || inStretch zs f.lo f.hi pba) with
    | some f => f.pattern.map fun p =>
        let d := patternBlock p
        ⟨d, zeros 8, sectorCrc pba d (zeros 8), none, true⟩
    | none => none

/-- What lies at a PBA: the sector written there last, or the stretch that covers it; none where the model knows
nothing of it. -/
def State.mediaAt (s : State) (pba : Nat) : Option MediaSector :=
  match s.media.find? (·.1 == pba) with
  | some (_, m) => some m
  | none => s.fillAt pba

/-- Whether what lies at a PBA passes the sector CRC (R244, R269): it was wholly written, at this PBA. -/
def State.mediaPasses (s : State) (pba : Nat) : Bool :=
  match s.mediaAt pba with
  | none => true
  | some m => m.whole && m.crc == sectorCrc pba m.cells m.tag

/-- Put a sector on media (R277): FMT computes its CRC. -/
def State.writeMedia (s : State) (pba : Nat) (data tag : List Byte) (key : Option (Nat × Nat)) (whole : Bool) : State :=
  let m : MediaSector := ⟨data, tag, 0, key, whole⟩
  let m1 := { m with crc := sectorCrc pba m.cells tag }
  { s with media := (s.media.filter fun e => e.1 < pba) ++ (pba, m1) :: s.media.filter fun e => pba < e.1 }

/-- The commands whose part on the lane is in work (R311); a read of the device itself counts as one of its own, by its operation. -/
def State.partsOn (s : State) (n : Lane) : List Nat :=
  match (s.scheds[n]).head? with
  | some (o : MediaOp) => if o.owners.isEmpty then [2 ^ 48 + o.id] else o.owners
  | none => [2 ^ 48]

/-- Sectors of the lane's step fail: the budget of each part that has had no failure starts (R311). -/
def State.addFailed (s : State) (n : Lane) (l : List (Nat × Nat)) : State :=
  let r := (s.lane n).rcv
  let fresh := (s.partsOn n).filter fun q => !r.parts.any (·.1 == q)
  (s.setRcv n { r with parts := r.parts ++ fresh.map fun q => (q, s.crn.elapsed, 0) }).setChan n
    { (s.lane n).chan with failed := (s.lane n).chan.failed ++ l }

/-- A sector of a lane failed with a cause (R249): it waits for the ladder (R300), or, in recovery decoding, stays an
outstanding target (R302). -/
def State.failSector (s : State) (n : Lane) (b : BankSector) (cause : Nat) : State :=
  if b.recovery then s else s.addFailed n [(b.pba, cause)]

/-- A read of a SOFT_COMBINE attempt adds its first-pass LLRs to the target's sum (R314). -/
def State.addSum (s : State) (n : Lane) (b : BankSector) (llr : List Int) : State :=
  let r := (s.lane n).rcv
  match b.combine, r.ladder with
  | some (k, sum), some l => s.setRcv n { r with ladder := some { l with
      sums := l.sums.map fun x => if x.1 = b.pba then (b.pba, k + 1, addLlrs sum llr) else x } }
  | _, _ => s

/-- Whether decoded bytes agree with what the model knows to lie at a PBA; samples that spell another sector do not pass (log entry 178). -/
def State.agrees (s : State) (pba : Nat) (r : DecodeResult) : Bool :=
  match s.mediaAt pba with
  | some m => r.cells.isEmpty || (m.cells == r.data && m.tag == r.tag)
  | none => true

/-- The end of a decode (R243, R244, R246, R249 to R251): `cut` marks a decode stopped by a full bank. -/
def State.endDecode (s : State) (n : Lane) (b : BankSector) (given : DecodeResult) (cut : Bool) : State :=
  let cap := s.get (Reg.CHN_STATUS_CAP n)
  let (r, next, llr) := b.measure given
  let (parity, locals, passes) := b.decode cap (if cap = 0 then 0 else s.sec8 secThermal 3) r next cut
  let ok := parity && r.crcOk && s.mediaPasses b.pba && s.agrees b.pba r
  let cause := if ok then 0 else if parity then 2 else if cut then 3 else 1
  let freq := clamp (-5000) 5000 r.freqPpm
  let s1 := ((((s.put (Reg.CHN_STATUS_LAST_LOCAL n) locals).put (Reg.CHN_STATUS_LAST_PASSES n) passes).put
    (Reg.CHN_STATUS_LAST_CAUSE n) cause).put (Reg.CHN_STATUS_FREQ_LIMIT n) (flag (r.freqLimit || decide (freq.natAbs = 5000))))
  let s2 := (List.range 3).foldl (fun s i =>
    let (g, o, cl, a) := b.shown r i
    if bit (s.readersOf (pbaHead b.pba)) i then
      (((s.put (Reg.CHN_AGC_GAIN n i) g).put (Reg.CHN_AGC_OFFSET n i) (twos 12 o)).put
        (Reg.CHN_ASYM_CLIPPED n i) cl).put (Reg.CHN_ASYM_ASYM n i) (twos 16 a)
    else s) s1
  let s3 := (s2.put (Reg.CHN_TIMING_FREQ n) (twos 16 freq)).put (Reg.CHN_TIMING_PHASE n) r.phase
  let s4 := s3.chnCount n (Reg.CHN_CNT_READ_COUNT n) 0
  let s5 :=
    if ok then
      let t := (s4.put (Reg.CHN_EQ_MSE_MSE n) r.mse).put (Reg.CHN_EQ_MSE_SNR n) (snrOf b.target r)
      let c := (t.lane n).chan
      let t1 := t.setChan n { c with delivered := c.delivered ++ [b.pba], targets := c.targets.erase b.pba }
      let t2 := if (t1.mediaAt b.pba).isSome then t1 else t1.writeMedia b.pba r.data r.tag none true
      if b.recovery then t2
      else (t2.chnCount n (Reg.CHN_CNT_FIRST_PASS_COUNT n) 1).chnCount n
        (Reg.CHN_ITER_HIST_COUNT n (min 15 ((locals - 1) / 2))) (8 + min 15 ((locals - 1) / 2))
    else
      let f := if cause = 1 then Reg.CHN_CNT_FAIL_COUNT n else if cause = 2 then Reg.CHN_CNT_CRC_COUNT n
        else Reg.CHN_CNT_BANK_CUT_COUNT n
      ((s4.chnCount n f (cause + 1)).failSector n b cause).raiseLane n 0x00
        (b.index % 2 ^ 16 + cause * 2 ^ 16 + locals % 128 * 2 ^ 20 + passes % 32 * 2 ^ 27)
  let s6 := if b.recovery then s5.addSum n b llr else s5
  if b.margin then s6.marginSector n (if ok then some { r with snr := snrOf b.target r } else none) else s6

/-- Take the decoding sector, the head of the bank, out of it. -/
def State.popBank (s : State) (n : Lane) : State :=
  ((s.setChan n { (s.lane n).chan with bank := (s.lane n).chan.bank.tail }).showBank n).stepEnded n

/-- Start of a measurement (R251, R252): the results are cleared, and sectors whose preamble has begun take no part. RUN while it is 1 has no effect. -/
def State.marginStart (s : State) (n : Lane) : State :=
  if s.get (Reg.CHN_MARGIN_CTRL_RUN n) = 1 then s
  else
    (((((s.setChan n { (s.lane n).chan with
      marginMse := 0, marginSnr := 0, bank := (s.lane n).chan.bank.map fun (b : BankSector) => { b with margin := false } }).put (Reg.CHN_MARGIN_SECT n) 0).put
      (Reg.CHN_MARGIN_BITS_LO n) 0).put (Reg.CHN_MARGIN_BITS_HI n) 0).put (Reg.CHN_MARGIN_MSE n) 0).put
      (Reg.CHN_MARGIN_CTRL_RUN n) 1

/-- READ_FIFO_OVERFLOW (R124): the sector being read fails with CHANNEL_OVERRUN, and PWR raises its request one step. -/
def execReadFifoOverflow (n : Lane) (index floor : Nat) (s : State) : Host.Outcome State Fault Refusal :=
  .next <|
    match (s.lane n).chan.bank.find? (·.index == index) with
    | none => s
    | some b =>
      let c := (s.lane n).chan
      let s1 := (((s.setChan n { c with bank := c.bank.filter (·.index != index) }).showBank n).failSector n b 4).stepEnded n
      let s2 := ((((s1.put (Reg.CHN_STATUS_LAST_CAUSE n) 4).put (Reg.CHN_STATUS_LAST_LOCAL n) 0).put (Reg.CHN_STATUS_LAST_PASSES n) 0).put
        (Reg.CHN_STATUS_FREQ_LIMIT n) (flag b.loops.limited)).chnCount n (Reg.CHN_CNT_OVERRUN_COUNT n) 5
      let s3 := (s2.raiseLane n 0x01 (index % 2 ^ 16)).raiseLane n 0x00 (index % 2 ^ 16 + 4 * 2 ^ 16)
      (if b.margin then s3.marginSector n none else s3).avsUp floor

end Sys2Proof.Machine
end

