-- ==== Sys2Proof/Machine/WritePath.lean ====
section
/-! DEFINITION. Framing, the write path, track parity and the preamp serial port (chapter 8). -/

namespace Sys2Proof.Machine

/-! ## Framing (R273 to R276) -/

/-- A framing decision: its outcome code and the OFFSET it shows. -/
structure Framing where
  outcome : Nat
  offset : Int
  deriving DecidableEq, Repr

/-- The earliest start position within a window whose distance is accepted; marks are (position, distance). -/
def earliestMark (marks : List (Nat × Nat)) (lo hi thr : Nat) : Option Nat :=
  (marks.filter fun m => lo ≤ m.1 && m.1 ≤ hi && m.2 ≤ thr).foldl
    (fun b m => match b with
      | none => some m.1
      | some k => some (min k m.1)) none

/-- The position of least distance within a window, the earliest on a tie. -/
def bestMark (marks : List (Nat × Nat)) (lo hi thr : Nat) : Option Nat :=
  ((marks.filter fun m => lo ≤ m.1 && m.1 ≤ hi && m.2 ≤ thr).foldl
    (fun (b : Option (Nat × Nat)) m => match b with
      | none => some m
      | some (k, d) => if m.2 < d ∨ (m.2 = d ∧ m.1 < k) then some m else some (k, d)) none).map (·.1)

/-- The decision of R274 from the marks' distances. -/
def framing (win thr : Nat) (force : Bool) (primary backup : List (Nat × Nat)) : Framing :=
  let p := if force then none else earliestMark primary (160 - win) (160 + win) thr
  let w := if force then 2 * win else win
  match p with
  | some k =>
    if (earliestMark backup (k + 2079) (k + 2081) thr).isSome then ⟨0x0, (k : Int) - 160⟩
    else
      match bestMark backup (2240 - w) (2240 + w) thr with
      | some b => ⟨0x1, (b : Int) - 2240⟩
      | none => ⟨0x3, (k : Int) - 160⟩
  | none =>
    match bestMark backup (2240 - w) (2240 + w) thr with
    | some b => ⟨if force then 0x4 else 0x2, (b : Int) - 2240⟩
    | none => ⟨0x8, 0⟩

/-- The distances that the framer has of a sector (R273): computed from its samples up to the close of the backup window where they are
given, else as reported. -/
def BankSector.marksOf (b : BankSector) (primary backup : List (Nat × Nat)) (cells : List Cell) : List (Nat × Nat) × List (Nat × Nat) :=
  if cells.isEmpty then (primary, backup) else (b.loops.feedAll b.setup cells).framerMarks b.setup

/-- FRAMING_DECISION (R273 to R276, R295, R296): the framer decides for a sector; every outcome but NO_SYNC goes on to
detection. -/
def execFramingDecision (n : Lane) (index : Nat) (primary : List (Nat × Nat)) (backup : BackupView) (s : State) :
    Host.Outcome State Fault Refusal :=
  .next <|
    match (s.lane n).chan.bank.find? (·.index == index) with
    | none => s
    | some b =>
      if b.framed.isSome then s
      else
        let marks := b.marksOf primary backup.backup backup.cells
        let f := framing b.setup.win b.setup.thr b.setup.force marks.1 marks.2
        let s1 := ((((s.wake (.fmt n)).put (Reg.FMT_FRAME_STATUS_VALID n) 1).put (Reg.FMT_FRAME_STATUS_OUTCOME n)
          f.outcome).put (Reg.FMT_FRAME_STATUS_OFFSET n) (twos 8 f.offset)).put (Reg.FMT_FRAME_STATUS_SECTOR n) index
        let s2 :=
          if f.outcome = 1 then s1.bump (Reg.FMT_CNT_REFRAME_COUNT n) 1
          else if f.outcome = 2 then s1.bump (Reg.FMT_CNT_BACKUP_ONLY_COUNT n) 1
          else if f.outcome = 3 then s1.bump (Reg.FMT_CNT_BACKUP_MISSED_COUNT n) 1
          else if f.outcome = 8 then s1.bump (Reg.FMT_CNT_NO_SYNC_COUNT n) 1 else s1
        let c := (s2.lane n).chan
        if f.outcome = 8 then
          let s3 := ((((s2.setChan n { c with bank := c.bank.filter (·.index != index) }).showBank n).failSector n b
            8).raiseLane n 0x20 (index % 2 ^ 16)).stepEnded n
          if b.margin then s3.marginSector n none else s3
        else
          let s4 := s2.setChan n { c with bank := c.bank.map (fun x =>
            if x.index = index then { x with framed := some f.outcome, start := dataStart f.outcome f.offset,
                                             loops := b.loops.feedAll b.setup backup.cells } else x) }
          if f.outcome = 1 then
            let p := (earliestMark marks.1 (160 - b.setup.win) (160 + b.setup.win) b.setup.thr).getD 160
            s4.raiseLane n 0x21 (index % 2 ^ 16 + 1 * 2 ^ 16 + twos 8 ((p : Int) - 160) * 2 ^ 24)
          else s4

/-! ## Track parity (R282 to R288) -/

/-- Product by α in GF(2^16) with x^16 + x^12 + x^3 + x + 1 (R283). -/
def gfAlpha (a : Nat) : Nat := if a * 2 < 2 ^ 16 then a * 2 else (a * 2 % 2 ^ 16).xor 0x100B

/-- The 16-bit symbols of DATA and TAG bytes (R283). -/
def symbols : List Byte → List Nat
  | a :: b :: t => (a.toNat + 256 * b.toNat) :: symbols t
  | _ => []

/-- Sum of two symbol lists. -/
def gfAdd (a b : List Nat) : List Nat :=
  (List.range (max a.length b.length)).map fun i => (a.getD i 0).xor (b.getD i 0)

/-- Q0: the sum of the data sectors' symbols. -/
def parityQ0 (sectors : List (List Nat)) : List Nat := sectors.foldl gfAdd []

/-- Q1: the sum of α^i times the i-th data sector, by Horner's rule from the last. -/
def parityQ1 (sectors : List (List Nat)) : List Nat :=
  sectors.reverse.foldl (fun acc d => gfAdd (acc.map gfAlpha) d) []

/-- The bytes of symbols. -/
def symbolBytes (l : List Nat) : List Byte := l.flatMap (leBytes 2)

/-- Track parity of the zone of a PBA: group size G and parity sectors P, where enabled (R232, R272). -/
def State.tpOf (s : State) (h track : Nat) : Option (Nat × Nat) :=
  let zones := s.section secZones
  match zoneAt zones h track with
  | some z => if bit (u8 zones (z + 2)) 0 ∧ !s.boot.compat ∧ bit s.cap0 8 then some (u8 zones (z + 0x0E), u8 zones (z + 3))
      else none
  | none => none

/-- The group of a PBA, where its zone has track parity (R282). -/
def State.groupOf (s : State) (pba : Nat) : Option GroupId :=
  (s.tpOf (pbaHead pba) (pbaTrack pba)).map fun (g, p) => (pbaHead pba, pbaTrack pba, pbaSlot pba / (g + p))

/-- The data PBAs of a group, in slot order. -/
def State.groupData (s : State) (gid : GroupId) : List Nat :=
  match s.tpOf gid.1 gid.2.1 with
  | some (g, p) => (List.range g).map fun i => pbaOf gid.1 gid.2.1 (gid.2.2 * (g + p) + i)
  | none => []

/-- The parity PBAs of a group. -/
def State.groupParity (s : State) (gid : GroupId) : List Nat :=
  match s.tpOf gid.1 gid.2.1 with
  | some (g, p) => (List.range p).map fun i => pbaOf gid.1 gid.2.1 (gid.2.2 * (g + p) + g + i)
  | none => []

/-- Symbols of what lies at a PBA (R283: DATA as on media, and TAG). -/
def State.mediaSymbols (s : State) (pba : Nat) : List Nat :=
  match s.mediaAt pba with
  | some m => symbols (m.cells ++ m.tag)
  | none => []

/-- A sector goes to media (R277): FMT computes its CRC, encodes its codeword and emits its cells on Ln_WD. -/
def State.laySector (s : State) (pba : Nat) (data tag : List Byte) (key : Option (Nat × Nat)) : State :=
  let s1 := (if key.isSome then s.wake .xts else s).writeMedia pba data tag key true
  match s1.mediaAt pba with
  | some m => s1.emit (.mediaCells pba (sectorCells m.cells m.tag m.crc))
  | none => s1

/-- Q0 from the symbols of all the data sectors but one set of erased ones, as a sum that an erased sector closes; an inverse of α^k is a
power of α, since α generates the field (R283). -/
def gfMul (a b : Nat) : Nat :=
  ((List.range 16).foldl (fun (r : Nat × Nat) i => (if bit b i then r.1.xor r.2 else r.1, gfAlpha r.2)) (0, a)).1

/-- `a` to the power `2^16 - 2`: the inverse in GF(2^16). -/
def gfInv (a : Nat) : Nat :=
  ((List.range 15).foldl (fun (r : Nat × Nat) _ => let q := gfMul r.2 r.2; (gfMul r.1 q, q)) (1, a)).1

/-- α^k. -/
def gfPow (k : Nat) : Nat := k.repeat gfAlpha 1

/-- The symbols of the data sectors of a group with its erasures solved (R283, R316): `d` and `q` are those read, none where erased; none
where the equations left do not solve them. -/
def solveGroup (d : List (Option (List Nat))) (q0 q1 : Option (List Nat)) : Option (List (List Nat)) :=
  let known := d.map fun x => x.getD []
  let gone := (d.zipIdx.filter fun x => x.1.isNone).map (·.2)
  let put := fun (l : List (Nat × List Nat)) => some (known.zipIdx.map fun (x, i) => ((l.find? (·.1 == i)).map (·.2)).getD x)
  let scale := fun (k : Nat) (l : List Nat) => l.map (gfMul k)
  match gone, q0, q1 with
  | [], _, _ => some known
  | [i], some p, _ => put [(i, gfAdd p (parityQ0 known))]
  | [i], none, some p => put [(i, scale (gfInv (gfPow i)) (gfAdd p (parityQ1 known)))]
  | [i, j], some p, some r =>
    let s0 := gfAdd p (parityQ0 known)
    let s1 := gfAdd r (parityQ1 known)
    let b := scale (gfInv ((gfPow i).xor (gfPow j))) (gfAdd s1 (scale (gfPow i) s0))
    put [(i, gfAdd s0 b), (j, b)]
  | _, _, _ => none

/-- The track-parity reconstruction of a sector of a group, `gone` being the slots that could not be read (R287, R316): what the symbols of the
others give must carry the CRC that was written. Where the model knows nothing of some sector of the group, it is what was written there
(log entry 7). -/
def State.reconstructs (s : State) (gid : GroupId) (gone : List Nat) (pba : Nat) : Bool :=
  let data := s.groupData gid
  let par := s.groupParity gid
  let sym := fun (p : Nat) => if gone.contains p then none else some (s.mediaSymbols p)
  if (data ++ par).any fun p => (s.mediaAt p).isNone then s.mediaPasses pba
  else
    match solveGroup (data.map sym) ((par[0]?).bind sym) ((par[1]?).bind sym), s.mediaAt pba with
    | some l, some m =>
      let bytes := symbolBytes (l.getD (data.idxOf pba) [])
      m.crc == sectorCrc pba (bytes.take 4096) (bytes.drop 4096)
    | _, _ => false

/-- Write the parity sectors of a group from its data sectors' symbols (R283, R286): of the contents `held` in the cache where there are, else
of what lies on media; where the model knows nothing of a data sector, the symbols are free values (log entry 1). -/
def State.writeParity (s : State) (gid : GroupId) (held : List (Nat × List Nat)) : State :=
  let cached := fun (p : Nat) => (held.find? (·.1 == p)).map (·.2)
  let d := (s.groupData gid).map fun p => (cached p).getD (s.mediaSymbols p)
  let known := (s.groupData gid).all fun p => (cached p).isSome || (s.mediaAt p).isSome
  let free := fun (i : Nat) => (List.range 513).flatMap fun k => leBytes 8 (Config.freeValue (s.free + 513 * i + k)).toNat
  let qs := if known then [symbolBytes (parityQ0 d), symbolBytes (parityQ1 d)] else [free 0, free 1]
  let t := ((s.groupParity gid).zip qs).foldl (init := s.wake .tpar) (fun s (pba, q) => s.laySector pba (q.take 4096) (q.drop 4096) none)
  if known then t else { t with free := t.free + 1026 }

/-- BS marks a group stale (R284); a rebuild that is under way sees the later write (R286). -/
def State.markStale (s : State) (gid : GroupId) : State :=
  { s with stale := s.stale.insert gid, rebuilds := s.rebuilds.map fun r => if r.1 = gid then (gid, true) else r }

/-- A write into the sector at a PBA other than as part of its whole group (R284). -/
def State.touchGroup (s : State) (pba : Nat) : State :=
  match s.groupOf pba with
  | some g => s.markStale g
  | none => s

/-- The groups a write step touches, each with whether the step writes it wholly (R284). -/
def State.stepGroups (s : State) (pbas : List Nat) : List (GroupId × Bool) :=
  ((pbas.filterMap s.groupOf).eraseDups).map fun g => (g, (s.groupData g).all pbas.contains)

/-- Whether the device and the lane may write at all: a used lane, no hold state (R104), the write window open (R635, R639), and no
Lookout condition on the lane or device (R51, R650). -/
def State.writesOpen (s : State) (n : Lane) : Bool :=
  s.used n && s.powered && !s.held && bits (s.get Reg.LKO_STATUS_LANE_OUT) n n == 0 && s.get Reg.LKO_STATUS_DEV_STATE == 0 &&
    s.get Reg.KLN_STATUS_WRITE_OPEN == 1 && s.get Reg.KLN_STATUS_SHUT_STATE == 0

/-- STALE_BITMAP_SAVE (R288, R320, R563): the changed pages of the stale bitmap, the pending lists and the uncorrectable list
go to the system areas. -/
def State.saveStale (s : State) : State :=
  let c := s.cache
  { s with cache := { c with saved := { c.saved with wunc := c.wunc } } } |> fun (s : State) => (List.finRange 4).foldl (fun s n =>
    if s.used n.val then
      let l := s.lane n
      s.setLane n { l with sys := { l.sys with
        stale := s.stale.filter (fun g => headLane (s.section secGeometry) g.1 == n.val), pending := l.rcv.pending } }
    else s) s

/-- STALE_BITMAP_SAVE. -/
def execStaleBitmapSave (s : State) : Host.Outcome State Fault Refusal := .next s.saveStale

/-! ## Preamp serial port (R289 to R293) -/

/-- The address byte of a frame: RW, then ADDR (R289). -/
def pspHeader (read : Bool) (addr : Nat) : List Byte := [BitVec.ofNat 8 (flag read * 128 + addr % 128)]

/-- The CRC-8 of a frame: over the 24 bits before it in a write, over the address byte and the data in a read (R289). -/
def pspCrc (read : Bool) (addr data : Nat) : Nat := crc8 (pspHeader read addr ++ beBytes 2 data)

/-- The bits that the PX84 drives in a frame, in order (R289): all 32 of a write, the first eight of a read. -/
def pspBits (read : Bool) (addr data : Nat) : List Bool :=
  msbBits (pspHeader read addr ++ if read then [] else beBytes 2 data ++ beBytes 1 (pspCrc read addr data))

/-- What a read frame of a register yields: one whose CRC fails is repeated once (R289, R291). -/
def pspValue (addr : Nat) (a : PspAnswer) : Option Nat :=
  if a.crc = pspCrc true addr a.data then some a.data
  else if a.crc2 = pspCrc true addr a.data2 then some a.data2 else none

/-- What FMT writes a register with next: what waits to be sent, else what the preamp holds. -/
def Fmt.next (f : Fmt) (addr : Nat) : Nat := ((f.waiting.find? (·.1 == addr)).map (·.2)).getD (f.holds addr % 65536)

/-- PREAMP HEAD.PREHEAT is to be set or cleared (R281). -/
def State.setPreheat (s : State) (n : Lane) (on : Bool) : State :=
  s.pspDue n 1 (setBits ((s.lane n).fmt.next 1) 3 3 (flag on))

/-- A write step ends, however it does: PREHEAT is cleared (R281), and an active set that waited is loaded (R229). -/
def State.endStep (s : State) (n : Lane) : State :=
  let f := (s.lane n).fmt
  let s1 := if f.write.isSome then s.setPreheat n false else s
  (s1.setFmt n { (s1.lane n).fmt with write := none, wgate := false }).stepEnded n

/-- R291: FMT_PSP_ERROR; the write step that waits for the register fails, which a step whose gate is high and a diagnostic access do
not, and the write gate is refused until a write of HEAD has been verified. What the preamp holds there is not known any more. -/
def State.pspError (s : State) (n : Lane) (addr : Nat) (mismatch step : Bool) : State :=
  let f := (s.lane n).fmt
  let s1 := s.setFmt n { f with
    refused := true, preamp := Sparse.set (fun _ => pspUnwritten) f.preamp addr pspUnwritten,
    waiting := f.waiting.filter (·.1 != addr) }
  (if step && !f.wgate then s1.endStep n else s1).raiseLane n 0x23 (addr % 128 + flag mismatch * 2 ^ 8)

/-- A read frame, repeated once where its CRC fails (R291). -/
def State.pspReadFrames (s : State) (n : Lane) (addr : Nat) (a : PspAnswer) : State :=
  let s1 := s.emit (.pspFrame n (pspBits true addr 0))
  if a.crc = pspCrc true addr a.data then s1 else s1.emit (.pspFrame n (pspBits true addr 0))

/-- A write frame and its read-back (R291). -/
def State.pspWriteFrames (s : State) (n : Lane) (addr data : Nat) (a : PspAnswer) : State :=
  (s.emit (.pspFrame n (pspBits false addr data))).pspReadFrames n addr a

/-- Registers that no frame changes while the write gate is high (R292). -/
def pspHeld (addr : Nat) : Bool := [1, 2, 3, 5, 6].contains addr

/-- A preamp register after a verified write (R291): a write of HEAD ends the refusal, and its bit 3 is PREHEAT. -/
def Fmt.verified (f : Fmt) (addr data : Nat) : Fmt :=
  { f with
    preamp := Sparse.set (fun _ => pspUnwritten) f.preamp addr data
    waiting := f.waiting.filter fun w => w != (addr, data)
    refused := f.refused && addr != 1, preheat := if addr = 1 then bit data 3 else f.preheat }

/-- A verified write (R291): the frame, its read-back, one repetition; answers whether it was verified. `step` tells whether a step
needs the register. -/
def State.pspWrite (s : State) (n : Lane) (addr data : Nat) (a retry : PspAnswer) (step : Bool) : State × Bool :=
  let s0 := s.wake (.fmt n)
  let s1 := s0.pspWriteFrames n addr data a
  if pspValue addr a = some data then (s1.setFmt n ((s1.lane n).fmt.verified addr data), true)
  else
    let s2 := s1.pspWriteFrames n addr data retry
    if pspValue addr retry = some data then (s2.setFmt n ((s2.lane n).fmt.verified addr data), true)
    else (s2.pspError n addr (pspValue addr retry).isSome step, false)

/-- Whether FMT itself writes a register (R280, R281, R290): the profile's HEAD to BIAS_C. -/
def pspOwn (addr : Nat) : Bool := decide (1 ≤ addr) && decide (addr ≤ 9)

/-- PSP_WRITE_FRAME (R280, R281, R290 to R292): FMT writes a register of the profile, or holds the frame while the gate is high. It sends
no frame to another address. -/
def execPspWriteFrame (n : Lane) (addr data : Nat) (a retry : PspAnswer) (s : State) :
    Host.Outcome State Fault Refusal :=
  .next <|
    if !s.used n ∨ !pspOwn addr then s
    else
      let f := (s.lane n).fmt
      let preheatOnly := addr = 1 ∧ (f.holds 1 % 65536).xor data = 8
      if f.wgate ∧ pspHeld addr ∧ ¬ preheatOnly then s.setFmt n { f with waiting := f.waiting.filter (·.1 != addr) ++ [(addr, data)] }
      else (s.pspWrite n addr data a retry true).1

/-- FMT.PSP_ACCESS written with GO (R299): one frame for diagnostics; a write to 0x01 to 0x0A is refused with ERR. A
write while GO is 1 is ignored, and so is one on an unused lane, whose pins stay in their reset state (R44, R66). -/
def State.pspAccess (s : State) (n : Lane) (v : Nat) (a retry : PspAnswer) : State :=
  if s.get (Reg.FMT_PSP_ACCESS_GO n) = 1 ∨ !s.used n.val then s
  else
    let s1 := ((s.put (Reg.FMT_PSP_ACCESS_READ n) (bits v 30 30)).put (Reg.FMT_PSP_ACCESS_ADDR n) (bits v 22 16)).put
      (Reg.FMT_PSP_ACCESS_DATA n) (bits v 15 0)
    if ¬ bit v 31 then s1
    else
      let addr := bits v 22 16
      if bit v 30 then
        let s2 := s1.pspReadFrames n addr a
        match pspValue addr a with
        | some d =>
          let s3 := if addr = 0x0A then s2.setFmt n { (s2.lane n).fmt with pfaultN := true } else s2
          (s3.put (Reg.FMT_PSP_ACCESS_DATA n) d).put (Reg.FMT_PSP_ACCESS_ERR n) 0
        | none => (s2.pspError n addr false false).put (Reg.FMT_PSP_ACCESS_ERR n) 1
      else if 1 ≤ addr ∧ addr ≤ 0x0A then s1.put (Reg.FMT_PSP_ACCESS_ERR n) 1
      else
        let (s2, ok) := s1.pspWrite n addr (bits v 15 0) a retry false
        s2.put (Reg.FMT_PSP_ACCESS_ERR n) (flag !ok)

/-! ## The write gate (R277 to R281, R385) -/

/-- Commit sectors of a write step to media (R277). -/
def State.commitSectors (s : State) (l : List WriteSector) : State :=
  l.foldl (fun s w => s.laySector w.pba w.data w.tag w.key) s

/-- Runs of consecutive slots in rising order, each as its first and last. -/
def slotRuns : List Nat → List (Nat × Nat)
  | [] => []
  | a :: t =>
    match slotRuns t with
    | (b, c) :: r => if a + 1 = b then (a, c) :: r else (a, a) :: (b, c) :: r
    | [] => [(a, a)]

/-- The stretches of a track's data cells, counted from slot 0's first, in which Ln_WGATE is high for a run of slots (R271, R278): from WG_LEAD
before the first preamble, or the first data cell after the splice before it, to WG_TRAIL after the last sector's first pad cell, or the next
splice; low around every splice and servo field between. `wedge` is the number of data cells in a wedge interval. -/
def gateStretches (wedge lead trail : Nat) (run : Nat × Nat) : List (Nat × Nat) :=
  if wedge = 0 then []
  else
    let first := run.1 * 37152
    let pad := run.2 * 37152 + 37088
    let a := max (first - lead) (first / wedge * wedge)
    let z := min (pad + trail) ((pad / wedge + 1) * wedge)
    ((List.range (z / wedge + 1)).map fun k => (max a (k * wedge), min z ((k + 1) * wedge))).filter fun x => decide (x.1 < x.2)

/-- Data cells in a wedge interval at a PBA (R270). -/
def State.wedgeCells (s : State) (p : Nat) : Nat :=
  let zones := s.section secZones
  ((zoneAt zones (pbaHead p) (pbaTrack p)).map fun z => dataCells (u32 zones (z + 8))).getD 0

/-- The wedge whose servo field comes first after the gate has risen for some PBAs of a track (R271, R384). -/
def State.nextWedge (s : State) (n : Lane) (pbas : List Nat) : Nat :=
  let p := pbas.headD 0
  let cells := s.wedgeCells p
  let lead := s.get (Reg.FMT_WRITE_CTRL_WG_LEAD n)
  match slotRuns (pbas.foldl (fun l x => insertRising (pbaSlot x) l) []) with
  | r :: _ =>
    match gateStretches cells lead (s.get (Reg.FMT_WRITE_CTRL_WG_TRAIL n)) r with
    | x :: _ => (pbaTrack p * s.wedges / 8 + x.1 / cells + 1) % max 1 s.wedges
    | [] => 0
  | [] => 0

/-- The course of Ln_WGATE over a write step of some PBAs (R278). -/
def State.gateCourse (s : State) (n : Lane) (pbas : List Nat) : List (Nat × Nat) :=
  let wedge := s.wedgeCells (pbas.headD 0)
  let slots := pbas.foldl (fun l x => insertRising (pbaSlot x) l) []
  (slotRuns slots).flatMap (gateStretches wedge (s.get (Reg.FMT_WRITE_CTRL_WG_LEAD n)) (s.get (Reg.FMT_WRITE_CTRL_WG_TRAIL n)))

/-- The sectors of the step wholly written so far reach `k`. -/
def State.writeProgress (s : State) (n : Lane) (k : Nat) : State :=
  match (s.lane n).fmt.write with
  | none => s
  | some w =>
    if k ≤ w.done then s
    else
      let fresh := (w.sectors.take k).drop w.done
      let s1 := s.commitSectors fresh
      let s2 := { s1 with scheds := s1.scheds.set n ((s1.scheds[n]).map fun (o : MediaOp) =>
        if o.write then { o with landed := o.landed ++ ((fresh.filter fun (x : WriteSector) =>
          o.sectors.contains x).map fun (x : WriteSector) => x.pba) } else o) }
      let s3 := s2.setFmt n { (s2.lane n).fmt with write := some { w with done := min k w.sectors.length } }
      if k < w.sectors.length then s3
      else
        -- the step ends: whole groups get their parity inline (R284), the gate falls (R278), PREHEAT clears (R281)
        let s4 := (s3.stepGroups (w.sectors.map fun (x : WriteSector) => x.pba)).foldl (fun (s : State) (x : GroupId × Bool) =>
          if x.2 then s.writeParity x.1 [] else s) s3
        s4.endStep n

/-- The gate falls inside a sector: the sector in progress is left partly written (R125, R279, R384); the groups of the
step are no longer written in one pass, so they are stale (R284). From the first cut on the step's rewrites take time (R612). -/
def State.cutWrite (s : State) (n : Lane) : State :=
  let s1 :=
    match (s.lane n).fmt.wgate, (s.lane n).fmt.write with
    | false, _ => s
    | true, none => s
    | true, some w =>
      let t := match w.sectors[w.done]? with
        | some x => s.writeMedia x.pba x.data x.tag x.key false
        | none => s
      let f := (t.lane n).fmt
      let u := t.setFmt n { f with cutAt := f.cutAt.orElse fun _ => some t.crn.elapsed }
      (u.stepGroups (w.sectors.map fun (x : WriteSector) => x.pba)).foldl (fun (s : State) (x : GroupId × Bool) => s.markStale x.1) u
  (s1.setFmt n { (s1.lane n).fmt with wgate := false }).stepEnded n

/-- The conditions for raising Ln_WGATE: the lane in FOLLOW with two valid samples inside WRITE_START (R385), no preamp
fault (R279), PREHEAT set and no register of the write path still to be written (R280, R281, R292), no refusal after a port failure (R291), no SLEW (R425), no ladder (R304), the write window open (R635, R639), no hold state (R104) and no
Lookout condition on the lane or device (R51, R650). -/
def State.gateAllowed (s : State) (n : Lane) : Bool :=
  let l := s.lane n
  s.writesOpen n && l.sve.mode == 3 && decide (2 ≤ l.sek.okRun) && l.fmt.pfaultN && !l.fmt.refused && l.fmt.preheat &&
    l.fmt.waiting.all (fun w => !pspHeld w.1) &&
    s.get Reg.WHL_STATUS_SLEW == 0 && l.rcv.ladder.isNone && !l.mts.lost && bits (s.get Reg.LKO_STATUS_WG_CUT) n n == 0

/-- The write operation at work on a lane: the first of its scheduler that holds all the PBAs. -/
def State.writeOp (s : State) (n : Lane) (pbas : List Nat) : Option MediaOp :=
  (s.scheds[n]).find? fun o => o.write && pbas.all fun p => o.sectors.any (·.pba == p)

/-- WRITE_STEP_START (R278, R279, R281, R284, R385): a write step of a write operation begins, or tries again. The head
preheats first; stale bits are set before the first sector of a partial group write; the gate rises when R385 and the
other conditions hold. With Ln_PFAULT_N low the rise does not take place and LSn gets a write abort. -/
def execWriteStepStart (n : Lane) (pbas : List Nat) (s : State) : Host.Outcome State Fault Refusal :=
  .next <|
    match s.writeOp n pbas with
    | none => s
    | some o =>
      let s1 :=
        match (s.lane n).fmt.write with
        | some _ => s
        | none =>
          let secs := o.sectors.filter fun (x : WriteSector) => pbas.contains x.pba
          let t := ((s.wake (.fmt n)).loadEntries n).setPreheat n true
          let t1 := t.setFmt n { (t.lane n).fmt with
            write := some ⟨secs, 0, s.get (Reg.FMT_WRITE_CTRL_PREHEAT_WEDGES n), 0⟩ }
          (t1.stepGroups pbas).foldl (fun (s : State) (x : GroupId × Bool) => if x.2 then s else s.markStale x.1) t1
      match (s1.lane n).fmt.write with
      | none => s1
      | some w =>
        if !(s1.lane n).fmt.pfaultN then s1.assertPriv n .writeAbort
        else if w.preheatLeft = 0 ∧ s1.gateAllowed n ∧ !(s1.lane n).fmt.wgate then
          let left := (w.sectors.drop w.done).map fun (x : WriteSector) => x.pba
          (s1.setFmt n { (s1.lane n).fmt with wgate := true, write := some { w with wedge := s1.nextWedge n left } }).emit
            (.writeGate n (s1.gateCourse n left))
        else s1

/-- PFAULT_N_FALL (R279): FMT drops the gate, signals a write abort to LSn, reads FAULT and raises FMT_PREAMP_FAULT;
the read clears FAULT and releases the pin (R290). -/
def execPfaultNFall (n : Lane) (fault : PspAnswer) (s : State) : Host.Outcome State Fault Refusal :=
  .next <|
    let f := (s.lane n).fmt
    let s1 := s.setFmt n { f with pfaultN := false }
    if !s.used n ∨ (!f.wgate ∧ f.write.isNone) then s1
    else
      let s2 := if f.wgate then s1.cutWrite n else s1
      let s3 := (s2.assertPriv n .writeAbort).pspReadFrames n 0x0A fault
      match pspValue 0x0A fault with
      | some v =>
        (s3.setFmt n { (s3.lane n).fmt with pfaultN := true }).raiseLane n 0x22
          (v % 2 ^ 16 + flag f.wgate * 2 ^ 16)
      | none => s3.pspError n 0x0A false true

/-- WRITE_FIFO_UNDERRUN (R125): FMT drops the gate before the first cell it cannot supply; the sector is left partly
written and LSn rewrites it later; PWR raises its request. Not a Lookout fault. -/
def execWriteFifoUnderrun (n : Lane) (index floor : Nat) (s : State) : Host.Outcome State Fault Refusal :=
  .next <|
    if !(s.lane n).fmt.wgate then s
    else (((s.writeProgress n index).cutWrite n).raiseLane n 0x24 (index % 2 ^ 16)).avsUp floor

end Sys2Proof.Machine
end

