-- ==== Sys2Proof/Machine/Recovery.lean ====
section
/-! DEFINITION. The read recovery ladder (chapter 9). -/

namespace Sys2Proof.Machine

/-! ## The table -/

/-- Steps of the ladder in force (R305, R308). -/
def State.ladderSteps (s : State) : Nat := s.sec8 secLadder 0
/-- Offset of step `i` (from 0) in RETRY_LADDER. -/
def stepAt (i : Nat) : Nat := 0x10 + 16 * i
/-- A byte of step `i`'s entry. -/
def State.stepByte (s : State) (i o : Nat) : Nat := s.sec8 secLadder (stepAt i + o)
/-- PARAM[k] of step `i`, signed. -/
def State.stepParam (s : State) (i k : Nat) : Int := signed 8 (s.stepByte i (8 + k))

/-- The limit of a command on a lane in ms (R310, R313): the host's limit where it sets one, at most MAX_TIME_MS. -/
def State.ladderLimit (s : State) (hostMs : Nat) : Nat :=
  let top := s.sec16 secLadder 2
  if hostMs = 0 then top else min hostMs top

/-- One revolution in µs from the synthesizer's period at this moment (R311). -/
def State.revolutionUs (s : State) (n : Lane) : Nat :=
  s.get (Reg.FMT_MTS_STATUS_WEDGE_PERIOD n) * s.wedges * 25 / 10000

/-- The predicted cost of an attempt of step `i` in µs: COST eighths of a revolution × 1.02 (R311). -/
def State.predictUs (s : State) (n : Lane) (i : Nat) : Nat :=
  ceilDiv (s.get (Reg.FMT_MTS_STATUS_WEDGE_PERIOD n) * s.wedges * 25 * s.sec16 secLadder (stepAt i + 4) * 102) 8000000

/-- Whether an attempt cannot apply and is skipped (R309). -/
def State.attemptSkipped (s : State) (n : Lane) (l : Ladder) (i k : Nat) : Bool :=
  let zones := s.section secZones
  let pba := l.targets.headD 0
  let z := zoneAt zones (pbaHead pba) (pbaTrack pba)
  match s.stepByte i 0 with
  | 0x02 => ((List.range 3).filter fun r => bit (s.readersOf (pbaHead pba)) r).length < 2
  | 0x04 => match z with
    | some e => u16 zones (e + 0x10 + 2 * (s.stepByte i (8 + k))) == u16 zones (e + 0x10)
    | none => true
  | 0x07 => match z with
    | some e =>
      let v := (s.zoneField n e 0x56 2 : Int) + s.stepParam i k
      v < 0 || 1500 < v
    | none => true
  | 0x08 => l.targets.all fun p => match s.groupOf p with
    | some g => s.stale.contains g
    | none => true
  | _ => false

/-- The next attempt that runs at or after (step, attempt): `none` where a REPORT step or the end is reached (R307,
R309, R312). Answers also whether a step was passed over by level. -/
def State.nextAttempt (s : State) (n : Lane) (l : Ladder) : Nat → Nat → Nat → Option (Nat × Nat) × Bool
  | 0, _, _ => (none, false)
  | fuel + 1, i, k =>
    if s.ladderSteps ≤ i ∨ s.stepByte i 0 = 0x0F then (none, false)
    else if s.stepByte i 2 < l.level then
      let (r, _) := s.nextAttempt n l fuel (i + 1) 0
      (r, true)
    else if s.stepByte i 1 ≤ k then s.nextAttempt n l fuel (i + 1) 0
    else if s.attemptSkipped n l i k then s.nextAttempt n l fuel i (k + 1)
    else (some (i, k), false)

/-! ## Outcome -/

/-- The pending list takes a sector, or RCV_PENDING_FULL is raised (R320). -/
def State.addPending (s : State) (n : Lane) (pba : Nat) : State :=
  let r := (s.lane n).rcv
  if r.pending.contains pba then s
  else if 16384 ≤ r.pending.length then s.raiseLane n 0x43 pba
  else
    let s1 := (s.setRcv n { r with pending := r.pending ++ [pba] }).put (Reg.CHN_RCV_PENDING_ENTRIES n) (r.pending.length + 1)
    { s1 with hif := { s1.hif with sata := { s1.hif.sata with pendingPeak := max s1.hif.sata.pendingPeak (r.pending.length + 1) } } }

/-- R321: KS marks a recovered sector for in-place verification (from REALLOC_STEP on, or when it was pending; 0: its rewrite
waits);
otherwise a pending entry is removed. -/
def State.markRecovered (s : State) (n : Lane) (pba step : Nat) : State :=
  let r := (s.lane n).rcv
  let re := s.sec8 secLadder 1
  if r.pending.contains pba ∨ (re ≠ 0 ∧ re ≤ step + 1) then
    if re ≠ 0 ∧ re ≤ step + 1 then
      s.setRcv n { r with marked := (r.marked.filter (·.1 != pba)) ++ [(pba, 0)] }
    else (s.setRcv n { r with pending := r.pending.erase pba }).put (Reg.CHN_RCV_PENDING_ENTRIES n)
      (r.pending.erase pba).length
  else s

/-- A target recovered at step index `i` (R318). -/
def State.recovered (s : State) (n : Lane) (i : Nat) (parity : Option Nat) (pba : Nat) : State :=
  let s0 := s.setChan n { (s.lane n).chan with mended := (s.lane n).chan.mended ++ [pba] }
  let s1 := (s0.bump (Reg.CHN_RCV_OK_COUNT n i) 1).raiseLane n 0x40 (pba % 2 ^ 41 + i * 2 ^ 41)
  let s2 := match parity with
    | some e => s1.raiseLane n 0x42 (pba % 2 ^ 41 + min e 3 * 2 ^ 41)
    | none => s1
  s2.markRecovered n pba i

/-- The mark, among an operation's failed sectors, of one that a ladder has reported (R319). -/
def causeReported : Nat := 15
/-- The mark of one that no ladder tried because the budget was used up (R319). -/
def causeUntried : Nat := 14

/-- The end of a ladder with unrecovered targets (R319): reasons 0 EXHAUSTED, 1 TIME_LIMIT, 2 LEVEL. They stay among
the operation's failed sectors for its end. -/
def State.endLadder (s : State) (n : Lane) (reason : Nat) : State :=
  let r := (s.lane n).rcv
  match r.ladder with
  | none => s
  | some l =>
    let s1 := l.targets.foldl (fun s p =>
      let t := (s.raiseLane n 0x41 (p % 2 ^ 41 + l.lastStep * 2 ^ 41 + reason * 2 ^ 45)).bump
        (Reg.CHN_RCV_UNREC_COUNT n) 1
      let t1 := if reason = 1 then t.bump (Reg.CHN_RCV_TIMEOUT_COUNT n) 1 else t
      t1.addPending n p) s
    let s2 := s1.setRcv n { (s1.lane n).rcv with ladder := none }
    let c := (s2.lane n).chan
    let s3 := s2.setChan n { c with targets := [], failed := c.failed ++ l.targets.map fun p => (p, causeReported) }
    (s3.put (Reg.CHN_RCV_STATUS_ACTIVE n) 0).put (Reg.CHN_RCV_STATUS_OUTSTANDING n) 0

/-- Budget that a command's part has used in µs (R311): from its first failure on, by operating time and by what its attempts report. -/
def State.partUsed (s : State) (n : Lane) (q : Nat) : Nat :=
  match (s.lane n).rcv.parts.find? (·.1 == q) with
  | some (_, t, us) => max us ((s.crn.elapsed - t) * 1000)
  | none => 0

/-- The part a ladder shows (R324): that of its first waiting command, else the device's own. -/
def State.shownPart (s : State) (n : Lane) (l : Ladder) : Nat := ((l.waiting.head?).map (·.1)).getD ((s.partsOn n).headD 0)

/-- Whether some command that waits on a ladder still allows `us` more (R311, Races with the ladder); a ladder of the device itself has one
limit. -/
def State.withinLimit (s : State) (n : Lane) (l : Ladder) (us : Nat) : Bool :=
  if l.waiting.isEmpty then decide (s.partUsed n ((s.partsOn n).headD 0) + us ≤ l.limitMs * 1000)
  else l.waiting.any fun w => decide (s.partUsed n w.1 + us ≤ w.2 * 1000)

/-- RCV_ELAPSED follows the budget (R324). -/
def State.showElapsed (s : State) (n : Lane) : State :=
  match (s.lane n).rcv.ladder with
  | some l => s.put (Reg.CHN_RCV_ELAPSED_US n) (s.partUsed n (s.shownPart n l))
  | none => s

/-- The ladder ends without a verdict (an abort of its last command, a Lookout safe state): nothing is reported. -/
def State.dropLadder (s : State) (n : Lane) : State :=
  if (s.lane n).rcv.ladder.isNone then s
  else
    let s1 := (s.setRcv n { (s.lane n).rcv with ladder := none }).setChan n { (s.lane n).chan with targets := [] }
    (s1.put (Reg.CHN_RCV_STATUS_ACTIVE n) 0).put (Reg.CHN_RCV_STATUS_OUTSTANDING n) 0

/-- HEATER_READ of the zone of a head and track, as KS has refined it (R235, R303). -/
def State.heaterRead (s : State) (n : Lane) (h track : Nat) : Option Int :=
  (zoneAt (s.section secZones) h track).map fun e => (s.zoneField n e 0x56 2 : Int)

/-- The offset input takes a value (R348): at once with the write gate low, else when it has fallen. -/
def State.takeOffset (s : State) (n : Lane) (o : Int) : State :=
  let s1 := s.put (Reg.SVE_TF_OFFSET_OFFSET n) (twos 16 o)
  let x := (s1.lane n).sve
  if (s1.lane n).fmt.wgate then (s1.setSve n { x with offsetHeld := some o }).put (Reg.SVE_TF_OFFSET_HELD n) 1
  else (s1.setSve n { x with offset := o, offsetHeld := none }).put (Reg.SVE_TF_OFFSET_HELD n) 0

/-- The settings of an attempt (R247, R302, R303, R307): limits, weight set, preset, offset, framing and heater, each at its
nominal value but the one the step names; the bank holds nothing else. A SOFT_COMBINE step combines its first 64 targets in slot order
(R315). -/
def State.setAttempt (s : State) (n : Lane) (l : Ladder) (i k : Nat) : State :=
  let act := s.stepByte i 0
  let pba := l.targets.headD 0
  let s0 := s.readStep n
  let heater := (s0.heaterRead n (pbaHead pba) (pbaTrack pba)).getD 0
  let loc := if act = 1 then s.stepByte i 8 else s.sec8 secLadder 4
  let glob := if act = 1 then s.stepByte i 9 else s.sec8 secLadder 5
  let off : Int := if act = 3 then s.stepParam i k * 4096 else 0
  let offR : Int := if 0 ≤ off then (off * 2 + 100) / 200 else -((-off * 2 + 100) / 200)
  let htr := heater + (if act = 7 then s.stepParam i k else 0)
  let s1 := ((s0.put (Reg.CHN_ITER_LIMIT_REC_LOCAL n) loc).put (Reg.CHN_ITER_LIMIT_REC_GLOBAL n) glob).put
    (Reg.CHN_CTRL_RECOVERY n) 1
  let s2 := ((s1.put (Reg.CHN_CTRL_WSET n) (if act = 2 then s.stepByte i (8 + k) else 0)).put
    (Reg.CHN_CTRL_PRESET_SEL n) (if act = 4 then s.stepByte i (8 + k) else 0)).put
    (Reg.FMT_SYNC_CTRL_FORCE_BACKUP n) (flag (act == 6))
  let s5 := (s2.takeOffset n offR).pspDue n 4 htr.toNat
  let c := (s5.lane n).chan
  let first := l.targets.take 64
  let tg := if act ≠ 5 then l.targets else if k = 0 then first else l.targets.filter fun p => l.sums.any (·.1 == p)
  let l1 := { l with step := i, attempt := k,
                     sums := if act ≠ 5 then [] else if k = 0 then first.map fun p => (p, 0, []) else l.sums }
  let s6 := ((s5.setChan n { c with targets := tg, bank := [] }).showBank n).setRcv n { (s5.lane n).rcv with ladder := some l1 }
  (((s6.put (Reg.CHN_RCV_STATUS_ACTIVE n) 1).put (Reg.CHN_RCV_STATUS_STEP n) i).put (Reg.CHN_RCV_STATUS_ATTEMPT n)
    k).put (Reg.CHN_RCV_STATUS_OUTSTANDING n) l.targets.length

/-- Nominal settings again after a ladder (R303), HTR_RD included. -/
def State.nominalRead (s : State) (n : Lane) : State :=
  let k := (s.lane n).sek
  let s1 := (s.readStep n).takeOffset n 0
  match (k.head.bind (globalHead (s.section secGeometry) n.val)).bind fun h => s1.heaterRead n h k.target with
  | some v => s1.pspDue n 4 v.toNat
  | none => s1

/-- Go on to the next attempt that applies from (i, k), or end (R311, R319). -/
def State.ladderOn (s : State) (n : Lane) (l : Ladder) (i k : Nat) : State :=
  let (nx, skipped) := s.nextAttempt n l 160 i k
  let l1 := { l with levelSkipped := l.levelSkipped || skipped }
  let s1 := s.setRcv n { (s.lane n).rcv with ladder := some l1 }
  match nx with
  | none => (s1.endLadder n (if l1.levelSkipped then 2 else 0)).nominalRead n
  | some (i', k') =>
    if s1.withinLimit n l1 (s.predictUs n i') then s1.setAttempt n l1 i' k' else (s1.endLadder n 1).nominalRead n

/-- A ladder starts (R300, R301, R310): the failed sectors of one track of the running read form it, if none runs.
`waiting` are the commands that wait on the operation with their limits in ms (R310); with none the limit is MAX_TIME_MS
(R313). Sectors for which an earlier ladder of the part left no time are not tried (R319). -/
def State.ladderStart (s : State) (n : Lane) (level : Nat) (waiting : List (Nat × Nat)) : State :=
  let c := (s.lane n).chan
  match (s.lane n).rcv.ladder, c.failed.filter (fun q => q.2 < causeUntried) with
  | none, (p, _) :: _ =>
    let same := c.failed.filter fun q => decide (q.2 < causeUntried) && pbaHead q.1 == pbaHead p && pbaTrack q.1 == pbaTrack p
    let tg := same.foldl (fun l q => insertRising q.1 l) []
    let s1 := s.setChan n { c with failed := c.failed.filter fun q => !tg.contains q.1 }
    let limit := if waiting.isEmpty then s.ladderLimit 0 else waiting.foldl (fun m x => max m x.2) 0
    let l : Ladder := { targets := tg, step := 0, attempt := 0, elapsedUs := 0, limitMs := limit, level := level,
                        levelSkipped := false, ran := false, lastStep := 0, sums := [], waiting := waiting }
    let earlier : Bool := c.failed.any fun q => decide (causeUntried ≤ q.2)
    let first := s.predictUs n (((s.nextAttempt n l 160 0 0).1.map (·.1)).getD 0)
    if earlier ∧ !s.withinLimit n l first then
      s.setChan n { c with failed := c.failed.map fun q => if tg.contains q.1 then (q.1, causeUntried) else q }
    else (s1.ladderOn n l 0 0).showElapsed n
  | _, _ => s

/-- The erasures of a group in a TRACK_PARITY read: every slot that failed or does not pass its CRC (R316). -/
def State.erasures (s : State) (gid : GroupId) (targets unread : List Nat) : List Nat :=
  ((s.groupData gid) ++ (s.groupParity gid)).filter fun p => targets.contains p || unread.contains p || !s.mediaPasses p

/-! ## Delivery in recovery decoding (R300, R318, R323) -/

/-- The ladder has no target left. -/
def State.ladderEmpty (s : State) (n : Lane) : State :=
  let s1 := s.setRcv n { (s.lane n).rcv with ladder := none }
  (((s1.setChan n { (s1.lane n).chan with targets := [] }).put (Reg.CHN_RCV_STATUS_ACTIVE n) 0).put
    (Reg.CHN_RCV_STATUS_OUTSTANDING n) 0).nominalRead n

/-- Targets that have been delivered leave the ladder as soon as they are (R300, R318). -/
def State.targetsGone (s : State) (n : Lane) : State :=
  match (s.lane n).rcv.ladder with
  | none => s
  | some l =>
    let done := l.targets.filter (s.lane n).chan.delivered.contains
    if done.isEmpty then s
    else
      let s1 := done.foldl (fun s p => s.recovered n l.step none p) s
      let left := l.targets.filter fun p => !done.contains p
      let s2 := s1.setRcv n { (s1.lane n).rcv with ladder := some { l with targets := left, ran := true, lastStep := l.step } }
      if left.isEmpty then s2.ladderEmpty n else s2.put (Reg.CHN_RCV_STATUS_OUTSTANDING n) left.length

/-- SECTOR_PREAMBLE_START (R245, R246, R219, R222): a sector's preamble begins. With all 12 slots occupied the decoding
sector stops: it completes if its next layer converges, else it fails with BANK_CUT; `cut` is what the decoder reports for it. -/
def execSectorPreambleStart (n : Lane) (index pba : Nat) (cut : DecodeResult) (s : State) :
    Host.Outcome State Fault Refusal :=
  .next <|
    if !s.used n then s
    else
      let sw := s.wake (.chn n)
      let s0 := if index = 0 then sw.loadEntries n else sw
      let s1 :=
        match (s0.lane n).chan.bank with
        | b :: _ => if 12 ≤ (s0.lane n).chan.bank.length
            then ((s0.endDecode n b cut (!b.recovery)).popBank n).targetsGone n else s0
        | [] => s0
      let c := (s1.lane n).chan
      let b := s1.latchSector n index pba
      if b.recovery ∧ ¬ c.targets.contains pba then s1
      else (s1.setChan n { c with bank := c.bank ++ [b] }).showBank n

/-- SECTOR_DECODE_END (R243): the decode of the bank's oldest sector ends. A sector that the framer has not passed is
still waiting (R275). -/
def execSectorDecodeEnd (n : Lane) (r : DecodeResult) (s : State) : Host.Outcome State Fault Refusal :=
  .next <|
    match (s.lane n).chan.bank with
    | b :: _ => if b.framed.isSome then ((s.endDecode n b r false).popBank n).targetsGone n else s
    | [] => s

end Sys2Proof.Machine
end

