-- ==== Sys2Proof/Machine/Actuator.lean ====
section
/-! DEFINITION. Seeks, load, park and retract (chapter 11), and the Lookout safe states that act on a lane (R649). -/

namespace Sys2Proof.Machine

/-! ## Switchback arithmetic (R386 to R389) -/

/-- The ratio r = P / P_REF of the wedge interval (in 2.5 ns units) to the one at REF_RPM (R386). -/
def State.seekRatio (s : State) (n : Lane) (period : Nat) : Rat :=
  (period * s.act n 0x10 2 * s.wedges : Nat) / (24000000000 : Nat)

/-- The limits of a seek: velocity, acceleration and jerk in tracks per wedge, scaled by r, r² and r³ (R386); while Cone 2
is asserted acceleration is A × CAP_ACC (R637). -/
def State.seekLimits (s : State) (n : Lane) (r : Rat) : Rat × Rat × Rat :=
  let v : Rat := (s.act n 0 4 : Nat) / (65536 : Nat) * r
  let a0 : Rat := (s.act n 4 4 : Nat) / (16777216 : Nat) * r * r
  let j : Rat := (s.act n 8 4 : Nat) / (268435456 : Nat) * r * r * r
  let a := if s.get Reg.KLN_STATUS_CONE2 = 1 then a0 * (s.sec16 secThermal 6 : Nat) / (32768 : Nat) else a0
  (v, a, j)

/-- Whether counts (Nj, Na, Nv) meet the limits for `d` tracks (R387). -/
def planOk (d v a j : Rat) (nj na nv : Nat) : Bool :=
  let ap : Rat := d / (((nj + na) * (2 * nj + na + nv) : Nat) : Rat)
  decide (ap ≤ a) && decide (ap / (nj : Rat) ≤ j) && decide (ap * ((nj + na : Nat) : Rat) ≤ v)

/-- The best plan of total duration `t`: the larger Nj, then the larger Na (R387). -/
def planAt (d v a j : Rat) (t : Nat) : Option (Nat × Nat × Nat) :=
  (List.range (t / 4)).reverse.findSome? fun k =>
    let nj := k + 1
    (List.range ((t - 4 * nj) / 2 + 1)).reverse.findSome? fun na =>
      let nv := t - 4 * nj - 2 * na
      if planOk d v a j nj na nv then some (nj, na, nv) else none

/-- The least duration that a plan meets, from `t` up (R387). -/
def planSearch (d v a j : Rat) : Nat → Nat → Nat × Nat × Nat
  | 0, _ => (1, 0, 0)
  | fuel + 1, t => (planAt d v a j t).getD (planSearch d v a j fuel (t + 1))

/-- Longest profile searched: the sample counts of SEK.PLAN and LEFT are 16 bits wide (R399, R400). -/
def planFuel : Nat := 65536

/-- Position, velocity and acceleration of the continuous profile at time `t` (R388), through its segments of
(duration, jerk). -/
def profileAt : List (Rat × Rat) → Rat → Rat → Rat → Rat → Rat × Rat × Rat
  | [], _, x, v, a => (x, v, a)
  | (dur, jerk) :: rest, t, x, v, a =>
    let h := if t ≤ dur then t else dur
    let x1 := x + v * h + a * h * h / 2 + jerk * h * h * h / 6
    let v1 := v + a * h + jerk * h * h / 2
    let a1 := a + jerk * h
    if t ≤ dur then (x1, v1, a1) else profileAt rest (t - dur) x1 v1 a1

/-- The distance, velocity and acceleration of a plan at sample `i`, in tracks. -/
def Plan.at (p : Plan) (i : Nat) : Rat × Rat × Rat :=
  let d : Rat := (p.dist : Rat) / 4096
  let ap : Rat := d / (((p.nj + p.na) * (2 * p.nj + p.na + p.nv) : Nat) : Rat)
  let j : Rat := ap / (p.nj : Rat)
  let nj : Rat := p.nj
  let na : Rat := p.na
  let nv : Rat := p.nv
  let (x, v, a) := profileAt [(nj, j), (na, 0), (nj, -j), (nv, 0), (nj, -j), (na, 0), (nj, j)] (i : Rat) 0 0 0
  (x, v, if i < 4 * p.nj + 2 * p.na + p.nv then a else 0)

/-- Samples of a plan. -/
def Plan.length (p : Plan) : Nat := 4 * p.nj + 2 * p.na + p.nv

/-- Round to the nearest integer, ties away from zero (R382). -/
def roundAway (x : Rat) : Int := if 0 ≤ x then (x + 1 / 2).floor else -((-x + 1 / 2).floor)

/-- The reference position of a plan at sample `i`, in PES units (R388). -/
def Plan.ref (p : Plan) (i : Nat) : Int :=
  let x := (p.at i).1 * 4096
  if p.up then p.start + roundAway x else p.start - roundAway x

/-- The velocity reference at sample `i`, in PES units (R388). -/
def Plan.vref (p : Plan) (i : Nat) : Int :=
  if i = 0 then 0
  else
    let x := ((p.at i).1 - (p.at (i - 1)).1) * 4096
    if p.up then roundAway x else -(roundAway x)

/-- Saturation to Q1.15 (R329). -/
def sat15 (x : Int) : Int := clamp (-32768) 32767 x

/-- A value in units of 1.0 rounded to Q1.15 (R329, R389). -/
def toQ15 (x : Rat) : Int := sat15 ((x * 32768 + 1 / 2).floor)

/-- The acceleration command of lane `n` for `a` tracks per wedge² at wedge interval `period` (R389). -/
def State.accelCommand (s : State) (n : Lane) (a : Rat) (period : Nat) : Int :=
  let r := s.seekRatio n period
  let acc : Rat := (s.act n 0x0C 4 : Nat) / (16777216 : Nat)
  if r = 0 ∨ acc = 0 then 0 else toQ15 (a / (r * r) / acc)

/-! ## Starting commands -/

/-- Show SEK.STATUS (R399). -/
def State.showSek (s : State) (n : Lane) : State :=
  let k := (s.lane n).sek
  let st := match k.phase with
    | .parked => 0
    | .loading _ _ _ => 1
    | .starting _ p => if s.get (Reg.SEK_STATUS_DEFERS n) ≠ 0 then 6 else if p then 4 else 2
    | .seeking _ p _ => if p then 4 else 2
    | .onTrack => 3
    | .parkDrive => 4
    | .latching true => 5
    | .latching false => 4
    | .retracting => 5
  let left := match k.phase with
    | .seeking _ _ p => p.length - p.i
    | _ => 0
  (s.put (Reg.SEK_STATUS_STATE n) st).put (Reg.SEK_STATUS_LEFT n) left

/-- Change SEK's phase. -/
def State.setPhase (s : State) (n : Lane) (p : SekPhase) : State :=
  (s.setSek n { (s.lane n).sek with phase := p }).showSek n

/-- The engine changes mode (R335), raising SVE_MODE with the position error at the change; at entry to SEEK, IDLE or
HOLD the microactuator command goes to 0 (R393). SVE.STATUS shows the mode at the end of a sample (R367). -/
def State.setMode (s : State) (n : Lane) (m : Nat) (etf : Int) : State :=
  let v := (s.lane n).sve
  if v.mode = m then s
  else
    let drop := m = 0 ∨ m = 1 ∨ m = 4
    let v1 := { v with mode := m, uma := if drop then 0 else v.uma, ma := if drop then [.zero, .zero] else v.ma,
                       evf := if m = 1 then 0 else v.evf }
    let s0 := s.setSve n v1
    let s1 := if m = 2 then s0.put (Reg.SVE_STATUS_DWELL_CNT n) 0 else s0
    let s2 := if drop then s1.put (Reg.SVE_INTEG_I n) 0 else s1
    s2.raiseLane n 0x51 (m + v.mode * 2 ^ 4 + twos 16 etf * 2 ^ 16)

/-- The data track nearest the ramp on a head's surface (R394, R395). -/
def State.rampTrack (s : State) (n : Lane) (ix : Nat) : Nat :=
  if bit (s.act n 0x2E 1) 1 then
    ((globalHead (s.section secGeometry) n.val ix).map (lastTrack (s.section secGeometry))).getD 0
  else 0

/-- SEK takes a command (R390, R394, R395). -/
def State.takeCmd (s : State) (n : Lane) (c : SekCmd) : State :=
  let k := (s.lane n).sek
  let s0 := s.put (Reg.SEK_CMD_GO n) 0
  match c.action with
  | 1 =>
    if k.phase = .parked then s0.put (Reg.SEK_STATUS_ERR n) 1
    else if k.head = some c.head ∧ k.target = c.target then s0
    else
      let s1 := s0.loadActive n c.head c.target
      let s2 := if k.head = some c.head then s1
        else (s1.setSek n { k with head := some c.head, fresh := true, newHead := true }).setMode n 4 0
      (s2.put (Reg.SEK_STATUS_DEFERS n) 0).setPhase n (.starting c false)
  | 2 =>
    if k.phase ≠ .parked ∨ s.get Reg.WHL_STATUS_AT_SPEED = 0 then s0.put (Reg.SEK_STATUS_ERR n) 1
    else
      let s1 := s0.loadActive n c.head c.target
      ((s1.setSek n { k with head := some c.head, fresh := true, okRun := 0 }).put (Reg.SEK_STATUS_DEFERS n) 0).setPhase n
        (.loading c 0 0)
  | 3 =>
    if k.phase = .parked then s0
    else
      let h := k.head.getD 0
      (s0.put (Reg.SEK_STATUS_DEFERS n) 0).setPhase n (.starting { c with head := h, target := s.rampTrack n h } true)
  | _ => s0

/-- Whether a seek, load or park runs, so that a command waits (R390). -/
def sekBusy : SekPhase → Bool
  | .parked => false
  | .onTrack => false
  | _ => true

/-- A command arrives in SEK.CMD (R390, R398): it is taken at once, or waits with GO at 1. -/
def State.sekCommand (s : State) (n : Lane) (c : SekCmd) : State :=
  let s1 := (((s.put (Reg.SEK_CMD_ACTION n) c.action).put (Reg.SEK_CMD_HEAD n) c.head).put (Reg.SEK_CMD_TARGET n)
    c.target).put (Reg.SEK_CMD_GO n) 1
  let k := (s1.lane n).sek
  if sekBusy k.phase then s1.setSek n { k with queued := some c } else s1.takeCmd n c

/-- A queued command starts once nothing runs (R390). -/
def State.sekNext (s : State) (n : Lane) : State :=
  let k := (s.lane n).sek
  match k.queued with
  | some c => if sekBusy k.phase then s else (s.setSek n { k with queued := none }).takeCmd n c
  | none => s

/-- SEEK (R387, R390): a seek command to a head index and track. -/
def execSeek (n : Lane) (head target : Nat) (s : State) : Host.Outcome State Fault Refusal :=
  .next (if s.used n then s.sekCommand n ⟨1, head, target⟩ else s)

/-- LOAD (R394): refused with ERR while Wheel does not report the spindle at speed. -/
def execLoad (n : Lane) (head target : Nat) (s : State) : Host.Outcome State Fault Refusal :=
  .next (if s.used n then s.sekCommand n ⟨2, head, target⟩ else s)

/-- PARK (R395). -/
def execPark (n : Lane) (s : State) : Host.Outcome State Fault Refusal :=
  .next (if s.used n then s.sekCommand n ⟨3, ((s.lane n).sek.head).getD 0, 0⟩ else s)

/-- A seek start at a valid sample at position `p` (R387, R391): it is planned, replanned with a lower acceleration, or
deferred under the pivot budget. Answers whether the profile started. -/
def State.tryStart (s : State) (n : Lane) (p : Int) (period : Nat) (c : SekCmd) (thenPark : Bool) : State × Bool :=
  let dist := (4096 * (c.target : Int) - p).natAbs
  let r := s.seekRatio n period
  let (v, a, j) := s.seekLimits n r
  let d : Rat := (dist : Rat) / 4096
  let mk := fun (lim : Rat) =>
    let (nj, na, nv) := planSearch d v lim j planFuel 4
    let ap : Rat := d / (((nj + na) * (2 * nj + na + nv) : Nat) : Rat)
    ({ nj := nj, na := na, nv := nv, dist := dist, start := p, up := decide (p ≤ 4096 * (c.target : Int)), i := 0,
       peak := (s.accelCommand n ap period).natAbs } : Plan)
  let others := (List.finRange 4).foldl (fun b m =>
    if m = n then b
    else match (s.lane m).sek.phase with
      | .seeking _ _ q => if (s.lane m).sve.mode = 1 then b + q.peak else b
      | _ => b) 0
  let budget := s.act n 0x12 2 * 4
  let frac : Rat := (s.act n 0x14 2 : Nat) / (32768 : Nat)
  let acc : Rat := (s.act n 0x0C 4 : Nat) / (16777216 : Nat)
  let full := mk a
  let start := fun (s : State) (pl : Plan) =>
    let s1 := (((s.put (Reg.SEK_PLAN_A_NJ n) pl.nj).put (Reg.SEK_PLAN_A_NA n) pl.na).put (Reg.SEK_PLAN_V_NV n) pl.nv).put
      (Reg.SEK_PLAN_V_PEAK n) pl.peak
    (s1.setSek n { (s1.lane n).sek with target := c.target, newHead := false }).setPhase n (.seeking c thenPark pl)
  if others + full.peak ≤ budget then (start s full, true)
  else
    let lim : Rat := if budget ≤ others then 0 else ((budget - others : Nat) : Rat) / 32768 * acc * r * r
    if frac * a ≤ lim ∧ 0 < lim then (start s (mk lim), true)
    else
      let k := s.get (Reg.SEK_STATUS_DEFERS n)
      if s.act n 0x2F 1 ≤ k then
        ((start s (mk (frac * a))).raiseLane n 0x71 (c.target + min 255 k * 2 ^ 24), true)
      else (((s.put (Reg.SEK_STATUS_DEFERS n) (k + 1)).bump (Reg.SEK_CNT_DEFER_COUNT n) 1).showSek n, false)

/-- LOAD_TIMEOUT (R394): the load did not find four valid samples in LOAD_TIMEOUT_MS; SEK parks the heads and raises
SEK_LOAD_FAIL. -/
def execLoadTimeout (n : Lane) (s : State) : Host.Outcome State Fault Refusal :=
  .next <|
    match (s.lane n).sek.phase with
    | .loading c _ k => ((s.setPhase n .parkDrive).setMode n 0 0).raiseLane n 0x70 (c.target + k % 256 * 2 ^ 24)
    | _ => s

/-- PARK_LOW_VELOCITY (R395): the back-EMF velocity has stayed below PARK_VEL / 16 for 2 ms; the current is held. -/
def execParkLowVelocity (n : Lane) (s : State) : Host.Outcome State Fault Refusal :=
  .next (if (s.lane n).sek.phase = .parkDrive then s.setPhase n (.latching false) else s)

/-- RETRACT_DRIVE_END (R396): after RETRACT_MS the retract current is held for LATCH_MS. -/
def execRetractDriveEnd (n : Lane) (s : State) : Host.Outcome State Fault Refusal :=
  .next (if (s.lane n).sek.phase = .retracting then s.setPhase n (.latching true) else s)

/-! ## Lookout on a lane (R649) -/

/-- Whether the heads of a lane are over the disk, where servo samples come: SEK starts or follows a seek or holds a track. -/
def State.onDisk (s : State) (n : Lane) : Bool :=
  match (s.lane n).sek.phase with
  | .starting _ _ | .seeking _ _ _ | .onTrack => true
  | _ => false

/-- The WG_CUT bit of a lane (R669). -/
def wgCutField (n : Nat) : Fld := ⟨0xA0000, 16 + n, 16 + n⟩

/-- Whether a lane's cut is latched. -/
def State.cutLatched (s : State) (n : Lane) : Bool := s.get (wgCutField n.val) == 1

/-- The latch is set; an entry is counted once (R652, R673). -/
def State.latchCut (s : State) (n : Lane) : State :=
  if s.cutLatched n then s else (s.put (wgCutField n.val) 1).bump (Reg.LKO_CNT_WG_CUT_COUNT n) 1

/-- WG_CUT (R384, R649, R652): the gate is driven low at the pad and latched, and FMT signals a write abort to LSn. A
latched cut is not entered again. -/
def State.wgCut (s : State) (n : Lane) (condition : Nat) (e : Int) : State :=
  let s1 := ((s.cutWrite n).latchCut n).assertPriv n .writeAbort
  if s.cutLatched n then s1 else s1.raise 0x7E0 (n.val + condition * 2 ^ 4 + twos 16 e * 2 ^ 16)

/-- The emergency retract of a loaded lane (R396): the gate is removed, the engine enters IDLE and SEK drives the coil
toward the ramp; a command in progress ends with ERR. A retract that runs does not restart (R650). -/
def State.retract (s : State) (n : Lane) (supply : Bool) : State :=
  match (s.lane n).sek.phase with
  | .parked => s
  | .retracting => s
  | .latching true => s
  | ph =>
    let s1 := if (s.lane n).fmt.wgate then s.cutWrite n else s
    let s2 := (s1.endStep n).dropLadder n
    let s3 := if sekBusy ph ∨ (s2.lane n).sek.queued.isSome then s2.put (Reg.SEK_STATUS_ERR n) 1 else s2
    let s4 := (s3.setSek n { (s3.lane n).sek with queued := none, accel := 0, okRun := 0 }).setMode n 0 0
    ((s4.put (Reg.SEK_CMD_GO n) 0).setPhase n .retracting).raiseLane n 0x73 (flag supply)

end Sys2Proof.Machine
end

