-- ==== Sys2Proof/Machine/Servo.lean ====
section
/-! DEFINITION. The servo control engine and the demodulator's sample (chapters 10 and 11): the arithmetic of R327 to
R329, the laws, mode switching, feed-forward, banks and bands, injection and capture, Lookout's write limits (R384)
and the media-time synthesizer (R122). -/

namespace Sys2Proof.Machine

/-! ## Arithmetic (R327 to R329) -/

/-- An accumulator value in Q9.31 before saturation: rounded and shifted to Q1.15 (R329). -/
def qRaw (acc : Int) : Int := (acc + 2 ^ 15) / 2 ^ 16

/-- The conversion q of R329. -/
def q (acc : Int) : Int := sat15 (qRaw acc)

/-- A product of Q1.15 values as it enters the accumulator (R328). -/
def prod (shift : Nat) (c x : Int) : Int := c * x * 2 ^ (1 + shift)

/-- A Q1.15 value in the accumulator's scale. -/
def wide (x : Int) : Int := x * 2 ^ 16

/-- Saturation to Q1.31. -/
def sat31 (x : Int) : Int := clamp (-(2 ^ 31)) (2 ^ 31 - 1) x

/-- A signed 16-bit coefficient of a bank. -/
def coef (b : List Byte) (o : Nat) : Int := signed 16 (u16 b o)

/-- One second-order section at `o` of `b` on input `x` (R336 on, R352): its new history, output and saturation. -/
def sectionStep (b : List Byte) (o : Nat) (h : SecHist) (x : Int) : SecHist × Int × Bool :=
  let k := u8 b (o + 0xA)
  let acc := prod k (coef b o) x + prod k (coef b (o + 2)) h.x1 + prod k (coef b (o + 4)) h.x2 -
    prod k (coef b (o + 6)) h.y1 - prod k (coef b (o + 8)) h.y2
  (⟨x, h.x1, q acc, h.y1⟩, q acc, decide (q acc ≠ qRaw acc))

/-- A cascade of the first `nb` sections from `o` up: new histories, output and whether a section saturated. -/
def cascade (b : List Byte) : Nat → Nat → List SecHist → Int → List SecHist × Int × Bool
  | 0, _, hs, x => (hs, x, false)
  | _, _, [], x => ([], x, false)
  | nb + 1, o, h :: hs, x =>
    let (h1, y, t) := sectionStep b o h x
    let (r, z, t') := cascade b nb (o + 12) hs y
    (h1 :: r, z, t || t')

/-- Histories at entry to a mode: x takes the entry sample, y 0 (R341). -/
def entryHist (x : Int) (hs : List SecHist) : List SecHist := hs.map fun _ => ⟨x, x, 0, 0⟩

/-- Histories after a swap: sections beyond the count in force hold 0 (R356). -/
def cutHist (nb : Nat) (hs : List SecHist) : List SecHist := hs.take nb ++ List.replicate (hs.length - nb) .zero

/-! ## Test generator (R361) -/

/-- The sine of `ph` / 65,536 of a turn in Q1.15 with its error (R361): of the integers within 2^-14 of the exact value one, by a free
value. -/
def sine15 (ph free : Nat) : Int :=
  let v := sine40 ph
  let x := v / 2 ^ 25 + ((free % 5 : Nat) - 2 : Int)
  sat15 (if (x * 2 ^ 25 - v).natAbs ≤ 2 ^ 26 then x else v / 2 ^ 25)

/-- Order and feedback tap of the pseudo-random generator by INJ_CTRL.ORDER (R361). -/
def prbsTaps : Nat → Nat × Nat
  | 0 => (7, 6)
  | 1 => (9, 5)
  | 2 => (10, 7)
  | 3 => (11, 9)
  | _ => (15, 14)

/-- A generator as it starts: phase 0, F0 × 256, a register of ones (R361). -/
def State.injectionStart (s : State) (n : Lane) : Injection :=
  { phase := 0, f := (s.get (Reg.SVE_INJ_FREQ_F0 n) * 256 : Nat),
    shift := 2 ^ (prbsTaps (s.get (Reg.SVE_INJ_CTRL_ORDER n))).1 - 1, held := 0 }

/-- The amplitude A. -/
def State.injAmp (s : State) (n : Lane) : Int := signed 16 (s.get (Reg.SVE_INJ_CTRL_AMP n))

/-- The generator's value at this sample and its next state; `none` where a sweep has reached its end. The sine's error
within 2^-14 is a free value (log entry 23). -/
def State.generate (s : State) (n : Lane) (g : Injection) : Option (Int × Injection) :=
  let tone := q (prod 0 (s.injAmp n) (sine15 g.phase s.freeNat))
  match s.get (Reg.SVE_INJ_CTRL_WAVE n) with
  | 0 => some (tone, { g with phase := (g.phase + s.get (Reg.SVE_INJ_FREQ_F0 n)) % 65536 })
  | 1 =>
    let top : Int := (s.get (Reg.SVE_INJ_FREQ_F1 n) * 256 : Nat)
    let rate := signed 16 (s.get (Reg.SVE_INJ_SWEEP_RATE n))
    if (0 < rate ∧ top ≤ g.f) ∨ (rate < 0 ∧ g.f ≤ top) then none
    else some (tone, { g with phase := ((g.phase : Int) + g.f / 256).toNat % 65536, f := g.f + rate })
  | _ =>
    let (m, t) := prbsTaps (s.get (Reg.SVE_INJ_CTRL_ORDER n))
    let out := bit g.shift (m - 1)
    let d := if out then s.injAmp n else -(s.injAmp n)
    if g.held < s.get (Reg.SVE_INJ_CTRL_HOLD n) then some (d, { g with held := g.held + 1 })
    else
      let fb := flag (out != bit g.shift (t - 1))
      some (d, { g with held := 0, shift := (g.shift * 2 + fb) % 2 ^ m })

/-! ## Banks (R350, R356, R358, R359) -/

/-- Copy the shadow bank into the active one at a sample boundary with ARM 1 (R356). The new bank counts as the target
band's (log entry 147). -/
def State.swapBank (s : State) (n : Lane) : State :=
  if s.get (Reg.SVE_CTRL_ARM n) = 0 then s
  else
    let v := (s.lane n).sve
    let b := v.shadow
    let band := s.get (Reg.SVE_BAND_TARGET n)
    let v1 := { v with active := b, follow := cutHist (u8 b 0) v.follow, settle := cutHist (u8 b 0xA0) v.settle,
                       ma := cutHist (u8 b 0x150) v.ma }
    let s1 := ((s.setSve n v1).put (Reg.SVE_CTRL_ARM n) 0).bump (Reg.SVE_CNT_SWAP_COUNT n) 1
    let s2 := (s1.put (Reg.SVE_STATUS_BAND n) band).put (Reg.SVE_BAND_PENDING n) 0
    s2.raiseLane n 0x53 (band + flag v.loaderArm * 2 ^ 8 + flag v.sat * 2 ^ 9)

/-- The bank of lane `n` and band `b` in bank memory (R349, R354). -/
def State.bankOf (s : State) (n b : Nat) : List Byte :=
  ((s.section secServoBanks).drop (0x40 + 400 * (s.sec8 secServoBanks 0 * n + b))).take 400

/-- The lower edge of a band. -/
def State.bandEdge (s : State) (b : Nat) : Nat := s.sec16 secServoBanks (4 + 2 * b)

/-- The band that R358 reaches from `b` at speed `rpm`. -/
def State.bandFrom (s : State) (rpm : Nat) : Nat → Nat → Nat
  | 0, b => b
  | fuel + 1, b =>
    let h := s.sec16 secServoBanks 2
    if b + 1 < s.sec8 secServoBanks 0 ∧ s.bandEdge (b + 1) + h ≤ rpm then s.bandFrom rpm fuel (b + 1)
    else if 0 < b ∧ rpm + h < s.bandEdge b then s.bandFrom rpm fuel (b - 1)
    else b

/-- The band at the start of the SERVO stage (R358). -/
def State.bandStart (s : State) (rpm : Nat) : Nat :=
  (List.range (s.sec8 secServoBanks 0)).foldl (fun b k => if s.bandEdge k ≤ rpm then k else b) 0

/-- The loader copies a band's bank into the shadow bank and sets ARM (R359); PENDING tells that the target is not the active band
(R371). -/
def State.loadBand (s : State) (n : Lane) (b : Nat) : State :=
  ((s.setSve n { (s.lane n).sve with shadow := s.bankOf n.val b, loaderArm := true }).put (Reg.SVE_CTRL_ARM n) 1).put
    (Reg.SVE_BAND_PENDING n) (flag (b != s.get (Reg.SVE_STATUS_BAND n)))

/-- With AUTO = 0 a new target is shown, asked for once, and kept pending (R359). -/
def State.bandAsk (s : State) (n : Lane) (t rpm : Nat) : State :=
  if t = s.get (Reg.SVE_STATUS_BAND n) then (s.put (Reg.SVE_BAND_TARGET n) t).put (Reg.SVE_BAND_PENDING n) 0
  else if t = s.get (Reg.SVE_BAND_TARGET n) ∧ s.get (Reg.SVE_BAND_PENDING n) = 1 then s
  else ((s.put (Reg.SVE_BAND_TARGET n) t).put (Reg.SVE_BAND_PENDING n) 1).raiseLane n 0x54 (t + rpm % 2 ^ 16 * 2 ^ 16)

/-- The band that a decision starts from (R358): the active one, and while the loader's swap is awaited the one that will be. DEDUCED,
log entry 181. -/
def State.bandNow (s : State) (n : Lane) : Nat :=
  if s.get (Reg.SVE_CTRL_AUTO n) = 1 ∧ s.get (Reg.SVE_CTRL_ARM n) = 1 then s.get (Reg.SVE_BAND_TARGET n)
  else s.get (Reg.SVE_STATUS_BAND n)

/-- A band decision at speed `rpm` (R358, R359). -/
def State.bandDecide (s : State) (n : Lane) (rpm : Nat) : State :=
  let now := s.bandNow n
  let t := s.bandFrom rpm 8 now
  let s1 := s.put (Reg.SVE_BAND_SPEED n) rpm
  if s.get (Reg.SVE_CTRL_AUTO n) = 1 then
    if s.get (Reg.SVE_CTRL_ARM n) = 1 then
      s1.setSve n { (s1.lane n).sve with nextBand := if t = s.get (Reg.SVE_BAND_TARGET n) then none else some t }
    else if t = now then (s1.put (Reg.SVE_BAND_TARGET n) t).put (Reg.SVE_BAND_PENDING n) 0
    else (s1.put (Reg.SVE_BAND_TARGET n) t).loadBand n t
  else s1.bandAsk n t rpm

/-- After the swap a target decided meanwhile is taken (R359). -/
def State.nextBandLoad (s : State) (n : Lane) : State :=
  match (s.lane n).sve.nextBand with
  | none => s
  | some t =>
    if s.get (Reg.SVE_CTRL_ARM n) = 1 then s
    else
      let s1 := s.setSve n { (s.lane n).sve with nextBand := none }
      if t = s.get (Reg.SVE_STATUS_BAND n) ∨ s.get (Reg.SVE_CTRL_AUTO n) = 0 then s1
      else (s1.put (Reg.SVE_BAND_TARGET n) t).loadBand n t

/-! ## Feed-forward (R344 to R347) -/

/-- One prefilter conversion (R347). -/
def State.prefilter (s : State) (a0 a1 : Int) : State :=
  let b := s.section secServoBanks
  let x := if u8 b 1 = 1 then q ((a0 - a1) * 2 ^ 15) else sat15 a0
  if u8 b 1 = 0 then { s with shared := { s.shared with aRv := 0 } }
  else
    let (hs, y, _) := cascade b 2 0x18 s.shared.rv x
    { s with shared := ⟨hs, y⟩ }

/-- δ (R346). -/
def State.supplyDev (s : State) (v12 : Nat) : Int :=
  let nom := s.sec16 secServoBanks 0x14
  if nom = 0 then 0 else toQ15 ((((nom : Int) - v12 : Int) : Rat) / (nom : Rat))

/-- The sum of the coupling terms and the vibration term in the accumulator (R344); `own` is a_l. -/
def State.feedForward (s : State) (n : Lane) (own : Int) : Int :=
  let b := (s.lane n).sve.active
  (List.finRange 4).foldl (fun acc m =>
    acc + prod (u8 b 0x18C) (coef b (0x180 + 2 * m.val)) (if m = n then own else (s.lane m).sek.accel)) 0 +
    prod 0 (coef b 0x18A) s.shared.aRv

/-- The supply term in the accumulator (R344). -/
def supplyTerm (v : Sve) (delta : Int) : Int := prod 0 (coef v.active 0x188) (q (prod 0 delta v.u1))

/-! ## Capture (R363, R364) -/

/-- The entry of this sample, if a capture runs and its turn has come. -/
def State.captureEntry (s : State) (n : Lane) (invalid : Bool) : State :=
  let v := (s.lane n).sve
  if s.get (Reg.SVE_CAP_STATUS_RUN n) = 0 then s
  else if v.capSkip ≠ 0 then s.setSve n { v with capSkip := v.capSkip - 1 }
  else
    let sig := fun k => twos 16 (v.sig.getD k 0)
    let e := sig (s.get (Reg.SVE_CAP_CTRL_SEL_A n)) + sig (s.get (Reg.SVE_CAP_CTRL_SEL_B n)) * 2 ^ 16
    let k := s.get (Reg.SVE_CAP_STATUS_WRITTEN n)
    let total := if s.get (Reg.SVE_CAP_COUNT_COUNT n) = 0 then 8192 else s.get (Reg.SVE_CAP_COUNT_COUNT n)
    let s1 := (s.setSve n { v with capSkip := s.get (Reg.SVE_CAP_CTRL_DECIM n),
                                   capture := Sparse.set (fun _ => 0) v.capture k (BitVec.ofNat 32 e) }).put
      (Reg.SVE_CAP_STATUS_WRITTEN n) (k + 1)
    let s2 := if invalid then s1.bump (Reg.SVE_CAP_STATUS_INVALID n) 1 else s1
    if total ≤ k + 1 then
      ((s2.put (Reg.SVE_CAP_STATUS_DONE n) 1).put (Reg.SVE_CAP_STATUS_RUN n) 0).raiseLane n 0x55 (k + 1)
    else s2

/-- The trigger of an armed capture: TRIG 0 the next sample, 1 start of injection, 2 a mode change, 3 an invalid
sample. -/
def State.captureTrigger (s : State) (n : Lane) (injStarted modeChanged invalid : Bool) : State :=
  let hit : Bool := match s.get (Reg.SVE_CAP_CTRL_TRIG n) with
    | 0 => true
    | 1 => injStarted
    | 2 => modeChanged
    | _ => invalid
  if s.get (Reg.SVE_CAP_STATUS_ARMED n) = 1 ∧ hit then
    ((s.put (Reg.SVE_CAP_STATUS_ARMED n) 0).put (Reg.SVE_CAP_STATUS_RUN n) 1).setSve n { (s.lane n).sve with capSkip := 0 }
  else s

/-- Replace signal `k` of R364 as the sample used it. -/
def putSig (l : List Int) (k : Nat) (v : Int) : List Int := l.set k v

/-! ## The sample's validity (R382, R383) -/

/-- What R383 finds at a sample. -/
structure SampleCheck where
  noSam : Bool
  wedgeErr : Bool
  parityErr : Bool
  trackErr : Bool
  lowAmp : Bool
  pos : Int
  deriving DecidableEq, Repr

/-- Whether the SAM lies in its window (R380). -/
def samFound (d : Demod) : Bool := d.sam.any fun c => decide (88 ≤ c ∧ c ≤ 104)

/-- The number of a reflected Gray code of 22 bits (R378). -/
def grayNumber (g : Nat) : Nat := (List.range 22).foldl (fun x k => x.xor (g / 2 ^ k)) 0

/-- The track number that TRACK carries. -/
def trackNumber (d : Demod) : Nat := grayNumber (d.track / 4 % 2 ^ 22)

/-- The runout correction that RRO carries, in PES units. -/
def runoutOf (d : Demod) : Int := signed 16 (d.rro / 4)

/-- Whether `n` bits of a field from bit `k` up, every second one, are odd in number. -/
def oddOnes (x k n : Nat) : Bool := (List.range n).foldl (fun b i => b != bit x (k + 2 * i)) false

/-- The parity of a field of 2n bits above its two parity bits: bit 1 over the odd bits, bit 0 over the even ones (R378). -/
def fieldParity (n x : Nat) : Bool := (oddOnes x 3 n == bit x 1) && (oddOnes x 2 n == bit x 0)

/-- Whether the parity bits of TRACK and RRO hold. -/
def fieldsHold (d : Demod) : Bool := fieldParity 11 d.track && fieldParity 8 d.rro

/-- The absolute position of R382. -/
def State.position (s : State) (n : Lane) (d : Demod) : Int :=
  let k : Nat := trackNumber d
  let z : Int := if k % 2 = 0 then d.n else d.q
  let sg : Int := if k % 4 < 2 then 1 else -1
  let amp := d.n.natAbs + d.q.natAbs
  let eps : Rat := if amp = 0 then 0 else ((sg * z : Int) : Rat) / (amp : Rat)
  4096 * (Int.ofNat k) + roundAway (eps * 4096) - (if bit (s.act n 0x2E 1) 0 then runoutOf d else 0)

/-- The velocity reference of this sample: Switchback's in SEEK, 0 otherwise. -/
def State.velocityRef (s : State) (n : Lane) : Int :=
  match (s.lane n).sek.phase with
  | .seeking _ _ p => if (s.lane n).sve.mode = 1 then p.vref p.i else 0
  | _ => 0

/-- The conditions of R383; with the SAM missed no later field was read. -/
def State.checkSample (s : State) (n : Lane) (d : Demod) : SampleCheck :=
  let k := (s.lane n).sek
  let expect := (k.wedgeLast.map fun w => (w + 1) % max 1 s.wedges).getD d.wedge
  let pred := (k.pLast.map fun p => roundAway (((p + s.velocityRef n : Int) : Rat) / 4096)).getD (trackNumber d : Int)
  let low := (d.n.natAbs + d.q.natAbs) * 32768 < s.act n 0x1E 2 * s.act n 0x1C 2
  { noSam := !(samFound d), wedgeErr := samFound d && !k.fresh && d.wedge != expect, parityErr := samFound d && !(fieldsHold d),
    trackErr := samFound d && !k.fresh && decide ((s.act n 0x20 2 : Int) < ((trackNumber d : Int) - pred).natAbs),
    lowAmp := samFound d && decide low, pos := s.position n d }

/-- Whether the sample is valid. -/
def SampleCheck.ok (c : SampleCheck) : Bool := !(c.noSam || c.wedgeErr || c.parityErr || c.trackErr || c.lowAmp)

/-- The SEK counters of a sample (R403): each condition counts. -/
def State.countSample (s : State) (n : Lane) (c : SampleCheck) : State :=
  let s1 := s.bump (Reg.SEK_CNT_NO_SAM_COUNT n) (flag c.noSam)
  let s2 := s1.bump (Reg.SEK_CNT_WEDGE_ERR_COUNT n) (flag c.wedgeErr)
  let s3 := s2.bump (Reg.SEK_CNT_TRACK_ERR_COUNT n) (flag c.parityErr + flag c.trackErr)
  s3.bump (Reg.SEK_CNT_LOW_AMP_COUNT n) (flag c.lowAmp)

/-! ## Lookout's write limits (R384, R652) -/

/-- The track being written, else the targeted one. -/
def State.writeTrack (s : State) (n : Lane) : Int :=
  match (s.lane n).fmt.write with
  | some w => ((w.sectors.head?.map fun (x : WriteSector) => (pbaTrack x.pba : Int))).getD (s.lane n).sek.target
  | none => (s.lane n).sek.target

/-- The condition of R384 that holds at a sample, if any: 0 position, 1 velocity, 2 invalid sample, 3 wedge. -/
def State.writeUnsafe (s : State) (n : Lane) (valid : Bool) (pos : Int) (d : Demod) : Option Nat :=
  let e := pos - 4096 * s.writeTrack n
  if !valid then some 2
  else if s.act n 0x18 2 < e.natAbs then some 0
  else if (((s.lane n).sve.pPrev.map fun p => decide (s.act n 0x1A 2 < (pos - p).natAbs)).getD false) then some 1
  else if (s.lane n).fmt.wgate && ((s.lane n).fmt.write.map fun w => d.wedge != w.wedge).getD false then some 3
  else none

/-- The write step expects the wedge after the one at hand. -/
def State.expectNext (s : State) (n : Lane) : State :=
  match (s.lane n).fmt.write with
  | some w => s.setFmt n { (s.lane n).fmt with write := some { w with wedge := (w.wedge + 1) % max 1 s.wedges } }
  | none => s

/-- Lookout at a sample: a cut while the gate is high; else a latched cut releases when no condition holds and FMT
drives the gate low. -/
def State.lookoutSample (s : State) (n : Lane) (valid : Bool) (pos : Int) (d : Demod) (env : SampleEnv) : State :=
  let bad := s.writeUnsafe n valid pos d
  let e := if valid then sat15 (pos - 4096 * s.writeTrack n) else (s.lane n).sek.lastE
  match bad with
  | some c => if (s.lane n).fmt.wgate then (s.writeProgress n env.written).wgCut n c e else s
  | none =>
    if (s.lane n).fmt.wgate then (s.expectNext n).writeProgress n env.written
    else s.put (wgCutField n.val) 0

/-! ## The synthesizer (R122) -/

/-- An address mark was found: two in a row lock the synthesizer again. -/
def State.markFound (s : State) (n : Lane) (period : Nat) : State :=
  let m := (s.lane n).mts
  let lock : Bool := s.get (Reg.FMT_MTS_STATUS_LOCKED n) == 1 || decide (1 ≤ m.found)
  let s1 := (s.setMts n ⟨0, m.found + 1, if lock then false else m.lost, false⟩).put (Reg.FMT_MTS_STATUS_COAST n) 0
  let s2 := if lock ∧ s.get (Reg.FMT_MTS_STATUS_LOCKED n) = 0 then s1.setSek n { (s1.lane n).sek with fresh := true } else s1
  (s2.put (Reg.FMT_MTS_STATUS_LOCKED n) (flag lock)).put (Reg.FMT_MTS_STATUS_WEDGE_PERIOD n) (if lock then period else 0)

/-- Loss of media time (R122, R656): writing is cut, and what the running read has not delivered fails into
recovery. -/
def State.mediaTimeLost (s : State) (n : Lane) : State :=
  let s1 := ((s.setMts n { (s.lane n).mts with lost := true, found := 0 }).put (Reg.FMT_MTS_STATUS_LOCKED n) 0).put
    (Reg.FMT_MTS_STATUS_WEDGE_PERIOD n) 0
  let s2 := s1.wgCut n 4 (s1.lane n).sek.lastE
  match (s2.scheds[n]).head? with
  | some o =>
    if o.write then s2
    else
      let c := (s2.lane n).chan
      let left := o.blocks.filter fun (x : OpBlock) =>
        !c.delivered.contains x.pba && !c.failed.any (fun f => f.1 == x.pba) && !c.bank.any (fun b => b.pba == x.pba) &&
          !(((s2.lane n).rcv.ladder.map fun l => l.targets.contains x.pba).getD false)
      s2.addFailed n (left.map fun x => (x.pba, 8))
  | none => s2

/-- An address mark was missed (R122): the synthesizer coasts for the wedge; the third miss in a row on a loaded lane declares loss of
media time. `told`: the wedge's sample is still to come. -/
def State.markMissed (s : State) (n : Lane) (told : Bool) : State :=
  let m := (s.lane n).mts
  let s1 := (s.setMts n ⟨m.misses + 1, 0, m.lost, told⟩).put (Reg.FMT_MTS_STATUS_COAST n) 1
  if 3 ≤ m.misses + 1 ∧ !m.lost ∧ s.onDisk n then s1.mediaTimeLost n else s1

/-- ADDRESS_MARK_MISSED (R122): the mark of a wedge is not in its window. -/
def execAddressMarkMissed (n : Lane) (s : State) : Host.Outcome State Fault Refusal :=
  .next (if !s.used n ∨ (s.lane n).sek.phase = .parked then s else s.markMissed n true)

/-- The synthesizer at a sample (R122): a found mark, or a missed one that ADDRESS_MARK_MISSED has not reported already. -/
def State.markSeen (s : State) (n : Lane) (found : Bool) (period : Nat) : State :=
  if found then s.markFound n period
  else if (s.lane n).mts.told then s.setMts n { (s.lane n).mts with told := false }
  else s.markMissed n false

/-! ## One sample (R331) -/

/-- Start and stop of the generator at the sample boundary (R362); answers whether it started. -/
def State.injBoundary (s : State) (n : Lane) : State × Bool :=
  let v := (s.lane n).sve
  if v.injStop then
    (((s.setSve n { v with inj := none, injStop := false, injStart := false }).put (Reg.SVE_INJ_CTRL_RUN n) 0).raiseLane n
      0x56 0, false)
  else if v.injStart then (s.setSve n { v with inj := some (s.injectionStart n), injStart := false }, true)
  else (s, false)

/-- The generator's value d for this sample (R361): 0 outside SETTLE and FOLLOW while it runs on. -/
def State.injValue (s : State) (n : Lane) : State × Int :=
  let v := (s.lane n).sve
  match v.inj with
  | none => (s, 0)
  | some g =>
    match s.generate n g with
    | none => ((((s.setSve n { v with inj := none }).put (Reg.SVE_INJ_CTRL_RUN n) 0).raiseLane n 0x56 1).drew, 0)
    | some (d, g1) => ((s.setSve n { v with inj := some g1 }).drew, if v.mode = 2 ∨ v.mode = 3 then d else 0)

/-- The held offset applies at the first boundary with the write gate low (R348). -/
def State.offsetBoundary (s : State) (n : Lane) : State :=
  let v := (s.lane n).sve
  match v.offsetHeld with
  | some o =>
    if (s.lane n).fmt.wgate then s
    else (s.setSve n { v with offset := o, offsetHeld := none }).put (Reg.SVE_TF_OFFSET_HELD n) 0
  | none => s

/-- Hand the commands to the Motor Link (R331, R410). -/
def State.sendActuator (s : State) (n : Lane) (u uma : Int) : State :=
  { s with whl := { s.whl with acts := s.whl.acts.set n (some (u, uma)) } }

/-- SVE.OUTPUT shows what a valid sample sent (R368). -/
def State.showOutput (s : State) (n : Lane) (u uma : Int) : State :=
  (s.put (Reg.SVE_OUTPUT_U_VCM n) (twos 16 u)).put (Reg.SVE_OUTPUT_U_MA n) (twos 16 uma)

/-- SAT and FROZEN of a valid sample, and its count (R332, R342, R367, R372). -/
def State.showSat (s : State) (n : Lane) (sat frozen : Bool) : State :=
  ((s.put (Reg.SVE_STATUS_SAT n) (flag sat)).put (Reg.SVE_STATUS_FROZEN n) (flag frozen)).bump (Reg.SVE_CNT_SAT_COUNT n) (flag sat)

/-- The HOLD law: u_vcm = q(ff + sup), u_ma = 0 (R334). A valid sample gives its e and e_tf, and it alone updates SAT (R332), the
signals of R364 and SVE.OUTPUT (R368). -/
def State.holdLaw (s : State) (n : Lane) (v12 : Nat) (err : Option (Int × Int)) : State :=
  let v := (s.lane n).sve
  let own := (s.lane n).sek.accel
  let delta := s.supplyDev v12
  let t := s.feedForward n own + supplyTerm v delta
  let u := q t
  let usat := decide (u ≠ qRaw t)
  let v1 := { v with u1 := u, u2 := v.u1, uma := 0 }
  match err with
  | none =>
    (s.setSve n { v1 with sig := putSig (putSig (putSig v.sig 5 u) 6 u) 8 0 }).sendActuator n u 0
  | some (e, etf) =>
    let sig := [e, etf, 0, 0, 0, u, u, u, 0, s.shared.aRv, v.iCoil, delta, v.evf, own, 0, 0]
    ((((s.setSve n { v1 with sat := usat, sig := sig }).sendActuator n u 0).showOutput n u 0).showSat n usat v.sat)

/-- A valid sample in IDLE, in which the engine drives nothing (R334): the signals of R364 that it takes all the same. -/
def State.idleSig (s : State) (n : Lane) (v12 : Nat) (e etf : Int) : State :=
  let v := (s.lane n).sve
  s.setSve n { v with
    sig := [e, etf, 0, 0, 0, 0, v.u1, 0, v.uma, s.shared.aRv, v.iCoil, s.supplyDev v12, v.evf, (s.lane n).sek.accel, 0, 0] }

/-- The mode as the last sample left it, for the trigger of a capture at the next mode change (R363). -/
def State.modeSeen (s : State) (n : Lane) : Nat := ((((s.lane n).sve.sig.getD 14 0)) % 8).toNat

/-- The sample's mode and SAT, signal 14 of R364, and the mode of SVE.STATUS, which changes with the other fields at the end of the
sample (R367). -/
def State.showMode (s : State) (n : Lane) : State :=
  let w := (s.lane n).sve
  (s.put (Reg.SVE_STATUS_MODE n) w.mode).setSve n { w with sig := putSig w.sig 14 ((w.mode : Int) + (if w.sat then -32768 else 0)) }

/-- The signed acceleration command of a running profile at its current sample (R388, R389). -/
def State.profileAccel (s : State) (n : Lane) (period : Nat) : Int :=
  match (s.lane n).sek.phase with
  | .seeking _ _ p =>
    let a := (p.at p.i).2.2
    s.accelCommand n (if p.up then a else -a) period
  | _ => 0

/-- An invalid or late sample (R332). -/
def State.invalidSample (s : State) (n : Lane) (d : Demod) (env : SampleEnv) (injStarted : Bool) : State :=
  let v := (s.lane n).sve
  let run := min 3 (s.get (Reg.SVE_STATUS_INVALID_RUN n) + 1)
  let third := run = 3 ∧ s.get (Reg.SVE_STATUS_INVALID_RUN n) = 2 ∧ (v.mode = 1 ∨ v.mode = 2 ∨ v.mode = 3)
  let s1 := (((s.bump (Reg.SVE_CNT_INVALID_COUNT n) 1).put (Reg.SVE_STATUS_INVALID_RUN n) run).put
    (Reg.SVE_STATUS_VALID n) 0).put (Reg.SVE_STATUS_DWELL_CNT n) 0
  let k := (s1.lane n).sek
  let ph := match k.phase with
    | .seeking cm p pl => SekPhase.seeking cm p { pl with i := pl.i + 1 }
    | .loading cm _ seen => .loading cm 0 seen
    | ph => ph
  let s2 := (s1.setSve n { (s1.lane n).sve with pPrev := none }).setSek n { k with
    phase := ph, accel := s1.profileAccel n env.period, okRun := 0, wedgeLast := k.wedgeLast.map fun w => (w + 1) % max 1 s.wedges }
  let s3 :=
    if third then
      let t := (s2.raiseLane n 0x50 (d.wedge % 2 ^ 10 + v.mode * 2 ^ 16)).setMode n 4
        (signed 16 (s.get (Reg.SVE_PES_E_TF n)))
      let k := (t.lane n).sek
      match k.phase with
      | .seeking c thenPark _ =>
        ((t.setSek n { k with accel := 0 }).put (Reg.SEK_STATUS_DEFERS n) 0).setPhase n
          (if thenPark then .starting c true else .onTrack)
      | _ => t
    else s2
  let m := (s3.lane n).sve
  let s4 := if m.mode = 0 then s3
    else if m.mode = 4 then s3.holdLaw n env.v12 none
    else s3.sendActuator n m.u1 m.uma
  ((((s4.showMode n).showSek n).captureTrigger n injStarted (s.modeSeen n != m.mode) true).captureEntry n true)

/-- The law of SETTLE or FOLLOW (R337, R338, R341): the new engine, c, v and ff + sup in the accumulator. -/
def State.trackLaw (s : State) (n : Lane) (v : Sve) (entry : Bool) (x dP1 own delta : Int) :
    Sve × Int × Int × Int × Int × Bool :=
  let follow := v.mode == 3
  let o := if follow then 0 else 0xA0
  let b := v.active
  let fl := u8 b (o + 1)
  let h0 := if follow then v.follow else v.settle
  let nb := u8 b o
  let h1 := if entry then cutHist nb (entryHist x h0) else h0
  let (h2, y, sat) := cascade b nb (o + 0x10) h1 x
  let c := if nb = 0 then 0 else y
  let st := prod 0 (coef b (o + 4)) v.xPrev + prod 0 (coef b (o + 6)) v.u1 + prod 0 (coef b (o + 8)) v.u2 +
    prod 0 (coef b (o + 10)) v.iCoil
  let ffs := s.feedForward n own + supplyTerm v delta
  let i0 := if follow then v.followI else v.settleI
  let i1 :=
    if entry then (if bit fl 0 ∧ bit fl 1 then sat31 (wide v.u1 - (wide c + st + ffs)) else 0)
    else if v.sat ∨ ¬ bit fl 1 then i0 else sat31 (i0 + prod 0 (coef b (o + 2)) x)
  let acc := wide c + i1 + st + ffs + wide dP1
  let v1 := if follow then { v with follow := h2, followI := i1 } else { v with settle := h2, settleI := i1 }
  (v1, c, i1, acc, ffs, sat)

/-- The law of SEEK (R339). -/
def State.seekLaw (s : State) (n : Lane) (v : Sve) (x pos vref own delta : Int) : Sve × Int × Int × Int × Int × Bool :=
  let b := v.active
  let evf := match v.pPrev with
    | none => v.evf
    | some p => sat15 (v.evf + q (prod 0 (coef b 0x144) (sat15 ((pos - p) - vref) - v.evf)))
  let k := u8 b 0x146
  let c := q (prod k (coef b 0x140) x + prod k (coef b 0x142) evf)
  let ffs := s.feedForward n own + supplyTerm v delta
  ({ v with evf := evf }, c, 0, wide c + ffs, ffs, false)

/-- The microactuator path (R340). -/
def maPath (v : Sve) (entry : Bool) (x dP2 : Int) : Sve × Int × Bool :=
  let b := v.active
  if v.mode = 3 ∨ (v.mode = 2 ∧ bit (u8 b 0x151) 0) then
    let nb := u8 b 0x150
    let h := if entry then cutHist nb (entryHist x v.ma) else v.ma
    let (h1, y, sat) := cascade b nb 0x158 h x
    let u := sat15 ((if nb = 0 then 0 else y) + dP2)
    ({ v with ma := h1, uma := u }, u, sat)
  else ({ v with ma := [.zero, .zero], uma := 0 }, 0, false)

/-- SEK_MA_SAT (R393): raised once for a run of FOLLOW samples at an end of the range; a count that has raised it falls only at a
sample not at either end. -/
def State.countMaSat (s : State) (n : Lane) : State :=
  let v := (s.lane n).sve
  let k := (s.lane n).sek
  let most := s.act n 0x30 1
  let run := if ¬ (v.uma = 32767 ∨ v.uma = -32768) then 0
    else if v.mode = 3 then min (most + 1) (k.maSatRun + 1)
    else if most ≤ k.maSatRun then most + 1 else 0
  let s1 := s.setSek n { k with maSatRun := run }
  if run = most ∧ 0 < run ∧ v.mode = 3 then
    s1.raiseLane n 0x72 (s.get (Reg.SVE_STATUS_BAND n) + s.act n 0x30 1 * 2 ^ 8)
  else s1

/-- The law of the mode, the outputs and the status of a valid sample (R331, R337 to R343, R367 to R369). `changed`
tells that the mode changed at this sample. -/
def State.runLaw (s : State) (n : Lane) (changed : Bool) (e etf pos vref : Int) (env : SampleEnv) (d : Int) : State :=
  let v := (s.lane n).sve
  let point := s.get (Reg.SVE_INJ_CTRL_POINT n)
  let at_ := fun k => if point = k then d else 0
  let x := sat15 (etf + at_ 0)
  let own := sat15 ((s.lane n).sek.accel + at_ 3)
  let delta := s.supplyDev env.v12
  let (v1, c, i, acc, ffs, sat) :=
    if v.mode = 1 then s.seekLaw n v x pos vref own delta else s.trackLaw n v changed x (at_ 1) own delta
  let u := q acc
  let usat := decide (u ≠ qRaw acc)
  let (v2, uma, sat2) := maPath v1 changed x (at_ 2)
  let integ := if v.mode = 1 then 0 else i
  let sig := [e, etf, d, c, integ / 2 ^ 16, q ffs, u, q (acc - wide (at_ 1)), uma, s.shared.aRv, v.iCoil, delta, v1.evf, own,
    (v.mode : Int) + (if usat then -32768 else 0), 0]
  let v3 := { v2 with u1 := u, u2 := v.u1, sat := usat, xPrev := x, sig := sig }
  let s1 := ((s.setSve n v3).sendActuator n u uma).showOutput n u uma
  let s2 := (s1.showSat n usat v.sat).put (Reg.SVE_INTEG_I n) (twos 32 integ)
  let s3 := if sat ∨ sat2 then s2.put (Reg.SVE_STATUS_SECT_SAT n) 1 else s2
  s3.countMaSat n

/-- SEK's command at a valid sample (R336, R387, R394): a load counts its valid samples, a waiting seek start is
tried. Answers whether a seek started. -/
def State.sekAtSample (s : State) (n : Lane) (pos : Int) (env : SampleEnv) : State × Bool :=
  let go := fun (s : State) (c : SekCmd) (thenPark : Bool) =>
    let (t, ok) := s.tryStart n pos env.period c thenPark
    (t, ok)
  match (s.lane n).sek.phase with
  | .loading c k seen =>
    if k + 1 < 4 then (s.setPhase n (.loading c (k + 1) (seen + 1)), false)
    else
      let h := { s.hif with sata := { s.hif.sata with loads := s.hif.sata.loads + 1 } }
      go ({ s with hif := h }.setPhase n (.starting c false)) c false
  | .starting c p => go s c p
  | _ => (s, false)

/-- The end of a profile (R388): the engine settles on the target; a park's seek hands the actuator to SEK (R395). -/
def State.profileEnd (s : State) (n : Lane) (thenPark : Bool) (etf : Int) : State :=
  let s1 := s.setSek n { (s.lane n).sek with accel := 0 }
  if thenPark then (s1.setPhase n .parkDrive).setMode n 0 etf
  else (s1.setPhase n .onTrack).setMode n 2 etf

/-- The automatic transitions of R335 at a valid sample; the dwell count is kept here. -/
def State.autoTransition (s : State) (n : Lane) (etf : Int) : State :=
  let v := (s.lane n).sve
  let b := v.active
  match v.mode with
  | 1 =>
    match (s.lane n).sek.phase with
    | .seeking _ p pl => if pl.length ≤ pl.i then s.profileEnd n p etf else s
    | _ => s
  | 2 =>
    if etf.natAbs < u16 b 0x172 then
      let k := min 255 (s.get (Reg.SVE_STATUS_DWELL_CNT n) + 1)
      let s1 := s.put (Reg.SVE_STATUS_DWELL_CNT n) k
      if u8 b 0x174 ≤ k then s1.setMode n 3 etf else s1
    else s.put (Reg.SVE_STATUS_DWELL_CNT n) 0
  | 3 => if u16 b 0x170 < etf.natAbs then s.setMode n 2 etf else s
  | 4 => if (s.lane n).sek.newHead then s else s.setMode n 2 etf
  | _ => s

/-- The position error of the sample: from Switchback's reference in SEEK, else from the target track (R382, R388). -/
def State.posError (s : State) (n : Lane) (pos : Int) : Int :=
  let k := (s.lane n).sek
  match (s.lane n).sve.mode, k.phase with
  | 1, .seeking _ _ p => sat15 (pos - p.ref p.i)
  | _, _ => sat15 (pos - 4096 * (k.target : Int))

/-- A valid sample (R331). -/
def State.validSample (s : State) (n : Lane) (d : Demod) (c : SampleCheck) (env : SampleEnv) (injStarted : Bool) : State :=
  let pos := c.pos
  let mode0 := (s.lane n).sve.mode
  let s1 := ((s.put (Reg.SVE_STATUS_INVALID_RUN n) 0).put (Reg.SVE_STATUS_VALID n) 1).put (Reg.SEK_POS_LO_POS n)
    (twos 34 pos)
  let s2 := s1.put (Reg.SEK_POS_HI_POS n) (twos 34 pos / 2 ^ 32)
  let (s3, started) := s2.sekAtSample n pos env
  let s4 := if started then s3.setMode n 1 0 else s3
  let e := s4.posError n pos
  let etf := sat15 (e - (s4.lane n).sve.offset)
  let s5 := if started then s4 else s4.autoTransition n etf
  let s6 := if (s5.lane n).sve.mode = 1 then
      s5.setSek n { (s5.lane n).sek with accel := s5.profileAccel n env.period } else s5
  let mode1 := (s6.lane n).sve.mode
  let vref := s6.velocityRef n
  let (s7, dv) := s6.injValue n
  let s8 := if mode1 = 0 then s7.idleSig n env.v12 e etf
    else if mode1 = 4 then s7.holdLaw n env.v12 (some (e, etf))
    else s7.runLaw n (mode0 != mode1) e etf pos vref env dv
  let k := (s8.lane n).sek
  let near := decide ((sat15 (pos - 4096 * (k.target : Int))).natAbs ≤ s.act n 0x16 2) && mode1 != 1 && mode1 != 0
  let ph := match k.phase with
    | .seeking cm p pl => SekPhase.seeking cm p { pl with i := pl.i + 1 }
    | ph => ph
  let s8 := (s8.put (Reg.SVE_PES_E n) (twos 16 e)).put (Reg.SVE_PES_E_TF n) (twos 16 etf)
  let s9 := (s8.setSek n { k with pLast := some pos, wedgeLast := some d.wedge, fresh := false, lastE := e,
                                  okRun := if near then k.okRun + 1 else 0, phase := ph }).showSek n
  let s10 := s9.setSve n { (s9.lane n).sve with pPrev := some pos }
  let s11 := ((s10.showMode n).captureTrigger n injStarted (s.modeSeen n != mode1) false).captureEntry n false
  s11.sekNext n

/-- Ln_SGATE around the servo field (R379): high over the field and the splice on each side of it. -/
def State.servoField (s : State) (n : Lane) : State :=
  let zones := s.section secZones
  match zoneEntry zones (s.get (Reg.CHN_ACTIVE_HEAD n)) (s.get (Reg.CHN_ACTIVE_ZONE n)) with
  | some z => if s.get (Reg.CHN_ACTIVE_VALID n) = 0 then s else s.emit (.servoGate n (u32 zones (z + 8) * 7 / 100 + 64))
  | none => s

/-- A wedge of the wait of R281 goes by with PREHEAT set. -/
def State.preheatWedge (s : State) (n : Lane) : State :=
  let f := (s.lane n).fmt
  match f.write with
  | some w => if f.preheat then s.setFmt n { f with write := some { w with preheatLeft := w.preheatLeft - 1 } } else s
  | none => s

/-- SERVO_SAMPLE (R331 to R364, R378 to R393, R384, R652): the demodulator delivers the position of a wedge for the
active head of a loaded lane. -/
def execServoSample (n : Lane) (d : Demod) (e : SampleEnv) (s : State) : Host.Outcome State Fault Refusal :=
  .next <|
    if !s.used n ∨ (s.lane n).sek.phase = .parked then s
    else
      let s1 := e.acc.foldl (fun t a => t.prefilter a.1 a.2) (s.servoField n)
      let s2 := (s1.markSeen n (samFound d) e.period).retune n
      let s3 := (((s2.put (Reg.SEK_DEMOD_N n) (twos 16 d.n)).put (Reg.SEK_DEMOD_Q n) (twos 16 d.q)).put
        (Reg.SEK_WEDGE_RRO n) (d.rro / 4)).put (Reg.SEK_WEDGE_WEDGE n) d.wedge
      let c := s3.checkSample n d
      let s4 := (s3.countSample n c).lookoutSample n c.ok c.pos d e
      let s5 := ((s4.swapBank n).nextBandLoad n).offsetBoundary n
      let (s6, injStarted) := s5.injBoundary n
      let s7 := s6.preheatWedge n
      if e.late then
        (((s7.bump (Reg.SVE_CNT_LATE_COUNT n) 1).raiseLane n 0x52 (d.wedge % 2 ^ 10)).invalidSample n d e injStarted).avsUp e.floor
      else if c.ok then s7.validSample n d c e injStarted
      else s7.invalidSample n d e injStarted

/-! ## Register commands -/

/-- A write of ARM (R357): ignored while AUTO is 1. -/
def State.writeArm (s : State) (n : Lane) : State :=
  if s.get (Reg.SVE_CTRL_AUTO n) = 1 then s
  else (s.setSve n { (s.lane n).sve with loaderArm := false }).put (Reg.SVE_CTRL_ARM n) 1

/-- A write of SVE.TF_OFFSET (R348, R370): values beyond ±1,024 are not stored (R10). -/
def State.writeOffset (s : State) (n : Lane) (v : Nat) : State :=
  let o := signed 16 v
  if o < -1024 ∨ 1024 < o then s
  else s.takeOffset n o

/-- A start of the generator (R362): refused with ERR where a sweep does not lead from F0 to F1. -/
def State.injRequest (s : State) (n : Lane) : State :=
  let rate := signed 16 (s.get (Reg.SVE_INJ_SWEEP_RATE n))
  let f0 := s.get (Reg.SVE_INJ_FREQ_F0 n)
  let f1 := s.get (Reg.SVE_INJ_FREQ_F1 n)
  if s.get (Reg.SVE_INJ_CTRL_WAVE n) = 1 ∧ ¬ ((0 < rate ∧ f0 < f1) ∨ (rate < 0 ∧ f1 < f0)) then
    s.put (Reg.SVE_INJ_CTRL_ERR n) 1
  else ((s.setSve n { (s.lane n).sve with injStart := true }).put (Reg.SVE_INJ_CTRL_RUN n) 1).put
    (Reg.SVE_INJ_CTRL_ERR n) 0

/-- A write of SVE.INJ_CTRL (R362, R373): while RUN is 1 only STOP acts. -/
def State.writeInjCtrl (s : State) (n : Lane) (v : Nat) : State :=
  if s.get (Reg.SVE_INJ_CTRL_RUN n) = 1 then
    if bit v 30 then s.setSve n { (s.lane n).sve with injStop := true } else s
  else
    let s1 := s.storeRw (Reg.SVE_INJ_CTRL_RUN n).off v
    if bit v 31 ∧ ¬ bit v 30 then s1.injRequest n else s1

/-- A write of SVE.CAP_CTRL (R363, R375). -/
def State.writeCapCtrl (s : State) (n : Lane) (v : Nat) : State :=
  if s.get (Reg.SVE_CAP_STATUS_RUN n) = 1 ∨ s.get (Reg.SVE_CAP_STATUS_ARMED n) = 1 then
    if bit v 30 then (s.put (Reg.SVE_CAP_STATUS_RUN n) 0).put (Reg.SVE_CAP_STATUS_ARMED n) 0 else s
  else
    let s1 := s.storeRw (Reg.SVE_CAP_CTRL_TRIG n).off v
    if bit v 31 ∧ ¬ bit v 30 then
      ((s1.put (Reg.SVE_CAP_STATUS_ARMED n) 1).put (Reg.SVE_CAP_STATUS_WRITTEN n) 0).put (Reg.SVE_CAP_STATUS_INVALID n) 0
    else s1

end Sys2Proof.Machine
end

