-- ==== Sys2Proof/Machine/Slots.lean ====
section
/-! DEFINITION. Command slots (R525, R531): finding and changing a command, its end with a status in native mode (R550) and
with ATA registers in compatibility mode (R609 to R611), the Critical Warning (R545). -/

namespace Sys2Proof.Machine

/-! ## Slots -/

/-- A port replaced. -/
def State.setPort (s : State) (p : Port) (x : PortState) : State := s.setHif { s.hif with ports := s.hif.ports.set p x }
/-- The SATA device replaced. -/
def State.setSata (s : State) (x : Sata) : State := s.setHif { s.hif with sata := x }
/-- CACHE replaced. -/
def State.setCache (s : State) (c : Cache) : State := { s with cache := c }

/-- The command with a fetch sequence number. -/
def State.cmd (s : State) (seq : Nat) : Option Command := s.hif.cmds.find? (·.seq == seq)

/-- Change the command with a sequence number. -/
def State.mapCmd (s : State) (seq : Nat) (f : Command → Command) : State :=
  s.setHif { s.hif with cmds := s.hif.cmds.map fun c => if c.seq = seq then f c else c }

/-- Take a command out of its slot. -/
def State.dropCmd (s : State) (seq : Nat) : State :=
  s.setHif { s.hif with cmds := s.hif.cmds.filter (·.seq != seq) }

/-- Whether a command belongs to compatibility mode. -/
def Command.isAta (c : Command) : Bool := c.sq == 0xFFFF

/-- Whether a command's result is final. -/
def Command.ended (c : Command) : Bool :=
  match c.phase with
  | .committed _ _ => true
  | _ => false

/-- Fetch order modulo 2^48 (R566). -/
def fetchedBefore (a b : Nat) : Bool :=
  let d := (b + 2 ^ 48 - a) % 2 ^ 48
  decide (0 < d) && decide (d < 2 ^ 47)

/-! ## Compatibility-mode completion -/

/-- ATA Status and Error registers of an NVMe-style status (R611). -/
def ataResult (status : Nat) : Nat × Nat :=
  match status with
  | 0x000 => (0x50, 0x00)
  | 0x281 => (0x51, 0x40)
  | 0x7C2 => (0x51, 0x40)
  | 0x080 => (0x51, 0x10)
  | 0x280 => (0x71, 0x04)
  | 0x7C3 => (0x71, 0x04)
  | 0x7C4 => (0x71, 0x04)
  | 0x004 => (0x51, 0x84)
  | _ => (0x51, 0x04)

/-- Whether an ATA command is queued (R610). -/
def Command.queuedAta (c : Command) : Bool := c.isAta && (c.ata.1 == 0x60 || c.ata.1 == 0x61)

/-- Whether it is a PIO data-in command, whose final status comes in the last PIO Setup FIS (R609). -/
def Command.pioIn (c : Command) : Bool :=
  [0x20, 0x24, 0x2F, 0xEC].contains c.ata.1 ||
    (c.ata.1 == 0xB0 && [0xD0, 0xD1, 0xD5].contains c.ata.2) ||
    (c.ata.1 == 0xFA && [0x01, 0x02, 0x03, 0x80].contains c.ata.2)

/-- HIF.SATA.TAGS follows the outstanding queued commands (R624). -/
def State.showTags (s : State) : State :=
  let k := (s.hif.cmds.filter fun c => c.queuedAta).length
  s.put Reg.HIF_SATA_TAGS (if k = 32 then 0 else k)

/-- An entry of the ATA error log: opcode, status, error, LBA, operating hours. -/
def State.ataError (s : State) (c : Command) (st err lba : Nat) : State :=
  let x := s.hif.sata
  let e := leBytes 1 c.ata.1 ++ leBytes 1 st ++ leBytes 1 err ++ leBytes 6 lba ++ leBytes 4 (s.crn.opTime / 3600000)
  s.setSata { x with errorLog := (e :: x.errorLog).take 5, errorCount := x.errorCount + 1 }

/-- A queued command fails (R610): Set Device Bits with ERR, every other outstanding tag is aborted, log 0x10 holds the
failure and locks the queue. -/
def State.ncqFail (s : State) (c : Command) (st err : Nat) : State :=
  let x := s.hif.sata
  let s1 := (s.setSata { x with ncqError := some (c.cid, st, err, c.errLba) }).put Reg.HIF_SATA_NCQ_LOCK 1
  let s2 := s1.setHif { s1.hif with cmds := s1.hif.cmds.filter fun d => !d.queuedAta }
  ((s2.emit (.setBitsFis st err [c.cid])).showTags).raise 0x522
    (c.cid % 32 + err * 2 ^ 8 + c.errLba % 2 ^ 32 * 2 ^ 16)

/-- A stretch of logical sectors scaled to another sector size (R613): blocks take in every sector they touch. -/
def scaleRange (to4k : Bool) (x : Nat × Nat × Nat) : Nat × Nat × Nat :=
  if to4k then (x.1, x.2.1 / 8, ceilDiv (x.2.1 + x.2.2) 8 - x.2.1 / 8) else (x.1, x.2.1 * 8, x.2.2 * 8)

/-- SET SECTOR FORMAT applies the size and saves it (R613, R618): data is kept, LBAs scale by 8. -/
def State.applyFormat (s : State) (is4k : Bool) : State :=
  let same : Bool := s.get Reg.HIF_SATA_SECTOR_4KN == flag is4k
  let c := s.cache
  let l := if same then c.wunc else c.wunc.map (scaleRange is4k)
  (s.setCache { c with wunc := l, saved := { c.saved with format4k := some is4k, wunc := l } }).put Reg.HIF_SATA_SECTOR_4KN
    (flag is4k)

/-- First LBA. -/
def Command.slba (c : Command) : Nat := c.cdw.getD 0 0 + c.cdw.getD 1 0 * 2 ^ 32

/-- The LBA an ended ATA command reports: its first failing sector, the first of all where the device or the window refused the
command as a whole (R611). -/
def Command.failLba (c : Command) (status : Nat) : Nat :=
  if c.error = 0 ∧ c.opcode ≠ 0xFF ∧ (status = 0x7C1 ∨ status = 0x7C3 ∨ status = 0x7C4) then c.slba else c.errLba

/-- An ATA command ends with a status (R609 to R611); `dw0` is what the Count register returns. -/
def State.ataFinish (s : State) (d : Command) (status dw0 : Nat) : State :=
  let c := { d with errLba := d.failLba status }
  let (st, err) := ataResult status
  let s0 := if status = 0 ∧ c.ata = (0xFA, 0x10) then s.applyFormat (c.dw0 == 1) else s
  let s1 := (s0.dropCmd c.seq).showTags
  let s2 := if status = 0 then s1 else s1.ataError c st err c.errLba
  if c.queuedAta then
    if status = 0 then s2.emit (.setBitsFis 0x40 0 [c.cid]) else s2.ncqFail c st err
  else if status = 0 ∧ c.pioIn then s2.emit (.pioSetupFis st err)
  else s2.emit (.registerFis st err dw0 (if status = 0 then c.cdw.headD 0 else c.errLba))

/-! ## Completion (R531) -/

/-- An Error Information entry (R545), newest first, 64 held. -/
def State.logError (s : State) (c : Command) (status : Nat) : State :=
  let k := s.ctl c.port
  let e : ErrorEntry := ⟨k.errorCount + 1, c.sq, c.cid, status, c.errLba, c.nsid⟩
  s.setCtl c.port { k with errors := (e :: k.errors).take 64, errorCount := k.errorCount + 1 }

/-- The `sq` of a write that outlived its controller's reset (R71): it commits and posts nothing. -/
def sqKept : Nat := 0xFFFD
/-- The `sq` of an admin command tunnelled over the sideband (R709). -/
def sqTunnel : Nat := 0xFFFE

/-- Statuses with Do Not Retry clear (R550). -/
def retryable (status : Nat) : Bool :=
  [0x000, 0x004, 0x01D, 0x082, 0x084, 0x11D, 0x280, 0x281, 0x7C1, 0x7C4].contains status

/-- The 15-bit Status Field of a completion entry: SC, SCT, DNR. -/
def statusField (status : Nat) : Nat := status % 2 ^ 11 + flag (!retryable status) * 2 ^ 14

/-- A command's result becomes final: RUNNING to COMMITTED, once (R531): it goes behind the commands committed before, or
ends as the ATA device, a tunnelled command or a reset's leftover does. -/
def State.finish (s : State) (seq status dw0 : Nat) : State :=
  match s.cmd seq with
  | none => s
  | some c =>
    if c.ended then s
    else if c.isAta then s.ataFinish c status dw0
    else if c.sq = sqKept then s.dropCmd seq
    else if c.sq = sqTunnel then
      (s.dropCmd seq).emit (.miResponse 0 (leBytes 4 dw0 ++ zeros 4 ++ leBytes 4 (c.cid + statusField status * 2 ^ 17)))
    else
      let t := s.dropCmd seq
      let s1 := t.setHif { t.hif with cmds := t.hif.cmds ++ [{ c with phase := .committed status dw0 }] }
      if status = 0 then s1 else s1.logError c status

/-! ## Critical Warning (R545, R640, R641) -/

/-- The composite channel's reading in 0.1 °C. -/
def State.compositeTemp (s : State) : Int :=
  signed 16 (s.get (Reg.KLN_TEMP_READING (s.sec8 secThermal 1)))

/-- 0.1 °C in kelvin, rounded to the nearest integer with ties upward (R640). -/
def kelvin (t : Int) : Nat := ((t * 10 + 27315 + 50) / 100).toNat

/-- A Cone threshold of the composite channel, in kelvin. -/
def State.coneKelvin (s : State) (k : Nat) : Nat :=
  let o := 0x20 + 32 * s.sec8 secThermal 1
  kelvin (signed 16 (s.sec16 secThermal (o + 0x10 + 2 * (k - 1))))

/-- The over-temperature threshold of a controller in kelvin (R641). -/
def State.tempThreshold (s : State) (p : Port) : Nat := ((s.ctl p).tempThr.map (·.toNat)).getD (s.coneKelvin 1)

/-- Whether a boot code says the lane failed (R113). -/
def State.laneFailed (s : State) (n : Nat) : Bool := decide (8 ≤ s.get ⟨0x3001C, 4 * n + 3, 4 * n⟩)

/-- Whether a buffer group is in shard mode or lost (R476). -/
def State.shardAny (s : State) : Bool :=
  (List.range 4).any fun g =>
    let v := s.get ⟨0x40004, 4 * g + 3, 4 * g⟩
    decide (8 ≤ v) && v != 0xE

/-- Available Spare (R545, R594): the lowest percentage, over the used lanes, of spare media sectors left; 0 for a lane whose
grown-defect list is full. -/
def State.availableSpare (s : State) : Nat :=
  ((List.range 4).filter s.used).foldl (fun m n =>
    let all := s.laneSpares n
    let l := (s.laneAt n).rcv
    min m (if all = 0 ∨ 1048576 ≤ l.grown.length then 0 else 100 * (all - l.sparesUsed) / all)) 100

/-- Critical Warning of a controller (R545): bit 0 spare below the threshold, bit 1 the composite reading,
once there is one (R628, R641), bit 2 reliability. -/
def State.criticalWarning (s : State) (p : Port) : Nat :=
  let temp : Bool := s.get (Reg.KLN_PEAK_MAX (s.sec8 secThermal 1)) != 0x8000 &&
    decide (s.tempThreshold p ≤ kelvin s.compositeTemp)
  let rel := ((List.range 4).any fun n => s.used n && s.laneFailed n) || s.shardAny || s.crn.bothFail
  flag (decide (s.availableSpare < 10)) + flag temp * 2 + flag rel * 4

/-- Report the Critical Warning bits that have become set (R549). -/
def State.critCheck (s : State) : State :=
  (List.finRange 2).foldl (fun s p =>
    let now := s.criticalWarning p
    let old := (s.ctl p).critical
    let s1 := s.setCtl p { s.ctl p with critical := now }
    let s2 := if bit now 2 ∧ ¬ bit old 2 then s1.asyncEvent p 1 0 else s1
    if bit now 1 ∧ ¬ bit old 1 then s2.asyncEvent p 1 1 else s2) s

end Sys2Proof.Machine
end

