-- ==== Sys2Proof/Machine/Wheel.lean ====
section
/-! DEFINITION. The shared operations of Wheel and Kiln (chapters 12 and 18): the bridge, SAFE_STOP_N, the target speed,
start attempts, closed-loop commutation, and the states of the Cone 3 shutdown. -/

namespace Sys2Proof.Machine

/-! ## Reading the state -/

/-- WHL.STATUS.STATE (R436). -/
def State.whlState (s : State) : Nat := s.get Reg.WHL_STATUS_STATE

/-- Whether every used lane's SEK reports parked. -/
def State.allParked (s : State) : Bool :=
  (List.finRange 4).all fun n => !s.used n.val || decide ((s.lane n).sek.phase = .parked)

/-- Whether Wheel has taken over the Motor Link (R53). -/
def State.motorTaken (s : State) : Bool := s.pins.taken.contains .motor

/-- Wheel's record replaced. -/
def State.setWhl (s : State) (w : Wheel) : State := { s with whl := w }

/-- A 16-bit SPINDLE field. -/
def State.spin16 (s : State) (o : Nat) : Nat := s.sec16 secSpindle o

/-- POLE_PAIRS. -/
def State.polePairs (s : State) : Nat := s.sec8 secSpindle 0

/-- 5 ns units in a second. -/
def secondUnits : Nat := 200000000

/-- THERMAL in force (R632): the ROM defaults of the grade in the hold state and before the image is chosen. -/
def State.thermal (s : State) : List Byte :=
  if s.held ∨ !s.hasSection secThermal then romThermal s.fuses.gradeX else s.section secThermal

/-- SAFETY in force (R665). -/
def State.safety (s : State) : List Byte := if s.held then romSafety else s.section secSafety

/-! ## SAFE_STOP_N (R411, R413) -/

/-- Put SAFE_STOP_N where its holders have it. -/
def State.driveSafeStop (s : State) : State :=
  { s with pins := { s.pins with safeStopN := s.motorTaken && s.whl.holders.isEmpty } }

/-- A holder asserts SAFE_STOP_N; the motor power device floats the phases (R413), so the spindle is in its hard stop. -/
def State.assertSafeStop (s : State) (h : StopHolder) : State :=
  (s.setWhl { s.whl with holders := s.whl.holders.insert h }).driveSafeStop

/-- A holder releases SAFE_STOP_N. -/
def State.releaseSafeStop (s : State) (h : StopHolder) : State :=
  (s.setWhl { s.whl with holders := s.whl.holders.erase h }).driveSafeStop

/-! ## The bridge and leaving closed loop -/

/-- Wheel sets a bridge mode; a change to RECTIFY, BRAKE or OFF goes out first (R410). -/
def State.setBridge (s : State) (m : BridgeMode) : State :=
  if s.whl.mode = m then s
  else s.setWhl { s.whl with mode := m, modePending := decide (m ≠ .run) }

/-- Commutation leaves closed loop: s is 0, AT_SPEED and SLEW fall without an event (R421, R424). -/
def State.leaveClosed (s : State) : State :=
  let w := { s.whl with intervals := [], speeds := [], confirm := 0, lastZc := none, lastZcGap := none, missing := 0,
                        rampStart := none, due := none }
  (((s.setWhl w).put Reg.WHL_SPEED_S 0).put Reg.WHL_STATUS_AT_SPEED 0).put
    Reg.WHL_STATUS_SLEW 0

/-- Enter a state with the bridge off. -/
def State.wheelOff (s : State) (code : Nat) : State :=
  ((s.leaveClosed).setBridge .off).put Reg.WHL_STATUS_STATE code

/-- Show r (R437). -/
def State.showRef (s : State) : State := s.put Reg.WHL_SPEED_REF (s.whl.r.floor.toNat)

/-! ## The target (R430) -/

/-- The speed wanted before the Cone 2 cap (R430). -/
def State.wantedRpm (s : State) : Nat :=
  if s.boot.compat ∨ s.stage ≤ 6 then s.spin16 4
  else if s.get Reg.WHL_OVERRIDE_EN = 1 then s.get Reg.WHL_OVERRIDE_RPM
  else s.whl.policy

/-- T by R430: NOMINAL_RPM in compatibility mode and in the SPINDLE stage, else the override or P, under the Cone 2
cap. -/
def State.targetRpm (s : State) : Nat :=
  if !s.boot.compat ∧ s.get Reg.KLN_STATUS_CONE2 = 1 then min s.wantedRpm (u16 s.thermal 4) else s.wantedRpm

/-- T follows R430; r starts to move where it no longer equals T once AT_SPEED has been set in this start (R423). Outside closed loop
r does not move. -/
def State.retarget (s : State) : State :=
  let t := s.targetRpm
  let cone2 := s.get Reg.KLN_STATUS_CONE2 == 1 && !s.boot.compat
  let capped := cone2 && decide (u16 s.thermal 4 < s.wantedRpm)
  let s1 := (((s.put Reg.WHL_STATUS_CAP (flag capped)).put Reg.WHL_STATUS_OVR
    (flag (s.get Reg.WHL_OVERRIDE_EN == 1 && !s.boot.compat && decide (7 ≤ s.stage)))).put Reg.WHL_TARGET_CAP_RPM
    (if cone2 then u16 s.thermal 4 else 0))
  if s.get Reg.WHL_TARGET_T = t then s1
  else
    let s2 := s1.put Reg.WHL_TARGET_T t
    if !s2.whl.atSpeedSeen then (s2.setWhl { s2.whl with r := (t : Rat) }).showRef
    else if s2.whl.r = (t : Rat) ∨ s.whlState ≠ 4 then s2
    else s2.raise 0x7C2 (t + s.get Reg.WHL_SPEED_S * 2 ^ 16 + 2 ^ 32)

/-! ## Kiln's shutdown states (R637, R638) -/

/-- KLN.STATUS.SHUT_STATE: 0 NORMAL, 1 ORDERLY, 2 HARD, 3 COOLING, 4 RESTARTING. -/
def State.shutState (s : State) : Nat := s.get Reg.KLN_STATUS_SHUT_STATE

/-- Enter a shutdown state, raising KLN_SHUTDOWN. -/
def State.enterShut (s : State) (st : Nat) : State :=
  (s.put Reg.KLN_STATUS_SHUT_STATE st).raise 0x7D5 (st + s.kln.cone3Ch * 2 ^ 4 + twos 16 s.kln.cone3Reading * 2 ^ 16)

/-- RESTART_HOLD_S in ms (R629: 0 selects 60). -/
def State.holdTime (s : State) : Nat :=
  let h := u16 s.thermal 0x10
  (if h = 0 then 60 else h) * 1000

/-- The hold starts from zero. -/
def State.startHold (s : State) : State :=
  { s with kln := { s.kln with holdMs := s.holdTime } }.put Reg.KLN_HOLD_LEFT_S (ceilDiv s.holdTime 1000)

/-- Enter COOLING (R638 step 3). -/
def State.enterCooling (s : State) : State := (s.enterShut 3).startHold

/-- The orderly stop is complete when every used lane is parked and Wheel has set MODE OFF (R638 step 1). -/
def State.orderlyCheck (s : State) : State :=
  if s.shutState = 1 ∧ s.allParked ∧ s.whl.mode = .off then s.enterCooling else s

/-! ## Starting (R416, R417) -/

/-- The lane boot code of a lane (R113). -/
def laneBootField (n : Nat) : Fld := ⟨0x3001C, 4 * n + 3, 4 * n⟩

/-- Set the boot code of the lanes of a mask. -/
def State.setLaneBoot (s : State) (mask code : Nat) : State :=
  (List.range 4).foldl (fun s n => if bit mask n then s.put (laneBootField n) code else s) s

/-- Begin a start attempt with the sense step (R416). While SAFE_STOP_N is held the attempt waits in it. -/
def State.senseStart (s : State) (attempt : Nat) : State :=
  let s1 := (s.wheelOff 1).put Reg.WHL_STATUS_ATTEMPT attempt
  let s2 := s1.setWhl { s1.whl with starting := true, attempt := attempt, seen := false, atSpeedSeen := false,
                                    faultOff := false }
  let s3 := s2.retarget
  (s3.setWhl { s3.whl with r := (s3.get Reg.WHL_TARGET_T : Rat) }).showRef

/-- A new start of the spindle (R416) while a stop may be wanted. -/
def State.newStart (s : State) : State :=
  (s.setSata { s.hif.sata with starts := s.hif.sata.starts + 1, startAt := s.crn.elapsed }).senseStart 1

/-- A new start of the spindle (R416), which no stop waits for. -/
def State.spindleStart (s : State) : State := (s.setWhl { s.whl with stopWanted := false }).newStart

/-- The start has failed (R417): START_FAILED, R107, and in RESTARTING Kiln goes back to COOLING (R638). -/
def State.startFailed (s : State) : State :=
  let s1 := (s.wheelOff 8)
  let s2 := s1.setWhl { s1.whl with starting := false }
  let m := s2.usedMask
  let s3 := ((s2.setLaneBoot m 8).raise 0x017 (m + 8 * 2 ^ 8)).critCheck
  if s3.shutState = 4 then { s3 with kln := { s3.kln with toLock := [] } }.enterCooling else s3

/-- A start attempt fails (R417) with a reason: 0 no hand-off, 1 SPINUP_S, 2 motor fault, 3 link down. -/
def State.attemptFail (s : State) (reason : Nat) : State :=
  let s1 := ((s.bump Reg.WHL_CNT_START_FAIL_COUNT 1).raise 0x7C1 (s.whl.attempt % 8 + reason * 2 ^ 8)).wheelOff 0
  if reason = 1 ∨ s.sec8 secSpindle 1 ≤ s.whl.attempt then s1.startFailed
  else if reason = 2 then s1.setWhl { s1.whl with faultOff := true }
  else if reason = 3 then s1.put Reg.WHL_STATUS_STATE 7
  else s1.senseStart (s.whl.attempt + 1)

/-- The next attempt of a start that waited, or a new start (R411, R414). -/
def State.startAgain (s : State) : State :=
  if s.whl.starting then s.senseStart (s.whl.attempt + 1) else s.spindleStart

/-! ## Closed loop (R418 to R425) -/

/-- The previous commutation interval (R418); of a rotor caught in the sense step, the interval of its crossings. -/
def Wheel.lastInterval (w : Wheel) : Nat := ((w.intervals.head?).getD (w.lastZcGap.getD 0))

/-- A crossing at `t` in closed loop (R418): the next step is due DELAY electrical degrees after it, of the 60 of the previous commutation
interval. -/
def State.crossed (s : State) (t : Nat) : State :=
  s.setWhl { s.whl with missing := 0, lastZc := some t, due := some (t + s.sec8 secSpindle 0x18 * s.whl.lastInterval / 60) }

/-- Closed-loop commutation begins at a crossing (R416 steps 1 and 4, R422). -/
def State.closeLoop (s : State) (time : Nat) : State :=
  let last := if s.whlState = 3 then s.whl.lastStep else time
  let s1 := (s.put Reg.WHL_STATUS_STATE 4).setBridge .run
  (s1.setWhl { s1.whl with integ := 0, confirm := 0, lastStep := last, rampStart := none }).crossed time

/-- The spindle reaches its target for the first time in a start (R423, R102 step 8): in the SPINDLE stage the SERVO stage
begins, and each lane's first band is chosen (R358). -/
def State.spindleUp (s : State) (rpm : Nat) : State :=
  let s0 := s.setSata { s.hif.sata with spinUpMs := s.crn.elapsed - s.hif.sata.startAt }
  let s1 := s0.setWhl { s0.whl with starting := false, atSpeedSeen := true }
  if s1.stage = 6 then
    let s2 := s1.put Reg.IMG_BOOT_STATUS_STAGE 7
    ((List.finRange 4).foldl (fun s n =>
      if s.used n.val then
        let b := s.bandStart rpm
        let t := (s.put (laneBootField n.val) 2).put (Reg.SVE_BAND_SPEED n) rpm
        if t.get (Reg.SVE_CTRL_AUTO n) = 1 then (t.put (Reg.SVE_BAND_TARGET n) b).loadBand n b else t.bandAsk n b rpm
      else s) s2).retarget
  else s1

/-- AT_SPEED follows R424 at a commutation. -/
def State.atSpeedCheck (s : State) (rpm : Nat) : State :=
  let d : Rat := (rpm : Rat) - s.whl.r
  let a : Rat := if d < 0 then -d else d
  let tol : Rat := (s.spin16 0x2E : Nat)
  if s.get Reg.WHL_STATUS_AT_SPEED = 0 then
    if a ≤ tol then
      let s1 := (s.put Reg.WHL_STATUS_AT_SPEED 1).raise 0x7C0 rpm
      if s1.whl.atSpeedSeen then s1 else s1.spindleUp rpm
    else s
  else if tol * 2 < a then
    (s.put Reg.WHL_STATUS_AT_SPEED 0).raise 0x7C6 (rpm % 2 ^ 16 + s.whl.r.floor.toNat % 2 ^ 16 * 2 ^ 16)
  else s

/-- r moves toward T at RAMP_RPM_S over an interval of `dt` (R423); WHL_RAMP when it arrives (R430). -/
def State.moveRef (s : State) (dt : Nat) : State :=
  let t : Rat := (s.get Reg.WHL_TARGET_T : Nat)
  if !s.whl.atSpeedSeen then (s.setWhl { s.whl with r := t }).showRef
  else if s.whl.r = t then s
  else
    let d : Rat := (s.spin16 0x2C * dt : Nat) / (secondUnits : Nat)
    let r := if s.whl.r < t then min t (s.whl.r + d) else max t (s.whl.r - d)
    let s1 := (s.setWhl { s.whl with r := r }).showRef
    if r = t then s1.raise 0x7C2 (s.get Reg.WHL_TARGET_T + s.get Reg.WHL_SPEED_S * 2 ^ 16) else s1

/-- The speed loop (R422). -/
def State.speedLoop (s : State) (rpm dt : Nat) : State :=
  let err : Rat := s.whl.r - (rpm : Rat)
  let kp : Rat := (s.sec32 secSpindle 0x20 : Nat) / (4294967296 : Nat)
  let ki : Rat := (s.sec32 secSpindle 0x24 : Nat) / (16777216 : Nat)
  let kd : Rat := (s.sec32 secSpindle 0x28 : Nat) / (4294967296 : Nat)
  let u := kp * err + s.whl.integ + kd * s.whl.r
  let top : Rat := (s.spin16 0x1A : Nat) / (32768 : Nat)
  let iref := max (-top) (min top u)
  let sec : Rat := (dt : Nat) / (secondUnits : Nat)
  let i := if u = iref ∨ (err < 0 ∧ 0 < u) ∨ (0 < err ∧ u < 0) then s.whl.integ + ki * err * sec else s.whl.integ
  (s.setWhl { s.whl with integ := i }).put Reg.WHL_DRIVE_IREF (twos 16 (toQ15 iref))

/-- The speed estimate over one revolution (R421); 0 before a whole revolution has been commutated. -/
def State.speedEstimate (s : State) (ivs : List Nat) : Nat :=
  let sum := ivs.foldl (· + ·) 0
  if ivs.length < 6 * s.polePairs ∨ sum = 0 then 0 else (60 * secondUnits * 2 + sum) / (2 * sum)

/-- SLEW (R425): the change over one revolution exceeds 250 rpm/s. -/
def State.slewCheck (s : State) (rpm : Nat) (ivs : List Nat) : State :=
  let sum := ivs.foldl (· + ·) 0
  match s.whl.speeds[6 * s.polePairs - 1]? with
  | none => s
  | some p =>
    let d := if p ≤ rpm then rpm - p else p - rpm
    s.put Reg.WHL_STATUS_SLEW (flag (decide (0 < sum ∧ p ≠ 0 ∧ 250 * sum < d * secondUnits)))

/-- One commutation step at `time` (R418, R421 to R425, R358). -/
def State.commutate (s : State) (time : Nat) : State :=
  let w := s.whl
  let dt := time - w.lastStep
  let keep := 6 * s.polePairs
  let ivs := (dt :: w.intervals).take keep
  let w1 := { w with step := (w.step + 1) % 6, lastStep := time, intervals := ivs, due := none }
  if s.whlState = 4 then
    let rpm := s.speedEstimate ivs
    let s1 := ((s.setWhl w1).put Reg.WHL_SPEED_S rpm).slewCheck rpm ivs
    let s2 := s1.setWhl { s1.whl with speeds := (rpm :: s1.whl.speeds).take keep }
    let s3 := ((s2.moveRef dt).speedLoop rpm dt).atSpeedCheck rpm
    if 7 ≤ s3.stage ∧ rpm ≠ 0 then
      (List.finRange 4).foldl (fun s n => if s.used n.val then s.bandDecide n rpm else s) s3
    else s3
  else s.setWhl { w1 with confirm := if w.seen then w.confirm else 0, seen := false }

end Sys2Proof.Machine
end

