-- ==== Sys2Proof/Machine/Lookout.lean ====
section
/-! DEFINITION. Lookout (chapter 19): the safe states of R649 as shared operations, and the commands of its monitors. -/

namespace Sys2Proof.Machine

/-- Lookout's record replaced. -/
def State.setLko (s : State) (l : Lookout) : State := { s with lko := l }

/-- LKO.STATUS.DEV_STATE: 0 none, 2 DEVICE_STOP, 3 SUPPLY, 4 HARD. -/
def State.devState (s : State) : Nat := s.get Reg.LKO_STATUS_DEV_STATE

/-- The LANE_OUT bit of a lane (R669). -/
def laneOutField (n : Nat) : Fld := ⟨0xA0000, 20 + n, 20 + n⟩

/-- Whether a lane is out of service (R659, R749). -/
def State.laneOut (s : State) (n : Nat) : Bool := s.get (laneOutField n) == 1

/-- Whether a lane's heads are off the ramp. -/
def State.loaded (s : State) (n : Lane) : Bool := decide ((s.lane n).sek.phase ≠ .parked)

/-- Every Lookout fault starts a Cairn flush (R650, R684). -/
def State.faultFlush (s : State) : State :=
  s.startFlush

/-- LANE_RETRACT on one lane without its event (R649): the latched gate cut, the emergency retract, the privileged Lookout
source, and the lane out of service. -/
def State.retractLane (s : State) (n : Lane) (supply : Bool) : State :=
  (((s.latchCut n).retract n supply).put (laneOutField n.val) 1).assertPriv n .lookout

/-- LANE_RETRACT for a lane's own cause: 3 runaway, 4 media time, 5 LSn hang (R649, R668, R670). -/
def State.laneRetract (s : State) (n : Lane) (cause : Nat) : State :=
  let s1 := (s.retractLane n false).put (Reg.LKO_LANE_CAUSE n) cause
  let s2 := if cause = 5 then s1.setLko { s1.lko with barred := s1.lko.barred.insert n.val } else s1
  (s2.raise 0x7E1 (n.val + cause * 2 ^ 4)).faultFlush

/-- A device-wide safe state retracts every loaded lane. -/
def State.retractAll (s : State) (supply : Bool) : State :=
  (List.finRange 4).foldl (fun s n => if s.loaded n then s.retractLane n supply
    else if s.used n.val then s.assertPriv n .lookout else s) s

/-- Whether a condition of R660 holds, which lasts to the next rise of POR_N: the device is fatal, or the spindle ran
over its limit. -/
def State.stopLasts (s : State) : Bool := s.lko.fatal || s.lko.tripPeriod.isSome

/-- A hang of HS, BS or KS makes the device fatal (R660): CSTS.CFS, or in compatibility mode every outstanding command
ends with ERR and DF. -/
def State.makeFatal (s : State) : State :=
  let s1 := s.setLko { s.lko with fatal := true }
  if s.boot.compat then (s1.hif.cmds.filter (·.isAta)).foldl (fun s c => s.finish c.seq 0x7C4 0) s1 else s1

/-- DEVICE_STOP (R649, R650, R660) for a cause of R669: 1 overspeed, 4 to 6 a hang of HS, BS or KS, 7 buffer failed. -/
def State.deviceStop (s : State) (cause : Nat) : State :=
  let s0 := if 4 ≤ cause ∧ cause ≤ 6 then s.makeFatal else s
  if 2 ≤ s.devState then s0
  else
    let s1 := (s0.put Reg.LKO_STATUS_DEV_STATE 2).put Reg.LKO_STATUS_DEV_CAUSE cause
    let s2 := s1.retractAll false
    ((s2.setWhl { s2.whl with stopWanted := true }).raise 0x7E2 (cause + 2 * 2 ^ 4)).faultFlush

/-- HARD (R649): every write gate and SAFE_STOP_N driven low; the lanes' actuators are stopped. -/
def State.enterHard (s : State) (cause : Nat) : State :=
  if s.devState = 4 then s
  else
    let s1 := (s.put Reg.LKO_STATUS_DEV_STATE 4).put Reg.LKO_STATUS_DEV_CAUSE cause
    let s1 := s1.setWhl { s1.whl with stopWanted := false }
    let s2 := (s1.retractAll false).assertSafeStop .lookout
    let s3 := (List.range 4).foldl (fun s n => if s.used n then s.put (laneOutField n) 1 else s) s2
    ((s3.wheelOff 7).raise 0x7E2 (cause + 4 * 2 ^ 4)).faultFlush

/-- SUPPLY (R433, R649, R657, R684, R749): Cairn first stages CRN_POWER_LOSS with the dirty blocks lost; Wheel rectifies, every loaded lane retracts, the power-fail source is asserted, every
lane is out of service and Cairn flushes. A trip before step 6 joins the sequence that runs; one after it starts afresh. -/
def State.enterSupply (s : State) : State :=
  let s0 := s.setLko { s.lko with supplyDone := false }
  if s.devState = 4 then s0
  else if s.devState = 3 ∧ !s.lko.supplyDone then s0.faultFlush
  else
    let rpm := s.get Reg.WHL_SPEED_S
    let lost := min (2 ^ 32 - 1) (s.cache.extents.filter (·.kind != .clean)).length
    let s1 := ((s0.ownRecord 0x7F7 lost (zeros 14)).put Reg.LKO_STATUS_DEV_STATE 3).put Reg.LKO_STATUS_DEV_CAUSE 3
    let s2 := ((s1.leaveClosed).setBridge .rectify).put Reg.WHL_STATUS_STATE 6
    let s3 := s2.setWhl { s2.whl with starting := false }
    let s4 := (List.finRange 4).foldl (fun s n => if s.used n.val then s.assertPriv n .powerFail else s) s3
    let s5 := (s4.raise 0x7C5 rpm).retractAll true
    let s6 := (List.range 4).foldl (fun s n => if s.used n then s.put (laneOutField n) 1 else s) s5
    (s6.raise 0x7E2 (3 + 3 * 2 ^ 4)).faultFlush

/-- Whether Lookout's oscillator and supply comparators, which VDDIO_18 powers, run and have registers to act on: while POR_N is low every
register is held at its reset value and every output in its reset state (R44, R55, R70). -/
def State.oscRuns (s : State) : Bool := s.pins.domains.contains .vddio18 && s.powered

/-- SUPPLY_TRIP (R657): a comparator trips: the 12 V rail (0) and, unless it is disabled, the 5 V rail (1) lead to SUPPLY,
VDD_CORE (2) to HARD. -/
def execSupplyTrip (rail : Fin 3) (s : State) : Host.Outcome State Fault Refusal :=
  .next <|
    if !s.oscRuns ∨ (rail.val = 1 ∧ s.get Reg.LKO_TRIP_V5_TRIP = 0) then s
    else
      let s1 := (s.setLko { s.lko with rails := s.lko.rails.insert rail.val }).raise 0x7E3 (2 ^ rail.val)
      if rail.val = 2 then s1.enterHard 3 else s1.enterSupply

/-- DIE_OVER_TEMPERATURE (R651): HARD with cause 2. -/
def execDieOverTemperature (s : State) : Host.Outcome State Fault Refusal :=
  .next (if s.powered then s.enterHard 2 else s)

/-- OSC_CALIBRATION (R648): the count is kept; outside ±31% it is an oscillator fault, which forces HARD. While the
crystal is stopped the last count stays. -/
def execOscCalibration (count : Nat) (s : State) : Host.Outcome State Fault Refusal :=
  .next <|
    if !s.oscRuns ∨ s.pwr.crystalStopped then s
    else
      let s1 := (s.put Reg.LKO_OSC_CAL count).put Reg.LKO_STATUS_CAL_VALID 1
      if count < 3440000 ∨ 6560000 < count then (s1.raise 0x7E6 (1 + count % 2 ^ 24 * 2 ^ 8)).enterHard 8 else s1

/-- OSC_EDGE_LOSS (R648): no oscillator edge for two crystal periods: a crystal-clocked circuit forces HARD. -/
def execOscEdgeLoss (s : State) : Host.Outcome State Fault Refusal :=
  .next <|
    if !s.oscRuns ∨ s.pwr.crystalStopped then s
    else (s.raise 0x7E6 (1 + s.get Reg.LKO_OSC_CAL * 2 ^ 8)).enterHard 8

/-- The safe state of R17 and R655 for a hung sequencer: it stays stopped. -/
def State.seqHung (s : State) (q : SeqIx) : State :=
  let s1 := s.setSeq q { s.seq q with run := .hung }
  if h : q.val < 4 then s1.laneRetract ⟨q.val, h⟩ 5 else s1.deviceStop q.val

/-- HANG_TIMEOUT (R655): 200 µs without a heartbeat from a sequencer that has started. A fault restart does not stop the
count. -/
def execHangTimeout (q : SeqIx) (s : State) : Host.Outcome State Fault Refusal :=
  .next (if (s.seq q).run = .off ∨ (s.seq q).run = .hung ∨ (s.seq q).run = .stalled then s else s.seqHung q)

/-- RESTART_TIMEOUT (R167): a faulted sequencer has not fetched within 25 µs. -/
def execRestartTimeout (q : SeqIx) (s : State) : Host.Outcome State Fault Refusal :=
  .next (if (s.seq q).run = .restarting then s.seqHung q else s)

/-- WEDGE_TIMEOUT (R656): no servo sample for WEDGE_TIMEOUT_US on a loaded lane: media time is lost, the gate is cut. -/
def execWedgeTimeout (n : Lane) (s : State) : Host.Outcome State Fault Refusal :=
  .next (if s.onDisk n ∧ s.used n.val ∧ !(s.lane n).mts.lost then s.mediaTimeLost n else s)

/-- RELOCK_TIMEOUT (R656): the synthesizer has not relocked within 100 ms: LANE_RETRACT; a lane already retracting
loses none. -/
def execRelockTimeout (n : Lane) (s : State) : Host.Outcome State Fault Refusal :=
  .next (if (s.lane n).mts.lost ∧ s.onDisk n then s.laneRetract n 4 else s)

/-- Lookout drives SAFE_STOP_N low (R653, R654): the hard stop takes the place of a stop that waits. -/
def State.lookoutStop (s : State) : State := ((s.setWhl { s.whl with stopWanted := false }).assertSafeStop .lookout).wheelOff 7

/-- OVERSPEED_CHECK (R653): 100 ms after DEVICE_STOP for an overspeed the last period is still shorter than the one that
tripped: SAFE_STOP_N. -/
def execOverspeedCheck (s : State) : Host.Outcome State Fault Refusal :=
  .next <|
    match s.lko.tripPeriod with
    | some p => if s.lko.lastPeriod < p then s.lookoutStop else s
    | none => s

/-- RUNAWAY_RETRACT_CHECK (R654): RETRACT_MS into the retract of a runaway |VEL| still exceeds RUNAWAY_VEL: SAFE_STOP_N. -/
def execRunawayRetractCheck (n : Lane) (s : State) : Host.Outcome State Fault Refusal :=
  .next <|
    if s.get (Reg.LKO_LANE_CAUSE n) = 3 ∧ s.loaded n ∧ u16 s.safety (8 + 2 * n.val) < s.lko.lastVel.getD n.val 0 then
      s.lookoutStop
    else s

/-- SUPPLY_RETURN (R749, R433): after step 6 each tripped rail has been good for 100 ms: SUPPLY ends, Wheel restarts the
spindle and KS will reload every used lane. -/
def execSupplyReturn (s : State) : Host.Outcome State Fault Refusal :=
  .next <|
    if s.devState ≠ 3 ∨ !s.lko.supplyDone then s
    else
      let s1 := (s.put Reg.LKO_STATUS_DEV_STATE 0).put Reg.LKO_STATUS_DEV_CAUSE 0
      let back := (List.range 4).filter fun n => s.used n && !s.lko.barred.contains n
      let s2 := s1.setLko { s1.lko with rails := [], supplyDone := false, reload := back }
      if s2.shutState = 1 ∨ s2.shutState = 2 then s2.orderlyCheck
      else if s2.shutState = 3 ∨ s2.held ∨ s2.stage < 6 then s2
      else s2.spindleStart

/-- The lowest fitted head index of a lane (R394). -/
def State.lowestHead (s : State) (n : Lane) : Nat :=
  let geo := s.section secGeometry
  ((List.range 8).find? fun ix => (globalHead geo n.val ix).isSome).getD 0

/-- LSn loads its heads (R394): the lowest fitted head, the data track nearest the ramp. -/
def State.reloadLane (s : State) (n : Lane) : State :=
  let h := s.lowestHead n
  s.sekCommand n ⟨2, h, s.rampTrack n h⟩

/-- LANE_RETURN (R661, R749): KS reloads a parked lane that left service for a runaway or a loss of media time, at most
RECOVER_MAX times, or that SUPPLY took out, which does not count. -/
def execLaneReturn (n : Lane) (s : State) : Host.Outcome State Fault Refusal :=
  .next <|
    let used := s.get (Reg.LKO_LANE_RETURNS n)
    let cause := s.get (Reg.LKO_LANE_CAUSE n)
    let ready : Bool := s.laneOut n.val && !s.loaded n && s.get Reg.WHL_STATUS_AT_SPEED == 1 && s.devState == 0 &&
      s.shutState == 0 && !s.lko.barred.contains n.val && (s.seq 6).run != .hung
    let slow : Bool := decide (s.lko.lastVel.getD n.val 0 ≤ u16 s.safety (8 + 2 * n.val))
    if !ready then s
    else if s.lko.reload.contains n.val then
      let s1 := s.setLko { s.lko with reload := s.lko.reload.erase n.val }
      ((s1.put (laneOutField n.val) 0).raise 0x7E5 (n.val + used * 2 ^ 4)).reloadLane n
    else if (cause = 3 ∧ slow ∨ cause = 4) ∧ used < u8 s.safety 6 then
      (((s.put (Reg.LKO_LANE_RETURNS n) (used + 1)).put (laneOutField n.val) 0).raise 0x7E5
        (n.val + (used + 1) * 2 ^ 4)).reloadLane n
    else s

/-- SF_OVERRUN (R663): a unit has not resumed 30 µs after a non-dangerous fault; a sequencer is then handled as hung.
Units: 0 to 6 sequencers, 8 buffer, 9 Motor Link. -/
def execSfOverrun (unit : Nat) (s : State) : Host.Outcome State Fault Refusal :=
  .next <|
    let s1 := s.raise 0x7E4 (unit % 16)
    if h : unit < 7 then (if (s.seq ⟨unit, h⟩).run = .off ∨ (s.seq ⟨unit, h⟩).run = .hung then s1 else s1.seqHung ⟨unit, h⟩) else s1

end Sys2Proof.Machine
end

