-- ==== Sys2Proof/Machine/Spindle.lean ====
section
/-! DEFINITION. The commands of Wheel and the Motor Link (chapter 12). -/

namespace Sys2Proof.Machine

/-! ## Frames (R406, R408) -/

/-- A downlink frame of a type with PAYLOAD bits [55:8], its SEQ and CRC-8 (R406). -/
def mlFrame (ty seq payload : Nat) : BitVec 64 :=
  let top := ty * 2 ^ 60 + seq % 16 * 2 ^ 56 + payload % 2 ^ 48 * 2 ^ 8
  BitVec.ofNat 64 (top + crc8 (beBytes 7 (top / 256)))

/-- The next SEQ of the downlink: the first normal frame carries 1 (R407). -/
def State.sendFrame (s : State) (ty payload : Nat) : State :=
  let q := (s.whl.txSeq + 1) % 16
  (s.setWhl { s.whl with txSeq := q, sinceReg := s.whl.sinceReg + 1, sinceSwitch := s.whl.sinceSwitch + 1 }).emit
    (.mlFrame (mlFrame ty q payload))

/-- The payload of a SPIN frame (R408): U high and V low in alignment (R416), otherwise the phases of the step; a negative
current reference drives the pair in reverse (R419). -/
def State.spinPayload (s : State) : Nat :=
  let w := s.whl
  let m := match w.mode with
    | .run => 0
    | .rectify => 1
    | .brake => 2
    | .off => 3
  let rev := decide (signed 16 (s.get Reg.WHL_DRIVE_IREF) < 0)
  let swap := fun k => if rev then (if k = 1 then 2 else if k = 2 then 1 else k) else k
  let p := if w.mode ≠ .run then 0 else if s.whlState = 2 then 0x18 else (Config.phaseBits w.step).toNat
  m * 2 ^ 46 + swap (bits p 5 4) * 2 ^ 44 + swap (bits p 3 2) * 2 ^ 42 + swap (bits p 1 0) * 2 ^ 40 +
    flag w.freewheel * 2 ^ 39 + w.step * 2 ^ 36

/-- The current regulator at a SPIN slot (R419): the band scales with V12 / V12_NOM; never two switchings within
DWELL_FRAMES frames. -/
def State.regulate (s : State) (v12 : Nat) : State :=
  let nom := s.sec16 secServoBanks 0x14
  let h : Rat := if nom = 0 then 0 else (s.spin16 0x1C * v12 : Nat) / (nom : Nat)
  let i : Rat := (signed 16 (s.get Reg.WHL_DRIVE_IPH) : Int)
  let ref : Rat := ((signed 16 (s.get Reg.WHL_DRIVE_IREF)).natAbs : Nat)
  let want := if ref + h < i then true else if i < ref - h then false else s.whl.freewheel
  if want ≠ s.whl.freewheel ∧ s.sec8 secSpindle 0x19 ≤ s.whl.sinceSwitch then
    s.setWhl { s.whl with freewheel := want, sinceSwitch := 0 }
  else s

/-- DOWNLINK_FRAME_SLOT (R410): SYNC frames until the link is up; then a mode change, pending ACT frames in lane order, a
register access at most once in eight frames, and else the bridge state. -/
def execDownlinkFrameSlot (v12 : Nat) (s : State) : Host.Outcome State Fault Refusal :=
  .next <|
    if !s.motorTaken then s
    else if s.get Reg.WHL_STATUS_LINK_UP = 0 then
      (s.setWhl { s.whl with txSeq := 0 }).emit (.mlFrame (mlFrame 0xF 0 0x5A5AA5A5C33C))
    else
      if s.whl.modePending then
        (s.setWhl { s.whl with modePending := false }).sendFrame 1 s.spinPayload
      else
        match (List.finRange 4).find? fun n => (s.whl.acts[n]).isSome with
        | some n =>
          let (u, m) := (s.whl.acts[n]).getD (0, 0)
          (s.setWhl { s.whl with acts := s.whl.acts.set n none }).sendFrame 2
            (n.val * 2 ^ 46 + 2 ^ 44 + twos 16 u * 2 ^ 24 + twos 16 m * 2 ^ 8)
        | none =>
          if s.get Reg.WHL_REG_ACCESS_GO = 1 ∧ !s.whl.regSent ∧ 7 ≤ s.whl.sinceReg then
            let addr := s.get Reg.WHL_REG_ACCESS_ADDR
            let s1 := s.setWhl { s.whl with sinceReg := 0 }
            if s.get Reg.WHL_REG_ACCESS_READ = 1 then
              let t := s1.sendFrame 4 (addr * 2 ^ 40)
              t.setWhl { t.whl with regSent := true, sinceReg := 0 }
            else
              let t := s1.sendFrame 3 (addr * 2 ^ 40 + s.get Reg.WHL_REG_ACCESS_DATA * 2 ^ 24)
              ((t.setWhl { t.whl with sinceReg := 0 }).put Reg.WHL_REG_ACCESS_GO 0).put Reg.WHL_REG_ACCESS_ERR 0
          else
            let s1 := s.regulate v12
            s1.sendFrame 1 s1.spinPayload

/-! ## The uplink (R407, R409, R411) -/

/-- SYNC_FRAME (R407): four in a row align the receiver; four more and the link is up. -/
def execSyncFrame (s : State) : Host.Outcome State Fault Refusal :=
  .next <|
    if !s.motorTaken ∨ s.get Reg.WHL_STATUS_LINK_UP = 1 then s
    else
      let k := s.whl.syncs + 1
      let s1 := s.setWhl { s.whl with syncs := k, badRun := 0 }
      if 8 ≤ k then s1.put Reg.WHL_STATUS_LINK_UP 1 else s1

/-- A register access ends with ERR (R441). -/
def State.regFail (s : State) : State :=
  if s.get Reg.WHL_REG_ACCESS_GO = 0 then s
  else ((s.setWhl { s.whl with regSent := false }).put Reg.WHL_REG_ACCESS_GO 0).put Reg.WHL_REG_ACCESS_ERR 1

/-- The uplink goes down (R411, R417): `noClock` tells the condition met first. A spindle that was started or ran is in its hard stop;
one that stops, rectifies or stands keeps its state (log entry 150). -/
def State.linkDown (s : State) (noClock : Bool) : State :=
  if s.get Reg.WHL_STATUS_LINK_UP = 0 then s.setWhl { s.whl with syncs := 0 }
  else
    let s1 := ((s.put Reg.WHL_STATUS_LINK_UP 0).bump Reg.WHL_CNT_LINK_DOWN_COUNT 1).assertSafeStop .link
    let s2 := ((s1.setWhl { s1.whl with syncs := 0, badRun := 0 }).raise 0x7C4 (flag noClock)).regFail
    if s2.whl.starting then s2.attemptFail 3 else if s2.whlState = 4 then s2.wheelOff 7 else s2

/-- UPLINK_FRAME_DISCARD (R411, R654, R441): a frame of the uplink cycle's slot is discarded; the value keeps its previous
sample, a run of fast coil samples breaks, and the third in a row takes the link down. -/
def execUplinkFrameDiscard (crcError : Bool) (slot : Nat) (s : State) : Host.Outcome State Fault Refusal :=
  .next <|
    if !s.motorTaken then s
    else if s.get Reg.WHL_STATUS_LINK_UP = 0 then s.setWhl { s.whl with syncs := 0 }
    else
      let s1 := s.bump (if crcError then Reg.WHL_CNT_ML_CRC_COUNT else Reg.WHL_CNT_ML_SEQ_COUNT) 1
      let s2 := if slot % 2 = 1 then s1.setLko { s1.lko with runaway := s1.lko.runaway.set (slot / 2 % 4) 0 }
        else if slot = 6 ∧ s1.whl.regSent then s1.regFail
        else s1
      let s3 := s2.setWhl { s2.whl with badRun := s2.whl.badRun + 1 }
      if 3 ≤ s3.whl.badRun then s3.linkDown false else s3

/-- UPLINK_NO_CLOCK (R411): 1 µs without an ML_RXCLK edge. -/
def execUplinkNoClock (s : State) : Host.Outcome State Fault Refusal :=
  .next (if s.motorTaken then s.linkDown true else s)

/-- MOTOR_LINK_RECOVERED (R411): the link has been up for 10 ms and every used lane is parked: SAFE_STOP_N is released and
a spindle in its hard stop restarts, unless another holder or a stop keeps it down. -/
def execMotorLinkRecovered (s : State) : Host.Outcome State Fault Refusal :=
  .next <|
    if s.get Reg.WHL_STATUS_LINK_UP = 0 ∨ !s.whl.holders.contains .link ∨ !s.allParked then s
    else
      let s1 := s.releaseSafeStop .link
      if !s1.whl.holders.isEmpty ∨ s1.devState ≠ 0 ∨ s1.shutState ∈ [1, 2, 3] ∨ s1.whl.stopWanted ∨ s1.held ∨ s1.whlState ≠ 7 then s1
      else s1.startAgain

/-- The crossing at `t` during the sense step (R416 step 1). -/
def State.senseCrossing (s : State) (t : Nat) : State :=
  let w := s.whl
  let n := s.sec8 secSpindle 0x16
  let tol := s.sec8 secSpindle 0x17
  if n ≤ w.confirm then s.closeLoop t
  else
    let gap := w.lastZc.map (t - ·)
    let good : Bool := match gap, w.lastZcGap with
      | some g, some p => decide ((max g p - min g p) * 100 ≤ tol * p ∧ 6 * g * s.spin16 0x10 ≤ secondUnits)
      | _, _ => false
    s.setWhl { w with seen := true, lastZc := some t, lastZcGap := gap, confirm := if good then w.confirm + 1 else 0 }

/-- The length of the open-loop interval that began at `t` (R416 step 3). -/
def State.rampInterval (s : State) (t : Nat) : Rat :=
  let el : Rat := ((t - s.whl.rampStart.getD t : Nat) : Rat) / (200000 : Nat)
  let ms : Rat := (s.spin16 0x12 : Nat)
  let a : Rat := (s.spin16 0x0E : Nat)
  let b : Rat := (s.spin16 0x10 : Nat)
  let f := if ms = 0 ∨ ms ≤ el then b else a + (b - a) * el / ms
  if f = 0 then 0 else (secondUnits : Rat) / (6 * f)

/-- The crossing at `t` during the open-loop ramp (R416 step 4). -/
def State.rampCrossing (s : State) (t : Nat) : State :=
  let w := s.whl
  if s.sec8 secSpindle 0x16 ≤ w.confirm then s.closeLoop t
  else
    let len := s.rampInterval w.lastStep
    let off : Rat := ((t - w.lastStep : Nat) : Rat) - len / 2
    let a : Rat := if off < 0 then -off else off
    let good := a * 100 ≤ len * ((s.sec8 secSpindle 0x17 : Nat) : Rat)
    s.setWhl { w with seen := true, confirm := if good then w.confirm + 1 else 0 }

/-- A crossing while the rotor coasts in an orderly stop (R432): below BRAKE_RPM the bridge brakes. -/
def State.coastCrossing (s : State) (t : Nat) : State :=
  let s1 := s.setWhl { s.whl with lastZc := some t }
  match s.whl.lastZc with
  | some p =>
    let brake := s.spin16 0x30
    if s.whl.mode = .off ∧ brake ≠ 0 ∧ p < t ∧ 60 * secondUnits < brake * (t - p) * 6 * s.polePairs then
      s1.setBridge .brake
    else s1
  | none => s1

/-- Lookout's overspeed monitor (R653): seven consecutive crossings span one electrical period. -/
def State.overspeedCheck (s : State) (t : Nat) : State :=
  let l := (t :: s.lko.crossings).take 7
  if l.length < 7 then s.setLko { s.lko with crossings := l }
  else
    let p := t - l.getLastD 0
    let s1 := s.setLko { s.lko with crossings := l, lastPeriod := p }
    let lim := s.get Reg.LKO_LIMITS_OVERSPEED_RPM
    if lim ≠ 0 ∧ p * lim * s.polePairs < 60 * secondUnits ∧ s1.devState ≠ 4 ∧ s1.lko.tripPeriod.isNone then
      (s1.setLko { s1.lko with tripPeriod := some p }).deviceStop 1
    else s1

/-- SPIN_SAMPLE (R409, R416, R418, R432, R653). -/
def execSpinSample (f : SpinFrame) (s : State) : Host.Outcome State Fault Refusal :=
  .next <|
    if s.get Reg.WHL_STATUS_LINK_UP = 0 then s
    else
      let s1 := (s.setWhl { s.whl with badRun := 0 }).put Reg.WHL_DRIVE_IPH (twos 16 f.iPh)
      if !f.zc then s1
      else
        let t := f.time - f.zcAge
        let s2 := s1.overspeedCheck t
        match s2.whlState with
        | 1 => s2.senseCrossing t
        | 3 => s2.rampCrossing t
        | 4 => s2.crossed t
        | 5 => s2.coastCrossing t
        | _ => s2

/-- What SEK drives while it owns the actuator (R394 to R396): a value that the spec leaves to the velocity control, held
within RETRACT_CURRENT during a retract; the hold of R395 and R396 is RETRACT_CURRENT in the open sense of "toward the
ramp" (log entry 21). -/
def State.sekDrive (s : State) (n : Lane) : State :=
  let free := signed 16 (s.freeNat % 65536)
  let lim : Int := s.act n 0x28 2
  let out := fun (s : State) (u : Int) =>
    { s with whl := { s.whl with acts := s.whl.acts.set n (some (u, 0)) } }.drew
  match (s.lane n).sek.phase with
  | .loading _ _ _ => out s free
  | .parkDrive => out s free
  | .retracting => out s (clamp (-lim) lim free)
  | .latching _ => out s (if free < 0 then -lim else lim)
  | _ => s

/-- ACT_SAMPLE (R409, R654): the lane's coil current and velocity; two samples in a row above RUNAWAY_VEL are a
runaway. -/
def execActSample (n : Lane) (iCoil vel : Int) (s : State) : Host.Outcome State Fault Refusal :=
  .next <|
    if s.get Reg.WHL_STATUS_LINK_UP = 0 then s
    else
      let s1 := s.setWhl { s.whl with badRun := 0 }
      if !s.used n.val then s1
      else
        let s2 := (s1.setSve n { (s1.lane n).sve with iCoil := sat15 iCoil }).sekDrive n
        let fast := decide (u16 s.safety (8 + 2 * n.val) < vel.natAbs)
        let run := if fast then s.lko.runaway.getD n.val 0 + 1 else 0
        let s3 := s2.setLko { s2.lko with runaway := s2.lko.runaway.set n.val run,
                                          lastVel := s2.lko.lastVel.set n.val vel.natAbs }
        if run = 2 ∧ s3.loaded n ∧ !s3.laneOut n.val then s3.laneRetract n 3 else s3

/-- STATUS_FRAME (R409, R436, R441): FAULT, the data of the last REG_RD, and VM. -/
def execStatusFrame (m : MotorStatus) (s : State) : Host.Outcome State Fault Refusal :=
  .next <|
    if s.get Reg.WHL_STATUS_LINK_UP = 0 then s
    else
      let s1 := (s.setWhl { s.whl with badRun := 0, vm := m.vm }).put Reg.WHL_STATUS_FAULT m.fault
      if s1.whl.regSent then
        (((s1.setWhl { s1.whl with regSent := false }).put Reg.WHL_REG_ACCESS_DATA m.data).put Reg.WHL_REG_ACCESS_GO
          0).put Reg.WHL_REG_ACCESS_ERR 0
      else s1

/-- A write of WHL.REG_ACCESS (R441): ignored while GO is 1; with the uplink down the access ends at once with ERR. -/
def State.writeRegAccess (s : State) (v : Nat) : State :=
  if s.get Reg.WHL_REG_ACCESS_GO = 1 then s
  else
    let s1 := s.storeRw Reg.WHL_REG_ACCESS_GO.off v
    if ¬ bit v 31 then s1
    else if s.get Reg.WHL_STATUS_LINK_UP = 0 then s1.put Reg.WHL_REG_ACCESS_ERR 1
    else (s1.setWhl { s1.whl with regSent := false }).put Reg.WHL_REG_ACCESS_GO 1

/-! ## Motor faults (R414) -/

/-- A fault of the motor power device (R414, R417). -/
def State.motorFault (s : State) (fault vm : Nat) : State :=
  let s1 := ((s.put Reg.WHL_STATUS_MOTOR_FAULT 1).put Reg.WHL_STATUS_FAULT fault).raise 0x7C3
    (fault % 2 ^ 8 + vm % 2 ^ 16 * 2 ^ 8)
  if s1.whl.starting then s1.attemptFail 2
  else if (bit fault 0 ∨ bit fault 1 ∨ bit fault 2 ∨ bit fault 6) ∧ s1.whlState = 4 then
    let s2 := s1.wheelOff 0
    s2.setWhl { s2.whl with faultOff := true }
  else s1

/-- MOTOR_FAULT_N_FALL (R414, R417, R53): ignored before Wheel takes over the link. FAULT bits 0, 1, 2 and 6 turn the
bridge off. -/
def execMotorFaultNFall (fault vm : Nat) (s : State) : Host.Outcome State Fault Refusal :=
  .next <|
    let s1 := { s with pins := { s.pins with motorFaultN := false } }
    if !s1.motorTaken then s1 else s1.motorFault fault vm

/-- MOTOR_FAULT_CLEAR (R414): the pin has been high for 100 ms; a spindle that a fault turned off restarts. -/
def execMotorFaultClear (s : State) : Host.Outcome State Fault Refusal :=
  .next <|
    let s1 := { s with pins := { s.pins with motorFaultN := true } }.put Reg.WHL_STATUS_MOTOR_FAULT 0
    if s1.whl.faultOff ∧ s1.devState = 0 ∧ (s1.shutState = 0 ∨ s1.shutState = 4) ∧ !s1.whl.stopWanted then
      (s1.setWhl { s1.whl with faultOff := false }).startAgain
    else s1

/-! ## Starting (R416, R417) -/

/-- Alignment (R416 step 2): phase U high and phase V low, at ALIGN_CURRENT. -/
def State.align (s : State) : State :=
  let s1 := ((s.setBridge .run).put Reg.WHL_STATUS_STATE 2).put Reg.WHL_DRIVE_IREF (s.spin16 0x0C)
  s1.setWhl { s1.whl with step := 0, seen := false, confirm := 0 }

/-- SENSE_END (R416 step 1): 20 ms have passed; without a crossing the rotor is at rest and alignment begins. -/
def execSenseEnd (s : State) : Host.Outcome State Fault Refusal :=
  .next (if s.whlState = 1 ∧ !s.whl.seen ∧ s.whl.holders.isEmpty then s.align else s)

/-- CROSSING_QUIET_TIMEOUT (R416 step 1): no crossing for 500 ms while Wheel waits for a coasting rotor. -/
def execCrossingQuietTimeout (s : State) : Host.Outcome State Fault Refusal :=
  .next (if s.whlState = 1 ∧ s.whl.seen ∧ s.whl.holders.isEmpty then s.align else s)

/-- ALIGN_END (R416 step 3): the open-loop ramp begins at RAMP_CURRENT. -/
def execAlignEnd (time : Nat) (s : State) : Host.Outcome State Fault Refusal :=
  .next <|
    if s.whlState ≠ 2 then s
    else
      let s1 := (s.put Reg.WHL_STATUS_STATE 3).put Reg.WHL_DRIVE_IREF (s.spin16 0x14)
      s1.setWhl { s1.whl with rampStart := some time, lastStep := time, seen := false, confirm := 0 }

/-- RAMP_END (R416 step 4, R417): the ramp and its 500 ms hold end without a hand-off: the attempt fails. -/
def execRampEnd (s : State) : Host.Outcome State Fault Refusal :=
  .next (if s.whlState = 3 then s.attemptFail 0 else s)

/-- COMMUTATION_STEP (R416 step 3, R418, R421 to R425, R358): in the ramp at the end of its interval, in closed loop at the time that the
last crossing set. `time` is the time when the command comes: before that moment no step is due. -/
def execCommutationStep (time : Nat) (s : State) : Host.Outcome State Fault Refusal :=
  .next <|
    if s.whlState = 3 then
      let t := s.whl.lastStep + (s.rampInterval s.whl.lastStep).floor.toNat
      if t ≤ time then s.commutate t else s
    else if s.whlState = 4 then
      match s.whl.due with
      | some t => if t ≤ time then s.commutate t else s
      | none => s
    else s

/-- ZERO_CROSSING_MISSING (R418): a step at the predicted time, one interval after the step before, replaces the crossing; the third in a
row ends closed loop and starts the spindle again. Before the predicted `time` no crossing is missing. -/
def execZeroCrossingMissing (time : Nat) (s : State) : Host.Outcome State Fault Refusal :=
  .next <|
    if s.whlState ≠ 4 ∨ s.whl.due.isSome ∨ time < s.whl.lastStep + s.whl.lastInterval then s
    else if 3 ≤ s.whl.missing + 1 then s.newStart
    else (s.setWhl { s.whl with missing := s.whl.missing + 1 }).commutate (s.whl.lastStep + s.whl.lastInterval)

/-- SPINUP_TIMEOUT (R417): SPINUP_S has passed since the first attempt began. The limit is suspended while Kiln is not in
NORMAL during boot (R752). -/
def execSpinupTimeout (s : State) : Host.Outcome State Fault Refusal :=
  .next <|
    if !s.whl.starting ∨ (s.stage ≤ 6 ∧ s.shutState ≠ 0 ∧ s.shutState ≠ 4) then s else s.attemptFail 1

/-! ## Policy and override (R429, R430, R438) -/

/-- The least grid speed at or above `x` (R429), `x` as a fraction. -/
def State.gridAbove (s : State) (x : Rat) : Nat :=
  let lo := s.sec16 secSpinPolicy 0
  let hi := s.sec16 secSpinPolicy 2
  let st := s.sec16 secSpinPolicy 4
  if x ≤ (lo : Rat) ∨ st = 0 then lo
  else min hi (lo + ((x - (lo : Rat)) / (st : Rat)).ceil.toNat * st)

/-- The percentage of the last `ms` of operating time in which a lane was busy (R428). -/
def State.busyShare (s : State) (n : Lane) (ms : Nat) : Rat :=
  let now := s.crn.elapsed
  let t := (s.whl.busy[n]).foldl (fun k (a, b) => k + (min b now - max a (now - ms))) 0
  ((t * 100 : Nat) : Rat) / (ms : Rat)

/-- The largest busy percentage of the used lanes over a window (R429). -/
def State.busyMost (s : State) (ms : Nat) : Rat :=
  (List.finRange 4).foldl (fun m n => if s.used n.val then max m (s.busyShare n ms) else m) 0

/-- A percentage as a whole number. -/
def wholePercent (r : Rounding) (x : Rat) : Nat :=
  match r with
  | .down => x.floor.toNat
  | .up => x.ceil.toNat

/-- SPIN_POLICY_DECISION (R428, R429): KS decides P from the lanes' exact busy percentages over the short and long windows. `us` and `ul` say
how the two show in WHL.POLICY (R439). -/
def execSpinPolicyDecision (us ul : Rounding) (s : State) : Host.Outcome State Fault Refusal :=
  .next <|
    if s.boot.compat ∨ !s.boot.nsReadyRaised ∨ s.whlState ≠ 4 then s
    else
      let a := s.busyMost (s.sec16 secSpinPolicy 8)
      let b := s.busyMost (s.sec16 secSpinPolicy 0x0A * 1000)
      let target : Rat := s.sec8 secSpinPolicy 6
      let rpm : Rat := (s.get Reg.WHL_SPEED_S : Nat)
      let p := if s.whl.decided then s.whl.policy else s.spin16 4
      let now := s.crn.elapsed
      let dwell : Bool := match s.whl.lastDecrease with
        | none => true
        | some t => decide (s.sec16 secSpinPolicy 0x0C * 1000 ≤ now - t)
      let (p1, dec) :=
        if (s.sec8 secSpinPolicy 7 : Rat) ≤ a then (s.sec16 secSpinPolicy 2, false)
        else if target < a then (max p (s.gridAbove (rpm * a / target)), false)
        else if b < target ∧ dwell then
          let w := s.gridAbove (rpm * b / target)
          if w < p then (w, true) else (p, false)
        else (p, false)
      let s1 := s.setWhl { s.whl with policy := p1, decided := true,
                                      lastDecrease := if dec then some now else s.whl.lastDecrease }
      ((s1.put Reg.WHL_POLICY_US (wholePercent us a)).put Reg.WHL_POLICY_UL (wholePercent ul b)).retarget

/-- Whether an override speed lies on the grid within the band (R438). -/
def State.onGrid (s : State) (rpm : Nat) : Bool :=
  let lo := s.sec16 secSpinPolicy 0
  let st := s.sec16 secSpinPolicy 4
  decide (lo ≤ rpm ∧ rpm ≤ s.sec16 secSpinPolicy 2) && (st == 0 || (rpm - lo) % st == 0)

/-- A write of WHL.OVERRIDE (R438): both fields together, or neither. -/
def State.writeOverride (s : State) (v : Nat) : State :=
  if s.boot.compat ∨ (bit v 31 ∧ ¬ s.onGrid (v % 65536)) then s
  else ((s.put Reg.WHL_OVERRIDE_EN (bits v 31 31)).put Reg.WHL_OVERRIDE_RPM (v % 65536)).retarget

/-! ## Stopping (R432, R433) -/

/-- ORDERLY_STOP (R432, R677, R684): a wanted stop, once every used lane's SEK reports parked and Cairn's flush, which starts
first, is done: KS saves the time values, BS the stale bitmap and the pending lists (R288, R320), MODE OFF, and the spindle coasts;
with it Kiln's orderly stop is complete (R638). -/
def execOrderlyStop (s : State) : Host.Outcome State Fault Refusal :=
  .next <|
    if !s.whl.stopWanted ∨ !s.allParked ∨ s.whlState = 6 ∨ s.crn.flushing then s
    else if s.startFlush.crn.flushing then s.startFlush
    else
      let moving : Bool := decide (s.whlState ∈ [1, 2, 3, 4])
      let s0 := s.saveStale.saveTimes
      let s1 := if moving then s0.wheelOff 5
        else if s.whlState = 7 then s0.put Reg.WHL_STATUS_STATE 0 else s0
      let s2 := s1.setWhl { s1.whl with stopWanted := false, starting := false }
      s2.orderlyCheck

/-- SPINDLE_REST (R432): no crossing for 1 s: MODE OFF, WHL_STOPPED. -/
def execSpindleRest (s : State) : Host.Outcome State Fault Refusal :=
  .next <|
    if s.whlState ≠ 5 then s
    else (((s.setBridge .off).put Reg.WHL_STATUS_STATE 0).raise 0x7C7 0).orderlyCheck

/-- RECTIFY_END (R433): every lane is parked and the Cairn flush is done: MODE OFF, step 6 of the sequence. -/
def execRectifyEnd (s : State) : Host.Outcome State Fault Refusal :=
  .next <|
    if s.whlState ≠ 6 ∨ !s.allParked ∨ s.crn.flushing then s
    else
      let s1 := (s.setBridge .off).put Reg.WHL_STATUS_STATE 0
      s1.setLko { s1.lko with supplyDone := true }

end Sys2Proof.Machine
end

