-- ==== Sys2Proof/Machine/Kiln.lean ====
section
/-! DEFINITION. Kiln (chapter 18): conversions, sensor faults, Cones, the write window and the Cone 3 shutdown; and the end
of a park or retract (R395, R396). -/

namespace Sys2Proof.Machine

/-- Kiln's record replaced. -/
def State.setKln (s : State) (k : Kiln) : State := { s with kln := k }

/-! ## Conversions (R626, R628) -/

/-- The entry of channel `c` in THERMAL (R630). -/
def State.channel (s : State) (c : Nat) : List Byte := s.thermal.drop (0x20 + 32 * c)

/-- A signed 16-bit field of a channel entry. -/
def chField (e : List Byte) (o : Nat) : Int := signed 16 (u16 e o)

/-- Round a rational to the nearest integer, ties upward. -/
def roundUp (x : Rat) : Int := (x + 1 / 2).floor

/-- Natural logarithm of `y` between 1 and 2: twice the artanh series of (y - 1) / (y + 1), to the accuracy of a
reading. -/
def lnUnit (y : Rat) : Rat :=
  let z := (y - 1) / (y + 1)
  let z2 := z * z
  2 * z * (1 + z2 / 3 + z2 * z2 / 5 + z2 * z2 * z2 / 7 + z2 * z2 * z2 * z2 / 9)

/-- Natural logarithm, halving or doubling into the unit range. -/
def lnRat : Nat → Rat → Rat
  | 0, _ => 0
  | f + 1, y =>
    if 2 < y then lnRat f (y / 2) + 6931472 / 10000000
    else if y < 1 then lnRat f (y * 2) - 6931472 / 10000000
    else lnUnit y

/-- A good reading in 0.1 °C, or the fault kind (0 open, 1 short, 2 out of range), of a measurement (R626, R628).
Which of open and short a diode's ΔV beyond its limits shows is not stated: `free` decides it. -/
def evaluate (e : List Byte) (free : Nat) : Conversion → Except Nat Int
  | .diode uv =>
    if uv < 30000 ∨ 90000 < uv then .error (free % 2)
    else
      let rs : Rat := (u16 e 6 : Nat) / 10
      let dv : Rat := ((uv : Rat) - 90 * rs) / 1000000
      let n : Rat := (u16 e 4 : Nat) / (16384 : Nat)
      let k : Rat := if n = 0 then 0 else 11604518 / 1000 * dv / (n * (2302585 / 1000000))
      let t := roundUp ((k - 27315 / 100) * 10) + chField e 2
      if t < -550 ∨ 1750 < t then .error 2 else .ok t
  | .ntc ppm =>
    if ppm < 20000 then .error 1
    else if 980000 < ppm then .error 0
    else
      let x : Rat := (ppm : Rat) / 1000000
      let r : Rat := 10000 * x / (1 - x)
      let r25 : Rat := (u32 e 8 : Nat)
      let beta : Rat := (u16 e 0x0C : Nat)
      let inv : Rat := if r25 = 0 ∨ beta = 0 then 0 else 1 / (29815 / 100) + lnRat 16 (r / r25) / beta
      let t := if inv ≤ 0 then 32767 else roundUp ((1 / inv - 27315 / 100) * 10) + chField e 2
      if t < -550 ∨ 1750 < t then .error 2 else .ok t
  | .onDie t => .ok (clamp (-32768) 32767 (t + chField e 2))

/-! ## Cones (R633, R634) -/

/-- The Cone bit of a channel. -/
def coneField (c k : Nat) : Fld := ⟨0x90010 + 4 * c, 27 + k, 27 + k⟩

/-- Set a Cone of a channel, raising its event on a change. -/
def State.setCone (s : State) (c k : Nat) (on : Bool) (reading : Int) : State :=
  if s.get (coneField c k) = flag on then s
  else
    (s.put (coneField c k) (flag on)).raise (0x7CF + k) (c + flag on * 2 ^ 8 + twos 16 reading * 2 ^ 16)

/-- Test an enabled Cone on a reading (R633). -/
def State.testCone (s : State) (c k : Nat) (t : Int) : State :=
  let e := s.channel c
  if ¬ bit (u8 e 1) (k - 1) ∨ u8 e 0 = 0 then s
  else
    let thr := chField e (0x10 + 2 * (k - 1))
    let hyst := chField e (0x16 + 2 * (k - 1))
    if thr ≤ t then s.setCone c k true t
    else if t < thr - hyst then s.setCone c k false t
    else s

/-- The device's Cones follow the channels'; Cone 2 sets the decode caps and T (R634, R248, R430). -/
def State.deviceCones (s : State) : State :=
  let any := fun k => (List.range 12).any fun c => s.get (coneField c k) == 1
  let s1 := ((s.put Reg.KLN_STATUS_CONE1 (flag (any 1))).put Reg.KLN_STATUS_CONE2 (flag (any 2))).put
    Reg.KLN_STATUS_CONE3 (flag (any 3))
  let cap := if any 2 then u8 s.thermal 2 else 0
  let s2 := (List.range 4).foldl (fun s n => if s.present n then s.put (Reg.CHN_STATUS_CAP n) cap else s) s1
  s2.retarget

/-! ## The write window (R635) -/

/-- A running write step writes its current sector to the end and drops the gate; the rest stays dirty (R635). -/
def State.finishWrite (s : State) (n : Lane) : State :=
  match (s.lane n).fmt.write with
  | none => s
  | some w =>
    let s0 := if (s.lane n).fmt.wgate then s.writeProgress n (w.done + 1) else s
    let s1 := if !(s.lane n).fmt.wgate ∨ (s0.lane n).fmt.write.isNone then s0
      else (s0.stepGroups (w.sectors.map fun (x : WriteSector) => x.pba)).foldl
        (fun (s : State) (x : GroupId × Bool) => s.markStale x.1) s0
    s1.endStep n

/-- The window opens or closes. -/
def State.setWindow (s : State) (on : Bool) (reading : Int) : State :=
  if s.get Reg.KLN_STATUS_WRITE_OPEN = flag on then s
  else
    let s1 := (s.put Reg.KLN_STATUS_WRITE_OPEN (flag on)).raise 0x7D3 (flag on + twos 16 reading * 2 ^ 16)
    if on then s1 else (List.finRange 4).foldl (fun s n => s.finishWrite n) s1

/-- The window's test on a media reading (R635). -/
def State.testWindow (s : State) (t : Int) : State :=
  let h := s.thermal
  let lo := chField h 8
  let hi := chField h 0x0A
  let hy := chField h 0x0C
  if t < lo ∨ hi < t then s.setWindow false t
  else if lo + hy ≤ t ∧ t ≤ hi - hy then s.setWindow true t
  else s

/-! ## Cone 3 shutdown (R637 to R639, R752) -/

/-- ORDERLY (R638 step 1). -/
def State.enterOrderly (s : State) (c : Nat) (t : Int) : State :=
  let s1 := (s.setKln { s.kln with cone3Ch := c, cone3Reading := t, toLock := [] }).enterShut 1
  let s2 := (List.finRange 4).foldl (fun s n =>
    if s.used n.val then ((s.assertPriv n .cone3).finishWrite n).retract n false else s) s1
  let s3 := s2.setWhl { s2.whl with stopWanted := true }
  if s3.whl.mode = .off ∧ s3.whlState ∉ [1, 2, 3, 4, 6] then
    (s3.setWhl { s3.whl with stopWanted := false }).orderlyCheck
  else s3

/-- Cone 3 while the state machine runs: NORMAL and RESTARTING go to ORDERLY; nothing moves while SUPPLY is in force. The channel
named is `c`, or where its Cone 3 is not asserted the lowest whose is. -/
def State.cone3Check (s : State) (c : Nat) (t : Int) : State :=
  if s.get Reg.KLN_STATUS_CONE3 = 1 ∧ (s.shutState = 0 ∨ s.shutState = 4) ∧ s.devState ≠ 3 then
    if s.get (coneField c 3) = 1 then s.enterOrderly c t
    else
      let k := ((List.range 12).find? fun k => s.get (coneField k 3) == 1).getD c
      s.enterOrderly k (signed 16 (s.get (Reg.KLN_TEMP_READING k)))
  else s

/-- The Cones and the window on a good reading of a channel that is not in fault. -/
def State.testReading (s : State) (c : Nat) (t : Int) : State :=
  let before := s.get (coneField c 3)
  let s1 := (((s.testCone c 1 t).testCone c 2 t).testCone c 3 t).deviceCones
  let s2 := if before = 0 ∧ s1.get (coneField c 3) = 1 ∧ s1.shutState = 3 then s1.startHold else s1
  let s3 := if u8 s2.thermal 0 = c then s2.testWindow t else s2
  s3.cone3Check c t

/-- The FAULT bit of a channel. -/
def kilnFaultField (c : Nat) : Fld := ⟨0x90000, c, c⟩

/-- Keep a good reading: READING, VALID, PEAK (R644, R645). -/
def State.keepReading (s : State) (c : Nat) (t : Int) : State :=
  let s1 := (s.put (Reg.KLN_TEMP_READING c) (twos 16 t)).put (Reg.KLN_TEMP_VALID c) 1
  let s2 := if signed 16 (s1.get (Reg.KLN_PEAK_MAX c)) < t then s1.put (Reg.KLN_PEAK_MAX c) (twos 16 t) else s1
  if t < signed 16 (s2.get (Reg.KLN_PEAK_MIN c)) then s2.put (Reg.KLN_PEAK_MIN c) (twos 16 t) else s2

/-- A channel enters fault or stays in it (R628). -/
def State.sensorFault (s : State) (c kind : Nat) : State :=
  let s1 := (s.setKln { s.kln with good := s.kln.good.set c 0 }).put (Reg.KLN_TEMP_VALID c) 0
  if s.get (kilnFaultField c) = 1 then s1
  else
    let t := signed 16 (s.get (Reg.KLN_TEMP_READING c))
    let s2 := (s1.put (kilnFaultField c) 1).raise 0x7D4 (c + 2 ^ 8 + kind * 2 ^ 9)
    let s3 := if u8 (s.channel c) 1 % 8 ≠ 0 then
        ((s2.setKln { s2.kln with forced := s2.kln.forced.set c true }).setCone c 2 true t).deviceCones
      else s2
    if u8 s3.thermal 0 = c then s3.setWindow false t else s3

/-- A good conversion of a channel in fault; the third in a row ends the fault. -/
def State.goodInFault (s : State) (c : Nat) (t : Int) : State :=
  let k := s.kln.good.getD c 0 + 1
  let s1 := (s.setKln { s.kln with good := s.kln.good.set c k }).keepReading c t
  if k < 3 then s1
  else
    let s2 := (s1.put (kilnFaultField c) 0).raise 0x7D4 c
    let s3 := s2.setKln { s2.kln with forced := s2.kln.forced.set c false }
    let s4 := if bit (u8 (s3.channel c) 1) 1 then s3 else s3.setCone c 2 false t
    s4.testReading c t

/-- The first enabled channel from `c` up (R627); a remote one once its pins are taken over (R44). -/
def State.nextChannel (s : State) (c : Nat) : Option Nat :=
  (List.range 12).find? fun k => decide (c ≤ k) && u8 (s.channel k) 0 != 0 && (decide (8 ≤ k) || s.locked)

/-- Whether a conversion measures what a channel of a TYPE senses (R626, R630). -/
def conversionFits (m : Conversion) (ty : Nat) : Bool :=
  match m with
  | .diode _ => ty == 1
  | .ntc _ => ty == 2
  | .onDie _ => ty == 3

/-- KILN_SCAN_START (R627): a scan begins with the first enabled channel. -/
def execKilnScanStart (s : State) : Host.Outcome State Fault Refusal :=
  .next (if s.powered then s.setKln { s.kln with next := s.nextChannel 0 } else s)

/-- KILN_CONVERSION_END (R626 to R628, R633 to R638): the conversion of the scan's channel ends. -/
def execKilnConversionEnd (c : Fin 12) (m : Conversion) (s : State) : Host.Outcome State Fault Refusal :=
  .next <|
    if s.kln.next ≠ some c.val ∨ !conversionFits m (u8 (s.channel c.val) 0) then s
    else
      let s1 := s.setKln { s.kln with next := s.nextChannel (c.val + 1) }
      match evaluate (s.channel c.val) s.freeNat m with
      | .error k => (s1.sensorFault c.val k).drew.critCheck
      | .ok t =>
        if s.get (kilnFaultField c.val) = 1 then (s1.goodInFault c.val t).critCheck
        else ((s1.keepReading c.val t).testReading c.val t).critCheck

/-- SHUTDOWN_TIMEOUT (R638 steps 2 and 3): the orderly stop is not complete in time: HARD with SAFE_STOP_N, then COOLING.
The timer is suspended while SUPPLY is in force (R752). -/
def execShutdownTimeout (s : State) : Host.Outcome State Fault Refusal :=
  .next <|
    if s.shutState ≠ 1 ∨ s.devState = 3 then s
    else ((((s.setWhl { s.whl with stopWanted := false }).assertSafeStop .kiln).wheelOff 7).enterShut 2).enterCooling

/-- COOLING_HOLD_END (R638 step 4, R752): the hold has passed: with restarts left, Kiln counts one, releases SAFE_STOP_N
and enters RESTARTING, and Wheel starts the spindle, or does so in its boot stage; with no lane left in service there is nothing to wait for. -/
def execCoolingHoldEnd (s : State) : Host.Outcome State Fault Refusal :=
  .next <|
    let left := s.get Reg.KLN_STATUS_RESTARTS
    if s.shutState ≠ 3 ∨ s.get Reg.KLN_STATUS_CONE3 = 1 ∨ s.devState = 3 ∨ u8 s.thermal 0x12 ≤ left then s
    else
      let lanes := (List.range 4).filter fun n => s.used n && !s.lko.barred.contains n
      let s1 := (s.put Reg.KLN_STATUS_RESTARTS (left + 1)).releaseSafeStop .kiln
      let s2 := (s1.setKln { s1.kln with holdMs := 0, toLock := lanes }).put Reg.KLN_HOLD_LEFT_S 0
      let s3 := if s.stage < 6 then s2.enterShut 4 else (s2.enterShut 4).spindleStart
      if lanes.isEmpty then ((s3.enterShut 0).raise 0x7D6 (left + 1)).asyncAll 7 0 else s3

/-- A lane has locked again or failed in RESTARTING (R638 step 4); with the last, Kiln returns to NORMAL. Answers whether
it did. -/
def State.kilnLaneDone (s : State) (n : Lane) : State × Bool :=
  if s.shutState ≠ 4 ∨ !s.kln.toLock.contains n.val then (s, false)
  else
    let l := s.kln.toLock.erase n.val
    let s1 := s.setKln { s.kln with toLock := l }
    if l.isEmpty then ((s1.enterShut 0).raise 0x7D6 (s1.get Reg.KLN_STATUS_RESTARTS), true) else (s1, false)

/-- LATCH_END (R395, R396, R432, R638): LATCH_MS has passed and the current is removed: the heads are parked. -/
def execLatchEnd (n : Lane) (s : State) : Host.Outcome State Fault Refusal :=
  .next <|
    match (s.lane n).sek.phase with
    | .latching after =>
      let s1 := { s with whl := { s.whl with acts := s.whl.acts.set n (some (0, 0)) } }
      let k := (s1.lane n).sek
      let s2 := (s1.setSek n { k with head := none, pLast := none, wedgeLast := none, fresh := true, okRun := 0 }).setPhase
        n .parked
      let s3 := ((s2.setMts n ⟨0, 0, false, false⟩).put (Reg.FMT_MTS_STATUS_LOCKED n) 0).put (Reg.FMT_MTS_STATUS_WEDGE_PERIOD n) 0
      ((s3.raiseLane n 0x74 (flag after)).orderlyCheck).sekNext n
    | _ => s

end Sys2Proof.Machine
end

