-- ==== Sys2Proof/Machine/Buffer.lean ====
section
/-! DEFINITION. Buffer memory and its protection (chapter 13): geometry, buckets, shard mode, poisoning, retirement and
the commands of BUF and BS. -/

namespace Sys2Proof.Machine

/-! ## Geometry (R442, R447, R448) -/

/-- Subchannels fitted. -/
def State.bufSubs (s : State) : Nat := if s.sec8 secDdr5 3 = 3 then 2 else 1
/-- Ranks fitted. -/
def State.bufRanks (s : State) : Nat := if s.sec8 secDdr5 2 = 2 then 2 else 1
/-- Data capacity in GiB. -/
def State.bufGiB (s : State) : Nat := s.bufSubs * 4 * (s.sec8 secDdr5 1 + 1) * s.bufRanks
/-- Pages of the page store: 63/64 of the data capacity. -/
def State.bufPages (s : State) : Nat := s.bufGiB * 258048
/-- First page of the spare pool. -/
def State.spareBase (s : State) : Nat := s.bufPages - 4096
/-- Group of a page: 2 × subchannel + rank. -/
def State.pageGroup (s : State) (p : Nat) : Nat :=
  let sc := if s.bufSubs = 2 then p % 2 else 0
  let i := if s.bufSubs = 2 then p / 2 else p
  let rk := if s.bufRanks = 2 ∧ s.bufPages / s.bufSubs ≤ 2 * i then 1 else 0
  2 * sc + rk
/-- Whether a group is fitted. -/
def State.groupFitted (s : State) (g : Nat) : Bool := decide (g / 2 < s.bufSubs) && decide (g % 2 < s.bufRanks)

/-- The Gg field of BUF.STATE (R476). -/
def bufGroupField (g : Nat) : Fld := ⟨0x40004, 4 * g + 3, 4 * g⟩
/-- Its value: 0 normal, 8 + c shard mode, 0xE not fitted, 0xF lost. -/
def State.groupState (s : State) (g : Nat) : Nat := s.get (bufGroupField g)
/-- Whether a group works in shard mode. -/
def State.sharded (s : State) (g : Nat) : Bool := decide (8 ≤ s.groupState g) && decide (s.groupState g ≤ 0xC)

/-- BUF's record replaced. -/
def State.setBuf (s : State) (b : Buffer) : State := { s with buf := b }

/-- Whether the buffer has failed (R460, R466). -/
def State.bufDown (s : State) : Bool := s.buf.failed || (List.range 4).any fun g => s.groupState g == 0xF

/-- The retirement entry that decides where a page lies: the highest valid one that names it (R482). -/
def State.spareOf (s : State) (p : Nat) : Option Nat :=
  (List.range (s.get Reg.BUF_RETIRE_STATUS_ENTRIES)).foldl (fun r i =>
    if s.get (Reg.BUF_RETIRE_VALID i) = 1 ∧ s.get (Reg.BUF_RETIRE_PAGE i) = p then some i else r) none

/-- Whether reads of a page return an error (R460, R465, R466). -/
def State.pagePoisoned (s : State) (p : Nat) : Bool :=
  s.buf.poisoned.contains p || s.buf.overflow.contains p || s.groupState (s.pageGroup p) == 0xF

/-! ## Failure of the buffer (R460, R466, R658) -/

/-- Whether a dirty extent can still be destaged: its lane is in service. -/
def State.destageable (s : State) : Bool :=
  s.cache.extents.any fun x => x.kind != .clean && (match s.blockAt x.ns x.lba with
    | some (l, _) => !s.laneOut l
    | none => false : Bool)

/-- Lookout's DEVICE_STOP for a failed buffer follows once BS has destaged what it can, or at once where BS is hung
(R658). -/
def State.bufStopCheck (s : State) : State :=
  if s.buf.stopDue ∧ ((s.seq 5).run = .hung ∨ !s.destageable) then
    (s.setBuf { s.buf with stopDue := false }).deviceStop 7
  else s

/-- The buffer fails. -/
def State.bufFail (s : State) : State := (s.setBuf { s.buf with stopDue := true }).bufStopCheck

/-! ## Dead chips (R455, R460) -/

/-- A chip of a group is declared dead with a cause: 0 AUTO_DEAD, 1 request, 2 training. The first puts the group into
shard mode at the next line boundary; a second loses the group. -/
def State.declareDead (s : State) (g chip cause : Nat) : State :=
  let s1 := s.raise 0x706 (chip + g / 2 * 2 ^ 4 + g % 2 * 2 ^ 5 + cause * 2 ^ 6)
  let waiting := s.buf.switching.any (·.1 == g)
  if s.sharded g ∨ waiting then
    let s2 := s1.setBuf { s1.buf with switching := s1.buf.switching.filter (·.1 != g) }
    (((s2.put (bufGroupField g) 0xF).raise 0x707 (g / 2 * 2 ^ 4 + g % 2 * 2 ^ 5)).asyncAll 7 1).critCheck.bufFail
  else s1.setBuf { s1.buf with switching := s1.buf.switching ++ [(g, chip)] }

/-- The group switches to shard mode (R455). -/
def State.enterShard (s : State) (g chip : Nat) : State :=
  ((s.put (bufGroupField g) (8 + chip)).asyncAll 7 1).critCheck

/-- Whether a dead-chip request is refused (R477). -/
def State.deadRefused (s : State) (g chip : Nat) : Bool :=
  !s.groupFitted g || s.groupState g == 0xF || s.groupState g == 8 + chip || s.buf.switching.contains (g, chip) ||
    decide (4 < chip)

/-- A request to declare a chip dead (R455, R477): answers whether it was refused; GO clears as it is done. -/
def State.deadRequest (s : State) (g chip : Nat) : State × Bool :=
  if s.deadRefused g chip then ((s.put Reg.BUF_DEAD_REQ_GO 0).put Reg.BUF_DEAD_REQ_ERR 1, true)
  else (((s.put Reg.BUF_DEAD_REQ_GO 0).put Reg.BUF_DEAD_REQ_ERR 0).declareDead g chip 1, false)

/-! ## Buckets (R461, R462) -/

/-- Raise a chip bucket by `k`. -/
def State.chipBucket (s : State) (g c k : Nat) : State :=
  let thr := s.sec16 secDdr5 6
  let level := min 0xFFFF (s.get (Reg.BUF_BUCKET_LEVEL c g) + k)
  if level < thr then s.put (Reg.BUF_BUCKET_LEVEL c g) level
  else
    let s1 := (s.put (Reg.BUF_BUCKET_LEVEL c g) (thr / 2)).bump (Reg.BUF_BUCKET_OVF c g) 1
    let ovf := s1.get (Reg.BUF_BUCKET_OVF c g)
    let s2 := s1.raise 0x700 (c + g / 2 * 2 ^ 4 + g % 2 * 2 ^ 5 + ovf * 2 ^ 8)
    if bit (s.sec8 secDdr5 4) 2 ∧ s.sec8 secDdr5 5 ≤ ovf ∧ s.groupState g = 0 ∧ !s.buf.switching.any (·.1 == g) then
      s2.declareDead g c 0
    else s2

/-- Raise the transient bucket by `k`. -/
def State.transientBucket (s : State) (k : Nat) : State :=
  let thr := s.sec16 secDdr5 0x0A
  let level := min 0xFFFF (s.get Reg.BUF_TBUCKET_LEVEL + k)
  if level < thr then s.put Reg.BUF_TBUCKET_LEVEL level
  else
    let s1 := (s.put Reg.BUF_TBUCKET_LEVEL (thr / 2)).bump Reg.BUF_TBUCKET_OVF 1
    s1.raise 0x701 (s1.get Reg.BUF_TBUCKET_OVF * 2 ^ 8)

/-- Lines recovered by replay (R451). -/
def State.replays (s : State) (k : Nat) : State :=
  (List.range k).foldl (fun s _ => (s.bump Reg.BUF_CNT_REPLAY_OK_COUNT 1).transientBucket 1) s

/-! ## Poisoning (R464 to R466) -/

/-- A page is poisoned with a cause: 0 uncorrectable read, 1 partial write, 2 block mover, 3 shard verification. -/
def State.poisonPage (s : State) (p cause : Nat) : State :=
  if s.pagePoisoned p then s
  else
    let s1 := s.bump Reg.BUF_CNT_POISONED_COUNT 1
    if s.buf.poisoned.length < 2048 then
      let b := s1.setBuf { s1.buf with poisoned := insertRising p s1.buf.poisoned }
      (b.put Reg.BUF_POISON_ENTRIES b.buf.poisoned.length).raise 0x705 (p + cause * 2 ^ 24)
    else
      let s2 := s1.setBuf { s1.buf with overflow := insertRising p s1.buf.overflow }
      let s3 := s2.raise 0x708 p
      if s2.buf.failed then s3 else (s3.setBuf { s3.buf with failed := true }).bufFail

/-- A write of all 64 lines and the check line ends a page's poison (R465, R466). -/
def State.unpoison (s : State) (p : Nat) : State :=
  let b := { s.buf with poisoned := s.buf.poisoned.filter (· != p), overflow := s.buf.overflow.filter (· != p) }
  (s.setBuf b).put Reg.BUF_POISON_ENTRIES b.poisoned.length

/-! ## The page code (R452) -/

/-- Product by α to the power `k` in the field of R283. -/
def gfPower : Nat → Nat → Nat
  | 0, a => a
  | k + 1, a => gfPower k (gfAlpha a)

/-- Syndrome `m` of a page: the sum of c × α^(i × m) over the symbols `c` at codeword positions `i`; the symbols may be the errors alone,
since those of a codeword sum to 0 (R452). -/
def pageSyndrome (cs : List (Nat × Nat)) (m : Nat) : Nat := cs.foldl (fun a c => a.xor (gfPower (c.1 * m) c.2)) 0

/-- The codeword position of the data symbol that holds byte `b` of a page, its chip, and whether it is the high byte (R447, R452). -/
def symbolPlace (b : Nat) : Nat × Nat × Bool :=
  (32 + b / 64 * 32 + b % 64 / 8 * 4 + b % 4, b % 4, b / 4 % 2 == 1)

/-- The injected faults of a page go with the scrub or a write of its lines (R453, R484). -/
def Buffer.clean (b : Buffer) (first last : Nat) : Buffer :=
  { b with faults := b.faults.filter fun f => !(decide (first ≤ f.1) && decide (f.1 < last)) }

/-! ## Correction (R453, R454, R457) -/

/-- BUF_HARD_FAULT: the page is to be retired (R467). -/
def State.hardFault (s : State) (p chip line : Nat) (rebuild : Bool) : State :=
  let s1 := (s.bump Reg.BUF_CNT_HARD_FAULT_COUNT 1).raise 0x702
    (p + chip * 2 ^ 24 + flag rebuild * 2 ^ 27 + line % 64 * 2 ^ 30)
  s1.setBuf { s1.buf with toRetire := s1.buf.toRetire ++ [(p, false)] }

/-- What the page code made of a page (R453): it corrected it, naming chips, and an error recurred on a chip and line or
not; the rebuild fallback named a chip; or neither. -/
def State.pageCorrected (s : State) (p : Nat) (r : PageResult) (byWrite : Bool) : State :=
  let g := s.pageGroup p
  let shard := s.sharded g
  let bad := fun (s : State) => s.poisonPage p (if byWrite then 1 else if shard then 3 else 0)
  let s := s.setBuf (s.buf.clean (64 * p) (64 * p + 64))
  match r with
  | .corrected chips recurs =>
    let s1 := s.bump Reg.BUF_CNT_CORRECTED_COUNT 1
    let named := chips.eraseDups.filter (· < 4)
    let s2 := if named.isEmpty ∧ !shard then s1.chipBucket g 4 1 else named.foldl (fun s c => s.chipBucket g c 1) s1
    match recurs with
    | some (c, line) => s2.hardFault p c line false
    | none => s2
  | .rebuilt chip line =>
    if shard then bad s
    else ((s.bump Reg.BUF_CNT_REBUILT_COUNT 1).chipBucket g (chip % 4) (s.sec8 secDdr5 0x0E)).hardFault p (chip % 4)
      line true
  | .uncorrectable => bad s

/-- PAGE_CORRECTION_END (R453): a page with a persistent mismatch, or in shard mode with symbol errors, has been decoded;
`byWrite` where a write smaller than a page found it. A page already poisoned, or of a lost group, is not corrected. -/
def execPageCorrectionEnd (page : Nat) (r : PageResult) (byWrite : Bool) (s : State) :
    Host.Outcome State Fault Refusal :=
  .next (if s.bufPages ≤ page ∨ s.pagePoisoned page ∨ s.get Reg.BUF_STATE_TRAINED = 0 then s
    else s.pageCorrected page r byWrite)

/-- CA_PARITY_ALERT (R446): the command sequence is repeated and the transient bucket rises. -/
def execCaParityAlert (s : State) : Host.Outcome State Fault Refusal :=
  .next (if s.get Reg.BUF_STATE_TRAINED = 0 then s
    else (s.bump Reg.BUF_CNT_CA_PARITY_COUNT 1).transientBucket 1)

/-- CHIP_BUCKET_LEAK (R461): every chip bucket's LEVEL falls by 1, never below 0. -/
def execChipBucketLeak (s : State) : Host.Outcome State Fault Refusal :=
  .next <|
    (List.range 20).foldl (fun s i =>
      let f := Reg.BUF_BUCKET_LEVEL (i % 5) (i / 5)
      s.put f (s.get f - 1)) s

/-- TRANSIENT_BUCKET_LEAK (R461). -/
def execTransientBucketLeak (s : State) : Host.Outcome State Fault Refusal :=
  .next (s.put Reg.BUF_TBUCKET_LEVEL (s.get Reg.BUF_TBUCKET_LEVEL - 1))

/-- SHARD_MODE_SWITCH (R455): at a line boundary, with no read-modify-write in flight, the group of the oldest declaration
switches. -/
def execShardModeSwitch (s : State) : Host.Outcome State Fault Refusal :=
  .next <|
    match s.buf.switching with
    | (g, c) :: t => (s.setBuf { s.buf with switching := t }).enterShard g c
    | [] => s

/-- A write of BUF.DEAD_REQ (R477): the fields are stored, and with GO the request is carried out. -/
def State.writeDeadReq (s : State) (v : Nat) : State × Bool :=
  let s1 := ((s.put Reg.BUF_DEAD_REQ_RANK (bits v 5 5)).put Reg.BUF_DEAD_REQ_SUBCH (bits v 4 4))
  let s2 := if bits v 2 0 ≤ 4 then s1.put Reg.BUF_DEAD_REQ_CHIP (bits v 2 0) else s1
  if bit v 31 then
    s2.deadRequest (2 * s2.get Reg.BUF_DEAD_REQ_SUBCH + s2.get Reg.BUF_DEAD_REQ_RANK) (s2.get Reg.BUF_DEAD_REQ_CHIP)
  else (s2, false)

/-! ## Beats and lines (R447, R449, R450, R452, R456) -/

/-- What an unwritten byte of the page store reads as (R449): the fill writes zeros, and above the mark reads return
zeros. -/
def bufDefault (_ : Nat) : Byte := 0

/-- XOR of bytes. -/
def xorAll (l : List Nat) : Nat := l.foldl Nat.xor 0

/-- The dead chip of a group in shard mode. -/
def State.deadChip (s : State) (g : Nat) : Option Nat := if s.sharded g then some (s.groupState g - 8) else none

/-- The bits in which chip `c` holds a byte of a beat otherwise than it was written (R484). -/
def Buffer.errorAt (b : Buffer) (line beat c : Nat) : Nat :=
  xorAll ((b.faults.filter fun f => f.1 == line && f.2.1 == c && f.2.2.1 == beat).map fun f => f.2.2.2)

/-- The five bytes of a beat as the chips hold them: the four data bytes, and in chip 4 the XOR of those written (R450). -/
def State.beatBytes (s : State) (line beat : Nat) : List Nat :=
  let d := (Memory.read bufDefault s.buf.mem (64 * line + 4 * beat) 4).map (·.toNat)
  ((d ++ [xorAll d]).zipIdx).map fun (x, c) => x.xor (s.buf.errorAt line beat c)

/-- The data bytes that BUF takes from a beat, and whether it shows a parity mismatch: in shard mode the dead chip's byte is the XOR of the other
four, and the check byte is not checked (R450, R456). -/
def takeBeat (dead : Option Nat) (l : List Nat) : List Nat × Bool :=
  match dead with
  | none => (l.take 4, xorAll l != 0)
  | some 4 => (l.take 4, false)
  | some c => ((l.set c (xorAll (l.eraseIdx c))).take 4, false)

/-- The 64 bytes of a line as read, and whether some beat shows a mismatch. -/
def State.lineRead (s : State) (line : Nat) : List Byte × Bool :=
  let beats := (List.range 16).map fun k => takeBeat (s.deadChip (s.pageGroup (line / 64))) (s.beatBytes line k)
  ((beats.flatMap (·.1)).map (BitVec.ofNat 8), beats.any (·.2))

/-- The error of a chip's byte as BUF takes it: the dead chip's is that of the other four together. -/
def State.takenError (s : State) (dead : Option Nat) (line beat c : Nat) : Nat :=
  if dead = some c then xorAll (((List.range 5).filter (· != c)).map fun d => s.buf.errorAt line beat d) else s.buf.errorAt line beat c

/-- The symbols of a page that the page code finds in error, as line, pair of beats and chip (R452). -/
def State.symbolErrors (s : State) (p : Nat) : List (Nat × Nat × Nat) :=
  let dead := s.deadChip (s.pageGroup p)
  let places := ((s.buf.faults.filter fun f => f.1 / 64 == p).flatMap fun f => (List.range 4).map fun c => (f.1, f.2.2.1 / 2, c)).eraseDups
  places.filter fun (l, m, c) => s.takenError dead l (2 * m) c != 0 || s.takenError dead l (2 * m + 1) c != 0

/-- Whether the bytes of chip `c` replaced by the XOR of the other four of each beat give a codeword (R453). -/
def State.rebuildsFrom (s : State) (p c : Nat) : Bool :=
  (s.buf.faults.filter fun f => f.1 / 64 == p).all fun f => (List.range 4).all fun d => s.takenError (some c) f.1 f.2.2.1 d == 0

/-- What the page code makes of a page's faults (R453, R457): up to 16 symbols are corrected, more are for the rebuild fallback, which shard
mode has not. A scrubbed fault does not recur. -/
def State.decodePage (s : State) (p : Nat) : PageResult :=
  let e := s.symbolErrors p
  if e.length ≤ 16 then .corrected (e.map fun x => x.2.2) none
  else if s.sharded (s.pageGroup p) then .uncorrectable
  else match (List.range 4).filter fun c => s.rebuildsFrom p c with
    | [c] => .rebuilt c (((e.head?).map fun x => x.1 % 64).getD 0)
    | _ => .uncorrectable

/-! ## Access to the page store (R451 to R454, R457, R458, R463 to R466) -/

/-- A page read whole with its check line (R457, R466): errors are corrected, or the page is poisoned. -/
def State.verifyPage (s : State) (p : Nat) (byWrite : Bool) : State :=
  let s1 := if s.sharded (s.pageGroup p) then s.bump Reg.BUF_CNT_SHARD_VERIFY_COUNT 1 else s
  if s.pagePoisoned p ∨ ((s.symbolErrors p).isEmpty ∧ !((List.range 64).any fun i => (s.lineRead (64 * p + i)).2)) then s1
  else s1.pageCorrected p (s.decodePage p) byWrite

/-- The lines of page `p` that the bytes from `a` up to `a + n` touch. -/
def touchedLines (p a n : Nat) : List Nat :=
  (List.range 64).filterMap fun i => if a < 64 * (64 * p + i) + 64 ∧ 64 * (64 * p + i) < a + n then some (64 * p + i) else none

/-- The pages that an access touches. -/
def touchedPages (a n : Nat) : List Nat := (List.range ((a + n + 4095) / 4096 - a / 4096)).map (a / 4096 + ·)

/-- Before the lines of an access are used (R451, R453, R466): a line that shows a mismatch in both replays, as an injected fault does,
has its page corrected; a failed buffer decodes every page. -/
def State.checkLines (s : State) (a n : Nat) (byWrite : Bool) : State :=
  (touchedPages a n).foldl (fun s p =>
    if s.pagePoisoned p then s
    else if s.buf.failed then s.verifyPage p byWrite
    else if (touchedLines p a n).any fun l => (s.lineRead l).2 then s.pageCorrected p (s.decodePage p) byWrite
    else s) s

/-- In shard mode (R457, R459): the pages that an access consumes whole, and with SHARD_FULL_VERIFY every page it touches, are verified. -/
def State.checkPages (s : State) (a n : Nat) : State :=
  (touchedPages a n).foldl (fun s p =>
    if s.sharded (s.pageGroup p) ∧ ((a ≤ 4096 * p ∧ 4096 * p + 4096 ≤ a + n) ∨ bit (s.sec8 secDdr5 4) 0) then s.verifyPage p false else s) s

/-- Bytes at a buffer address as the lines give them; none where a page is poisoned (R465). -/
def State.bufTake (s : State) (a n : Nat) : Option (List Byte) :=
  if (touchedPages a n).any s.pagePoisoned then none
  else some ((((List.range ((a + n + 63) / 64 - a / 64)).flatMap fun i => (s.lineRead (a / 64 + i)).1).drop (a % 64)).take n)

/-- A read of lines that its requester's whole access has been checked for. -/
def State.bufLines (s : State) (a n : Nat) : Option (List Byte) × State := ((s.checkLines a n false).bufTake a n, s.checkLines a n false)

/-- A read of the page store. -/
def State.bufRead (s : State) (a n : Nat) : Option (List Byte) × State := (s.checkPages a n).bufLines a n

/-- The faults after the lines from `a` up to `a + n` have been written (R450, R463): bytes not written keep theirs, with a check byte over
the bytes as they were read. -/
def Buffer.rewritten (b : Buffer) (a n : Nat) : Buffer :=
  let touched := fun (f : Nat × Nat × Nat × Nat) => decide (a < 64 * f.1 + 64 ∧ 64 * f.1 < a + n)
  let at_ := fun (f : Nat × Nat × Nat × Nat) => 64 * f.1 + 4 * f.2.2.1 + f.2.1
  let kept := b.faults.filter fun f => touched f && decide (f.2.1 < 4) && !(decide (a ≤ at_ f) && decide (at_ f < a + n))
  let beats := (kept.map fun f => (f.1, f.2.2.1)).eraseDups
  let checks := beats.map fun (l, k) => (l, 4, k, xorAll ((kept.filter fun f => f.1 == l && f.2.2.1 == k).map fun f => f.2.2.2))
  { b with faults := (b.faults.filter fun f => !(touched f)) ++ kept ++ checks.filter fun f => f.2.2.2 != 0 }

/-- A line write to the armed address: the fault is written and ARM clears (R484). -/
def State.lineWritten (s : State) (addr n : Nat) : State :=
  let line := (s.reg 0x40164).toNat
  if s.get Reg.BUF_INJECT_ARM = 1 ∧ addr / 64 ≤ line ∧ line * 64 < addr + n then
    (s.put Reg.BUF_INJECT_ARM 0).setBuf { s.buf with faults := s.buf.faults ++
      [(line, s.get Reg.BUF_INJECT_CHIP, s.get Reg.BUF_INJECT_BEAT, s.get Reg.BUF_INJECT_MASK)] }
  else s

/-- Store bytes at a buffer address in lines whose old content needs no look: whole pages written end their poison (R465). -/
def State.bufPut (s : State) (a : Nat) (l : List Byte) : State :=
  let b := s.buf.rewritten a l.length
  let s1 := (s.setBuf { b with mem := Memory.write bufDefault b.mem a l }).lineWritten a l.length
  let first := ceilDiv a 4096
  let last := (a + l.length) / 4096
  (List.range (last - first)).foldl (fun s i => s.unpoison (first + i)) s1

/-- Store bytes at a buffer address (R458, R463, R464): a page of which a part is written has its old lines checked, or in shard mode is
verified whole. -/
def State.bufWrite (s : State) (a : Nat) (l : List Byte) : State :=
  let n := l.length
  let parts := (touchedPages a n).filter fun p => !(decide (a ≤ 4096 * p) && decide (4096 * p + 4096 ≤ a + n))
  let s1 := parts.foldl (fun (s : State) p =>
    if s.pagePoisoned p then s
    else if s.sharded (s.pageGroup p) then s.verifyPage p true
    else
      let lo := max a (4096 * p)
      s.checkLines lo (min (a + n) (4096 * p + 4096) - lo) true) s
  s1.bufPut a l

/-! ## Retirement (R467 to R470) -/

/-- Whether a retirement request is refused (R469). -/
def State.retireRefused (s : State) (p : Nat) : Bool := decide (s.spareBase ≤ p) || (s.spareOf p).isSome

/-- A request to retire a page (R469, R481): refused with ERR, or BS acts on it. Answers whether it was refused. -/
def State.retireRequest (s : State) (p : Nat) : State × Bool :=
  if s.retireRefused p then ((s.put Reg.BUF_RETIRE_REQ_GO 0).put Reg.BUF_RETIRE_REQ_ERR 1, true)
  else
    let s1 := (s.put Reg.BUF_RETIRE_REQ_GO 1).put Reg.BUF_RETIRE_REQ_ERR 0
    (s1.setBuf { s1.buf with toRetire := s1.buf.toRetire ++ [(p, true)] }, false)

/-- A write of BUF.RETIRE_REQ (R481). -/
def State.writeRetireReq (s : State) (v : Nat) : State × Bool :=
  let s1 := s.put Reg.BUF_RETIRE_REQ_PAGE (bits v 22 0)
  if bit v 31 ∧ s.get Reg.BUF_RETIRE_REQ_GO = 0 then s1.retireRequest (bits v 22 0) else (s1, false)

/-- BS retires a page (R468): the lowest free entry takes it and decides where it lies. A page already retired is
retired again for a hard fault, not by request (R467, R469); with the table full, BUF_RETIRE_FULL (R470). Answers
whether a request found the table full. -/
def State.retirePage (s : State) (p : Nat) (byRequest : Bool) : State × Bool :=
  let i := s.get Reg.BUF_RETIRE_STATUS_ENTRIES
  let s0 := if byRequest then s.put Reg.BUF_RETIRE_REQ_GO 0 else s
  if 4096 ≤ i then
    let s1 := if s0.buf.unretired.contains p then s0
      else (s0.setBuf { s0.buf with unretired := insertRising p s0.buf.unretired }).raise 0x704 p
    (if byRequest then s1.put Reg.BUF_RETIRE_REQ_ERR 1 else s1, byRequest)
  else
    let s1 := (((s0.setBuf (s0.buf.clean (64 * p) (64 * p + 64))).put (Reg.BUF_RETIRE_VALID i) 1).put ⟨0x41000 + 4 * i, 30, 30⟩ (flag byRequest)).put
      (Reg.BUF_RETIRE_PAGE i) p
    ((s1.put Reg.BUF_RETIRE_STATUS_ENTRIES (i + 1)).raise 0x703 (p + i * 2 ^ 23 + flag byRequest * 2 ^ 35), false)

/-- The commands that wait on BUF.RETIRE_REQ end when its GO clears (R551, R618). -/
def State.endRetireWaiters (s : State) (full : Bool) : State :=
  (s.hif.cmds.filter fun c => c.started && ((c.opcode == 0xC0 && !c.isAta) || (c.isAta && c.ata == (0xFA, 0x81)))).foldl
    (fun s c => ((if c.isAta then s.raise 0x523 (0x81 + flag full * 2 ^ 8) else s).finish c.seq (if full then 0x7C6 else 0) 0)) s

/-- PAGE_RETIRE (R468): BS carries out the oldest retirement due. -/
def execPageRetire (s : State) : Host.Outcome State Fault Refusal :=
  .next <|
    match s.buf.toRetire with
    | (p, r) :: t =>
      let (s1, full) := (s.setBuf { s.buf with toRetire := t }).retirePage p r
      if r then s1.endRetireWaiters full else s1
    | [] => s

/-- PATROL_SCRUB_PASS (R457, R459, R170): a scheduled pass starts where SEQ_PARAMS enables it, or over the groups in
shard mode, whose pages it verifies whole. -/
def execPatrolScrubPass (s : State) : Host.Outcome State Fault Refusal :=
  .next <|
    let shards := (List.range 4).filter fun g => s.sharded g
    let wanted := bit (s.sec8 secSeqParams 3) 1
    if s.get Reg.BUF_STATE_TRAINED = 0 ∨ (!wanted ∧ shards.isEmpty) then s
    else
      let perGroup := s.bufPages / (s.bufSubs * s.bufRanks)
      let faulty := (s.buf.faults.map fun f => f.1 / 64).eraseDups
      let s1 := faulty.foldl (fun s p =>
        if s.pagePoisoned p then s
        else if s.sharded (s.pageGroup p) then (if (s.symbolErrors p).isEmpty then s else s.pageCorrected p (s.decodePage p) false)
        else if wanted then s.checkLines (4096 * p) 4096 false else s) s
      s1.bump Reg.BUF_CNT_SHARD_VERIFY_COUNT (shards.length * perGroup)

/-- BUF_INJECT_ARM (R484): a write of BUF.INJECT: the fields are stored; with ARM the next line write to INJECT_ADDR is
corrupted. -/
def State.writeInject (s : State) (v : Nat) : State :=
  let s1 := if bits v 30 28 ≤ 4 then s.put Reg.BUF_INJECT_CHIP (bits v 30 28) else s
  let s2 := (s1.put Reg.BUF_INJECT_BEAT (bits v 27 24)).put Reg.BUF_INJECT_MASK (bits v 7 0)
  if bit v 31 then s2.put Reg.BUF_INJECT_ARM 1 else s2

end Sys2Proof.Machine
end

