-- ==== Sys2Proof/Machine/Store.lean ====
section
/-! DEFINITION. Ordering, the cache directory and the lane schedulers (chapter 16, R556 to R573): overlap, the commit of a
write, the resolution of a read, destage, and what a media operation brings. -/

namespace Sys2Proof.Machine

/-! ## Commands on blocks -/

/-- Opcodes of the I/O commands (R542). -/
def opFlush : Nat := 0x00
/-- Write. -/
def opWrite : Nat := 0x01
/-- Read. -/
def opRead : Nat := 0x02
/-- Write Uncorrectable. -/
def opWriteUnc : Nat := 0x04
/-- Write Zeroes. -/
def opWriteZeroes : Nat := 0x08
/-- Verify. -/
def opVerify : Nat := 0x0C

/-- Whether a command came from an I/O queue or from SATA. -/
def Command.isIo (c : Command) : Bool := c.sq != 0 && c.sq != sqTunnel
/-- Reads and Verifies (R556). -/
def Command.isRead (c : Command) : Bool := c.isIo && (c.opcode == opRead || c.opcode == opVerify)
/-- Writes of every kind (R556). -/
def Command.isWrite (c : Command) : Bool :=
  c.isIo && (c.opcode == opWrite || c.opcode == opWriteUnc || c.opcode == opWriteZeroes)

/-- Blocks (native) or logical sectors (compatibility mode). -/
def Command.nlb (c : Command) : Nat := c.cdw.getD 2 0 % 65536 + 1
/-- FUA. -/
def Command.fua (c : Command) : Bool := bit (c.cdw.getD 2 0) 30

/-- Logical sectors per block: 8 in 512e (R613), else 1. -/
def State.lbaUnit (s : State) : Nat := if s.boot.compat ∧ s.get Reg.HIF_SATA_SECTOR_4KN = 0 then 8 else 1

/-- The first block and the number of blocks a command touches. -/
def State.span (s : State) (c : Command) : Nat × Nat :=
  let u := s.lbaUnit
  (c.slba / u, (c.slba + c.nlb + u - 1) / u - c.slba / u)

/-- The blocks of a command. -/
def State.blocksOf (s : State) (c : Command) : List Nat :=
  let (a, n) := s.span c
  (List.range n).map (a + ·)

/-- Overlap (R556): same namespace, a shared block. -/
def State.overlap (s : State) (c d : Command) : Bool :=
  let (a, n) := s.span c
  let (b, m) := s.span d
  c.nsid == d.nsid && decide (a < b + m) && decide (b < a + n)

/-- Whether an overlapping write fetched earlier has neither committed nor ended (R558, R559). -/
def State.writeBefore (s : State) (c : Command) : Bool :=
  s.hif.cmds.any fun d => d.isWrite && !d.resolved && !d.ended && fetchedBefore d.seq c.seq && s.overlap c d

/-- Whether an overlapping read fetched earlier has neither resolved nor ended: a write that committed before it would give it data of a
write fetched after it (R20; log entry 177). -/
def State.readBefore (s : State) (c : Command) : Bool :=
  s.hif.cmds.any fun d => d.isRead && !d.resolved && !d.ended && fetchedBefore d.seq c.seq && s.overlap c d

/-! ## Namespaces -/

/-- The changing state of a namespace. -/
def State.ns (s : State) (k : Nat) : Namespace :=
  (s.cache.namespaces[k - 1]?).getD ⟨0, 0, false, 0, [], none, 0, 0, false, 0, 0⟩

/-- Change a namespace. -/
def State.mapNs (s : State) (k : Nat) (f : Namespace → Namespace) : State :=
  s.setCache { s.cache with namespaces := s.cache.namespaces.zipIdx.map fun (x, i) => if i + 1 = k then f x else x }

/-- Whether a namespace encrypts (R581, R582). -/
def State.nsEncrypts (s : State) (k : Nat) : Bool :=
  bit s.cap0 9 && !s.boot.compat && (((s.nsMap k).map fun m => bit m.flags 0).getD false)

/-- The key a block is written under. -/
def State.blockKey (s : State) (ns lba : Nat) : Option (Nat × Nat) :=
  if s.nsEncrypts ns then some ((s.ns ns).keyGen, lba) else none

/-- The lanes of a namespace. -/
def State.nsLanes (s : State) (k : Nat) : List Nat := ((s.nsMap k).map fun m => m.parts.map (·.1)).getD []

/-- Whether a namespace is ready (R101, R638): every lane it lies on has ended SYSTEM_AREA. -/
def State.nsReady (s : State) (k : Nat) : Bool :=
  !(s.nsLanes k).isEmpty && (s.nsLanes k).all fun n => s.get (laneBootField n) == 4

/-- Why media on a lane cannot be used: 0 it can; else the status (R639, R659, R660). -/
def State.mediaStatus (s : State) (n : Nat) : Nat :=
  if s.bufDown then 0x7C3
  else if s.laneOut n ∨ s.laneFailed n ∨ 2 ≤ s.devState ∨ s.stopLasts ∨ s.shutState ≠ 0 then 0x7C4
  else 0

/-- Whether the data of a lane stays out of reach: it is out of service, failed its boot, or the device has stopped. -/
def State.lostLane (s : State) (n : Nat) : Bool := s.laneOut n || s.laneFailed n || decide (2 ≤ s.devState) || s.stopLasts

/-! ## Protection information (R538) -/

/-- CRC-16 of the 16-bit guard (polynomial 0x8BB7, not reflected). -/
def guard16 (l : List Byte) : Nat :=
  l.foldl (fun c b => (List.range 8).foldl
    (fun c _ => if c / 32768 % 2 = 1 then (c * 2 % 65536).xor 0x8BB7 else c * 2 % 65536) (c.xor (b.toNat * 256))) 0

/-- The protection information of a block: guard, application tag and reference tag, most significant byte first. -/
def makePi (data : List Byte) (app ref : Nat) : List Byte := beBytes 2 (guard16 data) ++ beBytes 2 app ++ beBytes 4 ref

/-- The reference tag of block `i` of a command: type 3 does not count. -/
def refTag (pi start i : Nat) : Nat := if pi = 3 then start else (start + i) % 2 ^ 32

/-- Check block `i` of a command (R538): 0, or the SCT 0x2 status. PRCHK is in dword 12 bits [28:26]. -/
def checkPi (pi : Nat) (c : Command) (i : Nat) (b : BlockData) : Nat :=
  let g := leVal (b.tag.take 2).reverse
  let a := leVal ((b.tag.drop 2).take 2).reverse
  let r := leVal ((b.tag.drop 4).take 4).reverse
  let w := c.cdw.getD 2 0
  let app := c.cdw.getD 5 0 % 65536
  let mask := c.cdw.getD 5 0 / 65536
  if pi = 0 ∨ (a = 0xFFFF ∧ (pi ≠ 3 ∨ r = 0xFFFFFFFF)) then 0
  else if bit w 28 ∧ g ≠ guard16 b.data then 0x282
  else if bit w 27 ∧ a.land mask ≠ app.land mask then 0x283
  else if bit w 26 ∧ pi ≠ 3 ∧ r ≠ refTag pi (c.cdw.getD 4 0) i then 0x284
  else 0

/-- The first failing check of blocks in order. -/
def checkAll (pi : Nat) (c : Command) : Nat → List BlockData → Nat
  | _, [] => 0
  | i, b :: t => if checkPi pi c i b ≠ 0 then checkPi pi c i b else checkAll pi c (i + 1) t

/-- Whether the controller generates and strips the protection information (PRACT). -/
def Command.pract (c : Command) : Bool := bit (c.cdw.getD 2 0) 29

/-! ## The uncorrectable list (R563, R564) -/

/-- Ranges of a namespace without the sectors `a` to `a + n - 1`. -/
def cutRanges (ns a n : Nat) (l : List (Nat × Nat × Nat)) : List (Nat × Nat × Nat) :=
  l.flatMap fun (k, b, m) =>
    if k ≠ ns ∨ b + m ≤ a ∨ a + n ≤ b then [(k, b, m)]
    else (if b < a then [(k, b, a - b)] else []) ++ (if a + n < b + m then [(k, a + n, b + m - (a + n))] else [])

/-- Ranges with `a` to `a + n - 1` added: adjacent and overlapping ranges merge into one. -/
def addRange (ns a n : Nat) (l : List (Nat × Nat × Nat)) : List (Nat × Nat × Nat) :=
  let touch := l.filter fun (k, b, m) => k == ns && decide (b ≤ a + n) && decide (a ≤ b + m)
  let rest := l.filter fun (k, b, m) => !(k == ns && decide (b ≤ a + n) && decide (a ≤ b + m))
  let lo := touch.foldl (fun x (_, b, _) => min x b) a
  let hi := touch.foldl (fun x (_, b, m) => max x (b + m)) (a + n)
  rest ++ [(ns, lo, hi - lo)]

/-- The first listed sector of a stretch. -/
def State.listedIn (s : State) (ns a n : Nat) : Option Nat :=
  s.cache.wunc.foldl (fun r (k, b, m) =>
    if k = ns ∧ b < a + n ∧ a < b + m then some (min ((r.getD (max a b))) (max a b)) else r) none

/-- The list replaced, with CACHE.WUNC. -/
def State.setWunc (s : State) (l : List (Nat × Nat × Nat)) : State :=
  (s.setCache { s.cache with wunc := l }).put Reg.CACHE_WUNC_RANGES l.length

/-! ## The cache directory (R567, R568) -/

/-- Descriptors of the directory. -/
def descriptors : Nat := 2097152

/-- The extent of a block. -/
def State.extent (s : State) (ns lba : Nat) : Option Extent :=
  s.cache.extents.find? fun x => x.ns == ns && x.lba == lba

/-- Groups of a zone: those of each of its tracks (R282). -/
def Zone.groups (z : Zone) : Nat := if z.par = 0 then 0 else z.tracks * (z.perTrack / z.grp)

/-- Groups of every track-parity zone of every present lane: the bits of the stale bitmap (R285). -/
def State.staleBits (s : State) : Nat :=
  ((List.range 4).filter s.present).foldl (fun k n => (s.laneZones n).foldl (fun k z => k + z.groups) k) 0

/-- Pages CACHE may use: the page store less spares, the directory (R567), the stale bitmap (R285) and the running sums of
SOFT_COMBINE, 4.5 MiB per present lane (R315). -/
def State.cachePages (s : State) : Nat :=
  s.bufPages - 4096 - 16384 - ceilDiv s.staleBits 32768 - 1152 * s.laneCount

/-- Pages in use: a ZERO extent has none (R562). -/
def State.pagesUsed (s : State) : Nat := (s.cache.extents.filter (·.kind != .zero)).length

/-- Whether a running read that has resolved holds a block (R559). -/
def State.pinned (s : State) (ns lba : Nat) : Bool :=
  s.hif.cmds.any fun c => c.isRead && c.resolved && !c.ended && c.nsid == ns && c.got.any (·.1 == lba)

/-- The least recently used CLEAN extent that nothing pins (R568), but for the blocks `own` of namespace `ns`, which the write that
needs the room is about to replace. -/
def State.victim (s : State) (ns : Nat) (own : List Nat) : Option Extent :=
  (s.cache.extents.filter fun x => x.kind == .clean && !s.pinned x.ns x.lba && !(x.ns == ns && own.contains x.lba)).foldl (fun b x =>
    match b with
    | none => some x
    | some y => if x.stamp < y.stamp then some x else some y) none

/-- Take a block out of the directory. -/
def State.dropExtent (s : State) (ns lba : Nat) : State :=
  s.setCache { s.cache with extents := s.cache.extents.filter fun x => !(x.ns == ns && x.lba == lba) }

/-- Make room for `d` descriptors and `p` pages by freeing CLEAN extents; answers 0 when there is room, 1 when no
descriptor can be freed, 2 when no page can (R29, R568). -/
def State.makeRoom (s : State) (ns : Nat) (own : List Nat) (d p : Nat) : Nat → State × Nat
  | 0 => (s, 1)
  | fuel + 1 =>
    let noD : Bool := decide (descriptors < s.cache.extents.length + d)
    let noP : Bool := decide (s.cachePages < s.pagesUsed + p)
    if !noD && !noP then (s, 0)
    else
      match s.victim ns own with
      | none => (s, if noD then 1 else 2)
      | some x => (s.dropExtent x.ns x.lba).makeRoom ns own d p fuel

/-- CACHE.STATUS and CACHE.DIRTY (R596, R597). -/
def State.showCache (s : State) : State :=
  let dirty := (s.cache.extents.filter (·.kind != .clean)).length
  let high := decide (s.sec8 secSeqParams 1 * descriptors ≤ dirty * 100)
  (((s.put Reg.CACHE_STATUS_FREE (descriptors - s.cache.extents.length)).put Reg.CACHE_DIRTY_EXTENTS dirty).put
    Reg.CACHE_STATUS_HIGH (flag high)).put Reg.CACHE_STATUS_WRITE_THROUGH (flag (decide (s.cache.through ≠ 0)))

/-- Put a block into the directory, over whatever extent it had. -/
def State.putExtent (s : State) (ns lba : Nat) (k : ExtentKind) (d : BlockData) (version : Nat) : State :=
  let s1 := s.dropExtent ns lba
  s1.setCache { s1.cache with extents := s1.cache.extents ++ [⟨ns, lba, k, d, s1.cache.clock, version⟩],
                              clock := s1.cache.clock + 1 }

/-- A block read from media becomes a CLEAN extent where there is room and nothing newer (R559, R568, R318). -/
def State.cacheClean (s : State) (ns lba : Nat) (d : BlockData) : State :=
  if (s.extent ns lba).isSome then s
  else
    let (s1, full) := s.makeRoom 0 [] 1 1 2
    if full ≠ 0 then s1 else s1.putExtent ns lba .clean d 0

/-- Write-through is entered or left (R29, R595). -/
def State.setThrough (s : State) (v : Nat) : State :=
  if s.cache.through = v then s
  else
    let s1 := s.setCache { s.cache with through := v }
    if v = 0 then s1.raise 0x680 0
    else if s.cache.through = 0 then s1.raise 0x680 (1 + (if v = 1 then 2 else 0)) else s1

/-! ## Schedulers (R571 to R573) -/

/-- Lane `n`'s operations. -/
def State.sched (s : State) (n : Lane) : List MediaOp := s.scheds[n]
/-- Replace them, with CACHE.SCHED (R598). -/
def State.setSched (s : State) (n : Lane) (l : List MediaOp) : State :=
  { s with scheds := s.scheds.set n l }.put (Reg.CACHE_SCHED_PENDING n) (min 4096 l.length)

/-- Whether an operation belongs to the device self-test (R592): the device's own reads. -/
def MediaOp.isTest (o : MediaOp) : Bool := !o.host && !o.write && o.rebuild.isNone

/-- A host operation reaches a lane: the self-test stops there at its next sector boundary (R592), but in captive mode
(R617). -/
def State.yieldTest (s : State) (n : Lane) : State :=
  match s.cache.selfTest with
  | none => s
  | some t =>
    if t.captive ∨ t.yielding.contains n.val then s
    else
      let front : Bool := ((s.sched n).head?.map (·.isTest)).getD false
      let s1 := if front then (s.dropLadder n).nominalRead n else s
      (s1.setSched n ((s1.sched n).filter fun o => !o.isTest)).setCache
        { s1.cache with selfTest := some { t with yielding := t.yielding ++ [n.val] } }

/-- Hand an operation to a lane; beyond 4,096 it waits with its commands and CACHE_SCHED_FULL is raised (R573). -/
def State.addOp (s : State) (n : Lane) (o : MediaOp) : State :=
  let s9 := if o.host then s.yieldTest n else s
  let s0 := if (s9.sched n).isEmpty then
      let t := s9.setChan n { (s9.lane n).chan with delivered := [], failed := [], mended := [] }
      if o.write then t else t.readStep n
    else s9
  let o1 := { o with id := s0.cache.nextOp, since := s0.crn.elapsed }
  let s1 := (s0.setCache { s0.cache with nextOp := s0.cache.nextOp + 1 }).setSched n (s0.sched n ++ [o1])
  if (s0.sched n).length = 4096 then s1.raise 0x681 n.val else s1

/-- Cut blocks into operations: one lane, one head and one track each (R571). -/
def groupTracks : List (Nat × OpBlock) → List (Nat × List OpBlock)
  | [] => []
  | (l, b) :: t =>
    match groupTracks t with
    | (m, c :: bs) :: r =>
      if l = m ∧ pbaHead b.pba = pbaHead c.pba ∧ pbaTrack b.pba = pbaTrack c.pba then (l, b :: c :: bs) :: r
      else (l, [b]) :: (m, c :: bs) :: r
    | r => (l, [b]) :: r

/-- Where blocks lie. -/
def State.placed (s : State) (ns : Nat) (lbas : List Nat) : List (Nat × OpBlock) :=
  lbas.filterMap fun b => (s.blockAt ns b).map fun (l, p) => (l, ⟨ns, b, p⟩)

/-- Media reads for a command's missing blocks. -/
def State.queueReads (s : State) (ns : Nat) (lbas owners : List Nat) (urgent host : Bool) : State :=
  (groupTracks (s.placed ns lbas)).foldl (fun s (l, bs) =>
    s.addOp ⟨l % 4, Nat.mod_lt _ (by decide)⟩
      { id := 0, write := false, blocks := bs, sectors := [], versions := [], landed := [], owners := owners, since := 0,
        urgent := urgent, host := host, rebuild := none }) s

/-- Media writes of block versions: (LBA, content, version). -/
def State.queueWrites (s : State) (ns : Nat) (l : List (Nat × BlockData × Nat)) (urgent host : Bool) : State :=
  let at_ := fun b => (l.find? (·.1 == b)).getD (0, ⟨[], []⟩, 0)
  (groupTracks (s.placed ns (l.map (·.1)))).foldl (fun s (n, bs) =>
    let secs := bs.map fun b => (⟨b.pba, (at_ b.lba).2.1.data, (at_ b.lba).2.1.tag, s.blockKey ns b.lba⟩ : WriteSector)
    s.addOp ⟨n % 4, Nat.mod_lt _ (by decide)⟩
      { id := 0, write := true, blocks := bs, sectors := secs, versions := bs.map fun b => (at_ b.lba).2.2, landed := [],
        owners := [], since := 0, urgent := urgent, host := host, rebuild := none }) s

/-- Whether some operation already writes this version of a block. -/
def State.inFlight (s : State) (ns lba version : Nat) : Bool :=
  s.scheds.toList.any fun l => l.any fun o => o.write &&
    (o.blocks.zip o.versions).any fun (b, v) => b.ns == ns && b.lba == lba && v == version

/-- Hand dirty extents of the list to the lanes that may write (R30, R570, R635, R639, R659). -/
def State.destage (s : State) (l : List Extent) (urgent : Bool) : State :=
  if s.get Reg.KLN_STATUS_WRITE_OPEN = 0 ∨ s.shutState ≠ 0 ∨ s.bufDown && !s.buf.stopDue then s
  else
    let go := l.filter fun x => x.kind != .clean && !s.inFlight x.ns x.lba x.version &&
      (match s.blockAt x.ns x.lba with
        | some (n, _) => s.mediaStatus n == 0 || (s.buf.stopDue && !s.laneOut n)
        | none => false : Bool)
    ((go.map (·.ns)).eraseDups).foldl (fun s k =>
      s.queueWrites k ((go.filter (·.ns == k)).map fun x => (x.lba, x.data, x.version)) urgent true) s

/-- Every dirty extent. -/
def State.destageAll (s : State) (urgent : Bool) : State := s.destage s.cache.extents urgent

/-- The versions of the dirty extents of a namespace, or of all (0xFFFFFFFF). -/
def State.dirtyVersions (s : State) (ns : Nat) : List (Nat × Nat × Nat) :=
  (s.cache.extents.filter fun x => x.kind != .clean && (ns == 0xFFFFFFFF || x.ns == ns)).map fun x => (x.ns, x.lba, x.version)

/-- A lane on which some block version that must reach media cannot be written: its status, else 0. -/
def State.stuckStatus (s : State) (l : List (Nat × Nat × Nat)) : Nat :=
  l.foldl (fun r (k, b, _) =>
    if r ≠ 0 then r
    else match s.blockAt k b with
      | some (n, _) => if s.lostLane n then s.mediaStatus n else 0
      | none => 0) 0

/-! ## Reads (R559) -/

/-- 4,096 bytes that the manual leaves undefined (log entry 1). -/
def State.freeBlock (s : State) : BlockData × State :=
  (⟨(List.range 512).flatMap fun i => leBytes 8 (Config.freeValue (s.free + i)).toNat,
    leBytes 8 (Config.freeValue (s.free + 512)).toNat⟩, { s with free := s.free + 513 })

/-- What a delivered sector holds for a block: its plain data, or undefined content where it was encrypted under another
key (R21, R583). -/
def State.mediaBlock (s : State) (b : OpBlock) : BlockData × State :=
  match s.mediaAt b.pba with
  | some m => if m.key = s.blockKey b.ns b.lba then (⟨m.data, m.tag⟩, if m.key.isSome then s.wake .xts else s) else s.freeBlock
  | none => s.freeBlock

/-- The content of a cached block. -/
def Extent.content (x : Extent) : BlockData := x.data

/-- The data a SATA read returns, in order; in 512e the sectors named. -/
def State.readBytes (s : State) (c : Command) : List Byte :=
  let blk := fun b => ((c.got.find? (·.1 == b)).map (·.2)).getD ⟨zeros 4096, zeros 8⟩
  if s.lbaUnit = 8 then
    (List.range c.nlb).flatMap fun i => ((blk ((c.slba + i) / 8)).data.drop (512 * ((c.slba + i) % 8))).take 512
  else (s.blocksOf c).flatMap fun b => (blk b).data

/-- Record the first failure of a command: the lowest failing LBA names it (R24, R319). -/
def Command.fail (c : Command) (status lba : Nat) : Command :=
  if c.error = 0 ∨ lba < c.errLba then { c with error := status, errLba := lba } else c

/-- The first failing protection check of blocks of a command, by LBA. -/
def checkPart (pi : Nat) (c : Command) (l : List (Nat × BlockData)) : Nat :=
  (l.find? fun x => checkPi pi c (x.1 - c.slba) x.2 != 0).elim 0 fun x => checkPi pi c (x.1 - c.slba) x.2

/-- What a block's transfer carries: its data, and its metadata where the format has it and PRACT does not strip it. -/
def State.hostBlock (s : State) (c : Command) (x : Nat × BlockData) : Nat × List Byte × List Byte :=
  let k := s.ns c.nsid
  (x.1, x.2.data, if k.lbaf == 1 && !(k.pi != 0 && c.pract) then x.2.tag else [])

/-- A part of an NVMe read has become available (R24 to R26, R538): its protection information is checked where the namespace uses it, and
it is transferred at once, unless the command has failed. A SATA read transfers its data when all of it is there (log entry 177). -/
def State.readPart (s : State) (seq : Nat) (l : List (Nat × BlockData)) : State :=
  match s.cmd seq with
  | none => s
  | some c =>
    let bad := if (s.ns c.nsid).lbaf = 1 then checkPart (s.ns c.nsid).pi c l else 0
    if c.ended ∨ !c.resolved ∨ c.error ≠ 0 ∨ c.isAta ∨ l.isEmpty then s
    else if bad ≠ 0 then s.finish seq bad 0
    else if c.opcode = opVerify then s
    else if c.xfer ≠ 0 then s.finish seq c.xfer 0
    else s.emit (.hostPart c.port seq (l.map (s.hostBlock c)))

/-- A read whose parts have all been transferred completes (R23, R25); one with a failed part completes with its error. -/
def State.readDone (s : State) (seq : Nat) : State :=
  match s.cmd seq with
  | none => s
  | some c =>
    if c.ended ∨ !c.resolved then s
    else if c.error ≠ 0 then
      let h := { s.hif with mediaErrors := s.hif.mediaErrors + (if c.error = 0x281 then 1 else 0) }
      (s.setHif h).finish seq c.error 0
    else if !c.missing.isEmpty then s
    else
      if c.opcode = opVerify then s.finish seq 0 0
      else if c.isAta ∧ c.xfer ≠ 0 then s.finish seq c.xfer 0
      else
        let h := { s.hif with readBlocks := s.hif.readBlocks + (s.span c).2 * 8, readCmds := s.hif.readCmds + 1 }
        let s1 := s.setHif h
        (if c.isAta then s1.emit (.sataData (s.readBytes c)) else s1).finish seq 0 0

/-- The limit of a command in ms (R310, R612): 0 none set by the host. -/
def State.cmdLimit (s : State) (c : Command) : Nat :=
  if c.isAta then s.hif.sata.readTimer * 100 else (s.ns c.nsid).tler * 100

/-- Whether a block of a namespace is a target of the ladder that runs for a lane's read in work (Races with the ladder). -/
def State.onLadder (s : State) (n : Lane) (ns lba : Nat) : Bool :=
  match (s.lane n).rcv.ladder, (s.sched n).head? with
  | some l, some o => o.host && !o.write && o.blocks.any fun b => b.ns == ns && b.lba == lba && l.targets.contains b.pba
  | _, _ => false

/-- A read that needs targets of a running ladder joins it and takes its outcome; the ladder then runs until the latest of the limits
(Races with the ladder). -/
def State.joinLadders (s : State) (c : Command) (lbas : List Nat) : State :=
  (List.finRange 4).foldl (fun s n =>
    match (s.lane n).rcv.ladder, s.sched n with
    | some l, o :: t =>
      if lbas.any (s.onLadder n c.nsid) then
        let limit := s.ladderLimit (s.cmdLimit c)
        (s.setRcv n { (s.lane n).rcv with ladder := some { l with
          waiting := l.waiting ++ [(c.seq, limit)], limitMs := max l.limitMs limit } }).setSched n
            ({ o with owners := o.owners ++ [c.seq] } :: t)
      else s
    | _, _ => s) s

/-- A read resolves (R559) once every overlapping write fetched earlier has committed or ended: it takes its hits, fails
on listed blocks and poisoned pages, and hands the rest to the lanes. -/
def State.resolve (s : State) (seq : Nat) (b : BufAccess) : State :=
  match s.cmd seq with
  | none => s
  | some c =>
    if c.ended ∨ c.resolved ∨ !c.started ∨ s.writeBefore c then s
    else
      let u := s.lbaUnit
      let poisonable : Bool := !s.buf.poisoned.isEmpty || !s.buf.overflow.isEmpty || s.bufDown
      let s0 := s.replays b.replays
      let s1 := if (List.range 4).any s.sharded then s0.bump Reg.BUF_CNT_SHARD_VERIFY_COUNT b.verified else s0
      let blocks := s.blocksOf c
      let hits := blocks.filterMap fun k => (s.extent c.nsid k).map fun x => (k, x.content)
      let miss := blocks.filter fun k => (s.extent c.nsid k).isNone
      let c1 := match s.listedIn c.nsid c.slba c.nlb with
        | some l => c.fail 0x281 l
        | none => c
      let c2 := (hits.filter fun h => poisonable && b.poisoned.contains h.1).foldl (fun c h => c.fail 0x7C2 (h.1 * u)) c1
      let c3 := miss.foldl (fun c k => match s.blockAt c.nsid k with
        | some (n, _) => if s.mediaStatus n ≠ 0 then c.fail (s.mediaStatus n) (k * u) else c
        | none => c.fail 0x080 (k * u)) c2
      let c4 := { c3 with resolved := true, got := hits, missing := if c3.error = 0 then miss else [] }
      let s2 := s1.mapCmd seq fun _ => c4
      let s3 := s2.setCache { s2.cache with
        clock := s2.cache.clock + 1
        extents := s2.cache.extents.map fun x => if x.ns = c.nsid ∧ blocks.contains x.lba then { x with stamp := s2.cache.clock }
          else x }
      let held := fun b => (List.finRange 4).any fun n => s3.onLadder n c.nsid b
      (((s3.joinLadders c4 (c4.missing.filter held)).queueReads c.nsid (c4.missing.filter fun b => !held b) [seq] c.urgent true).readPart
        seq hits).readDone seq

/-! ## Writes (R557, R558, R562 to R564, R636) -/

/-- The content a write gives each of its blocks: from its data, zeros, or in 512e its sectors merged over `old`
(R614). -/
def State.newContent (s : State) (c : Command) (old : Nat → BlockData) (b : Nat) : BlockData :=
  let k := s.ns c.nsid
  let u := s.lbaUnit
  let ref := fun i => refTag k.pi (c.cdw.getD 4 0) i
  if u = 8 then
    let secs := (List.range 8).map fun j =>
      let l := 8 * b + j
      if c.slba ≤ l ∧ l < c.slba + c.nlb then (c.blocks.getD (l - c.slba) ⟨zeros 512, []⟩).data
      else ((old b).data.drop (512 * j)).take 512
    ⟨secs.flatten, zeros 8⟩
  else
    let i := b - c.slba
    if c.opcode = opWriteZeroes then
      ⟨zeros 4096, if k.lbaf = 1 ∧ k.pi ≠ 0 ∧ c.pract then makePi (zeros 4096) (c.cdw.getD 5 0 % 65536) (ref i) else zeros 8⟩
    else
      let d := c.blocks.getD i ⟨zeros 4096, zeros 8⟩
      if k.lbaf = 1 ∧ k.pi ≠ 0 ∧ c.pract then ⟨d.data, makePi d.data (c.cdw.getD 5 0 % 65536) (ref i)⟩
      else if k.lbaf = 1 then ⟨d.data, padTo 8 d.tag⟩
      else ⟨d.data, zeros 8⟩

/-- The blocks a 512e write covers only in part (R614). -/
def State.partialBlocks (s : State) (c : Command) : List Nat :=
  if s.lbaUnit = 8 then
    (s.blocksOf c).filter fun b => decide (8 * b < c.slba) || decide (c.slba + c.nlb < 8 * b + 8)
  else []

/-- Whether a write completes only once its blocks are on media (R27, R29). -/
def State.needsMedia (s : State) (c : Command) : Bool := c.fua || !s.cache.wce

/-- A write operation takes new content for the blocks that `f` gives it for, where they have not landed. -/
def MediaOp.refresh (o : MediaOp) (f : OpBlock → Nat → Option (BlockData × Option (Nat × Nat) × Nat)) : MediaOp :=
  let l := ((o.blocks.zip o.versions).zip o.sectors).map fun ((b, v), (x : WriteSector)) =>
    match if o.landed.contains b.pba then none else f b v with
    | some (d, key, w) => (({ x with data := d.data, tag := d.tag, key := key } : WriteSector), w)
    | none => (x, v)
  if o.write then { o with sectors := l.map (·.1), versions := l.map (·.2) } else o

/-- Pending destages of extents that a commit replaces take the new content: what is superseded is not destaged (R559, R570). -/
def State.refreshOps (s : State) (ns : Nat) (news : List (Nat × BlockData × Nat)) : State :=
  let f := fun (b : OpBlock) (v : Nat) =>
    if b.ns = ns ∧ (s.extent ns b.lba).map (·.version) = some v then
      (news.find? (·.1 == b.lba)).map fun (_, d, w) => (d, s.blockKey ns b.lba, w)
    else none
  { s with scheds := s.scheds.map fun l => l.map fun o => o.refresh f }

/-- The commit of a write (R557): the uncorrectable list is updated, every block's extent is inserted in one step, and the
write completes, or waits for media (R27, R29). Where no extent is free, a block that has one becomes dirty in it, so that what an
earlier command left dirty there stays covered by a Flush (R28), and the others go to media only. -/
def State.commit (s : State) (c : Command) (room : Nat) (uncorr : List Nat) : State :=
  let u := s.lbaUnit
  let l0 := cutRanges c.nsid c.slba c.nlb s.cache.wunc
  let lost := uncorr.flatMap fun b => (List.range 8).filterMap fun j =>
    if c.slba ≤ 8 * b + j ∧ 8 * b + j < c.slba + c.nlb then none else some (8 * b + j)
  let l1 := if c.opcode = opWriteUnc then addRange c.nsid c.slba c.nlb s.cache.wunc
    else lost.foldl (fun l x => addRange c.nsid x 1 l) l0
  if 65536 < l1.length then
    if c.opcode = opWriteUnc then s.finish c.seq 0x002 0
    else (s.raise 0x687 ((if u = 8 ∧ lost ≠ [] then 0 else 1) + (if s.boot.compat then 1 else c.nsid) * 2 ^ 16)).finish
      c.seq 0x280 0
  else
    let s1 := s.setWunc l1
    if c.opcode = opWriteUnc then (s1.mapCmd c.seq fun c => { c with resolved := true }).finish c.seq 0 0
    else
      let old := fun b => (((s.extent c.nsid b).map (·.content)).orElse fun _ =>
        (c.got.find? (·.1 == b)).map (·.2)).getD ⟨zeros 4096, zeros 8⟩
      let kind : ExtentKind := if c.opcode = opWriteZeroes then .zero else .dirty
      let v := s1.cache.clock
      let news := (s.blocksOf c).map fun b => (b, s.newContent c old b, v)
      let vers := (s.blocksOf c).map fun b => (c.nsid, b, v)
      let media : Bool := s.needsMedia c || decide (room ≠ 0)
      let s2 := s1.setCache { s1.cache with clock := v + 1, sanitizeStatus := setBits s1.cache.sanitizeStatus 8 8 0 }
      let kept := fun (x : Nat × BlockData × Nat) => decide (room = 0) || (s.extent c.nsid x.1).isSome
      let s3 := ((news.filter kept).foldl (fun s (b, d, _) => s.putExtent c.nsid b kind d v) (s2.refreshOps c.nsid news)).queueWrites
        c.nsid (news.filter fun x => !kept x) true true
      let h := { s3.hif with writtenBlocks := s3.hif.writtenBlocks + (s.span c).2 * 8, writeCmds := s3.hif.writeCmds + 1 }
      let s4 := (s3.setHif h).mapCmd c.seq fun c => { c with resolved := true, toMedia := if media then vers else [] }
      if media then s4.destage (s4.cache.extents.filter fun x => x.ns == c.nsid && (s.blocksOf c).contains x.lba) c.urgent
      else s4.finish c.seq 0 0

/-- A write tries to commit (R558, R29, R30, R636, R659, R660): its data is in the buffer, every overlapping write
fetched earlier has committed or ended, every overlapping read fetched earlier has resolved or ended (R20), and in 512e the rest of its
partly covered blocks has been read. While no extent is free, it runs write-through also where its blocks have extents (R29). -/
def State.tryCommit (s : State) (seq : Nat) : State :=
  match s.cmd seq with
  | none => s
  | some c =>
    if c.ended ∨ c.resolved ∨ !c.transferred ∨ s.writeBefore c ∨ s.readBefore c then s
    else
      let rest := if c.opcode = opWriteUnc then [] else (s.partialBlocks c).filter fun b =>
        (s.extent c.nsid b).isNone && !c.got.any (·.1 == b) && !c.missing.contains (b + 2 ^ 63)
      if !rest.isEmpty then
        if rest.any (c.missing.contains ·) then s
        else
          let bad := rest.foldl (fun r b => if r ≠ 0 then r else match s.blockAt c.nsid b with
            | some (n, _) => s.mediaStatus n
            | none => 0x080) 0
          if bad ≠ 0 then s.finish seq bad 0
          else (s.mapCmd seq fun c => { c with missing := rest }).queueReads c.nsid rest [seq] c.urgent true
      else if s.bufDown ∧ c.opcode = opWrite then s.finish seq 0x7C3 0
      else if s.lko.tripPeriod.isSome ∧ c.opcode = opWrite then s.finish seq 0x7C4 0
      else
        let fresh := ((s.blocksOf c).filter fun b => (s.extent c.nsid b).isNone).length
        let pages := if c.opcode = opWriteZeroes then 0
          else ((s.blocksOf c).filter fun b => (s.extent c.nsid b).all (·.kind == .zero)).length
        let (s1, room) := if c.opcode = opWriteUnc then (s, 0)
          else if fresh = 0 ∧ pages = 0 then (s, (s.makeRoom 0 [] 1 1 2).2)
          else s.makeRoom c.nsid (s.blocksOf c) fresh pages (max fresh pages + 1)
        let s2 := if c.opcode = opWriteUnc then s1 else s1.setThrough room
        let media : Bool := c.opcode != opWriteUnc && (s.needsMedia c || decide (room ≠ 0))
        let closed : Bool := s.get Reg.KLN_STATUS_WRITE_OPEN == 0 || s.shutState != 0
        let stuck := (s.blocksOf c).foldl (fun r b => if r ≠ 0 then r else match s.blockAt c.nsid b with
          | some (n, _) => if s.lostLane n then s.mediaStatus n else 0
          | none => 0) 0
        if media ∧ stuck ≠ 0 then s2.finish seq stuck 0
        else if media ∧ closed then s2.mapCmd seq fun c => { c with waitWindow := true }
        else s2.commit c room ((s.partialBlocks c).filter fun b => c.missing.contains (b + 2 ^ 63))

/-! ## What reaches media -/

/-- Waiting commands whose last block version has landed complete (R27, R28, R544). -/
def State.settle (s : State) (done : List (Nat × Nat × Nat)) : State :=
  let hit := fun (x : Nat × Nat × Nat) => done.any fun d => d.1 == x.1 && d.2.1 == x.2.1 && decide (x.2.2 ≤ d.2.2)
  s.hif.cmds.foldl (fun s c =>
    if c.toMedia.isEmpty ∨ c.ended then s
    else
      let left := c.toMedia.filter fun x => !hit x
      let s1 := s.mapCmd c.seq fun c => { c with toMedia := left }
      if left.isEmpty then s1.finish c.seq 0 c.dw0 else s1) s

/-- Destaged versions make their extents clean (step 6 of the write traced in chapter 1); a newer commit stays dirty. -/
def State.markClean (s : State) (done : List (Nat × Nat × Nat)) : State :=
  let ext := s.cache.extents.map fun (x : Extent) =>
    if done.contains (x.ns, x.lba, x.version) then { x with kind := .clean } else x
  s.setCache { s.cache with extents := ext }

/-- Blocks of `o` in the uncorrectable state of R614: the rest of a 512e block could not be read. -/
def State.giveParts (s : State) (o : MediaOp) (ok : List (Nat × BlockData)) (bad : List Nat) (status : Nat) : State :=
  let u := s.lbaUnit
  o.owners.foldl (fun s q =>
    match s.cmd q with
    | none => s
    | some c =>
      let mine := fun b => c.missing.contains b
      if c.isRead then
        let c1 := (bad.filter mine).foldl (fun c b => c.fail status (max c.slba (b * u))) c
        let new := ok.filter fun x => mine x.1
        let c2 := { c1 with got := c1.got ++ new
                            missing := c1.missing.filter fun b => !(ok.any (·.1 == b)) && !bad.contains b }
        ((s.mapCmd q fun _ => c2).readPart q new).readDone q
      else
        let c2 := { c with got := c.got ++ ok.filter (fun x => mine x.1)
                           missing := (c.missing.filter fun b => !(ok.any (·.1 == b)) && !bad.contains b) ++
                             (bad.filter mine).map (· + 2 ^ 63) }
        if status = 0x281 ∨ bad.isEmpty then (s.mapCmd q fun _ => c2).tryCommit q
        else s.finish q status 0) s

/-! ## The choice of the next operation (R571, R572) -/

/-- Predicted access time of an operation in wedges. -/
def State.predict (s : State) (n : Lane) (o : MediaOp) : Nat :=
  let w := s.wedges
  let k := (s.lane n).sek
  match o.blocks.head? with
  | none => 0
  | some b =>
    let zones := s.section secZones
    let t := pbaTrack b.pba
    let cells := match zoneAt zones (pbaHead b.pba) t with
      | some z =>
        let c := u32 zones (z + 8)
        c - c * 7 / 100 - 64
      | none => 1
    let slotWedge := t * w / 8 + pbaSlot b.pba * 37152 / max 1 cells
    let period := s.get (Reg.FMT_MTS_STATUS_WEDGE_PERIOD n)
    let same : Bool := match k.head with
      | some h => headIndex (s.section secGeometry) (pbaHead b.pba) == h && k.target == t
      | none => false
    let go :=
      if same ∨ period = 0 then 0
      else
        let (v, a, j) := s.seekLimits n (s.seekRatio n period)
        let (nj, na, nv) := planSearch (((if k.target ≤ t then t - k.target else k.target - t) : Nat) : Rat) v a j planFuel 4
        4 * nj + 2 * na + nv + u8 (s.lane n).sve.active 0x174
    let now := s.get (Reg.SEK_WEDGE_WEDGE n) + go
    if w = 0 then go else go + (slotWedge % w + w - now % w) % w

/-- Whether an earlier operation on the same sector orders this one behind it (R572). -/
def blockedBy (l : List MediaOp) (o : MediaOp) : Bool :=
  l.any fun p => decide (p.id < o.id) && (p.write || o.write) && p.blocks.any fun b => o.blocks.any (·.pba == b.pba)

/-- The next operation of a lane: aged or urgent ones first, oldest first; else the least predicted access time, a destage
counted with one revolution more while D is below DESTAGE_HIGH. From DESTAGE_HIGH on a destage goes ahead of the device's own work (R570). -/
def State.chooseOp (s : State) (n : Lane) : Option MediaOp :=
  let l := (s.sched n).take 4096
  let free := l.filter fun o => !blockedBy l o
  let age := s.schedAgeMs
  match free.find? fun o => o.urgent || decide (age < s.crn.elapsed - o.since) with
  | some _ => (free.filter fun o => o.urgent || decide (age < s.crn.elapsed - o.since)).foldl (fun b o =>
      match b with
      | none => some o
      | some p => if o.id < p.id then some o else some p) none
  | none =>
    let cost := fun o => s.predict n o +
      (if o.write && s.get Reg.CACHE_STATUS_HIGH == 0 then s.wedges else 0)
    let high : Bool := s.get Reg.CACHE_STATUS_HIGH == 1 && free.any fun o => o.host && o.write
    (free.filter fun o => o.host || !high).foldl (fun b o => match b with
      | none => some o
      | some p => if cost o < cost p then some o else some p) none

/-- The lane takes its next operation: it moves to the front, and the lane's results start empty; a read step starts with LSn's settings
(R254). -/
def State.nextOp (s : State) (n : Lane) : State :=
  let s0 := s.setChan n { (s.lane n).chan with delivered := [], failed := [], mended := [] }
  match s0.chooseOp n with
  | none => s0
  | some o =>
    let s1 := s0.setSched n (o :: (s0.sched n).filter (·.id != o.id))
    if o.write then s1 else s1.readStep n

/-- A landed sector that was pending or marked is in place, and its verify reads are due (R321). -/
def State.dueVerify (s : State) (n : Lane) (pbas : List Nat) : State :=
  let r := (s.lane n).rcv
  let hit := pbas.filter fun p => r.pending.contains p || r.marked.any (·.1 == p)
  let kept := r.marked.filter fun m => !hit.contains m.1
  s.setRcv n { r with marked := kept ++ hit.map fun p => (p, s.sec8 secSeqParams 0x0F) }

end Sys2Proof.Machine
end

