-- ==== Sys2Proof/Machine/Media.lean ====
section
/-! DEFINITION. Media operations as they come to their end: the ladder's rows (chapter 9), in-place verification (R321),
the rows of commit, resolution and destage (R557, R559, R570) and the end of an operation (R571). -/

namespace Sys2Proof.Machine

/-! ## The ladder's rows -/

/-- The commands that wait on an operation, with their limits in force. -/
def State.opWaiting (s : State) (o : MediaOp) : List (Nat × Nat) :=
  o.owners.filterMap fun q => (s.cmd q).map fun c => (q, s.ladderLimit (s.cmdLimit c))

/-- LADDER_START (R300, R301): the failed sectors of one track of the lane's read step enter a ladder. -/
def execLadderStart (n : Lane) (s : State) : Host.Outcome State Fault Refusal :=
  .next <|
    match (s.sched n).head? with
    | some o =>
      if o.write then s
      else s.ladderStart n (if o.host && !s.boot.compat then s.cache.rrl else 0) (s.opWaiting o)
    | none => s.ladderStart n 0 []

/-- Change the lane's operation in work. -/
def State.mapOp (s : State) (n : Lane) (f : MediaOp → MediaOp) : State :=
  match s.sched n with
  | o :: t => s.setSched n (f o :: t)
  | [] => s

/-- The waiting commands whose own limit has passed complete with TIME_LIMIT's outcome while the ladder goes on for the
others (R311, Races with the ladder). -/
def State.overdue (s : State) (n : Lane) : State :=
  match (s.lane n).rcv.ladder with
  | none => s
  | some l =>
    let late := l.waiting.filter fun x => decide (x.2 < l.limitMs) && decide (x.2 * 1000 ≤ s.partUsed n x.1)
    if late.isEmpty then s
    else
      let u := s.lbaUnit
      let s1 := s.setRcv n { (s.lane n).rcv with ladder := some { l with waiting := l.waiting.filter (!late.contains ·) } }
      let s2 := s1.mapOp n fun o => { o with owners := o.owners.filter fun q => !late.any (·.1 == q) }
      late.foldl (fun s x => match s.cmd x.1 with
        | none => s
        | some c =>
          let lba := match (l.targets.head?).bind s.lbaAt with
            | some (_, b) => max c.slba (b * u)
            | none => c.slba
          (s.mapCmd x.1 fun c => c.fail 0x281 lba).readDone x.1) s2

/-- Whether the commands a ladder ran for have all been aborted or ended (Races with the ladder). -/
def State.abandoned (s : State) (n : Lane) : Bool :=
  match (s.sched n).head? with
  | some o => o.host && !o.write && o.owners.isEmpty
  | none => false

/-- Targets delivered in the attempt are recovered (R318); the others stay. -/
def State.recoverDone (s : State) (n : Lane) (l : Ladder) : State × List Nat :=
  let done := l.targets.filter (s.lane n).chan.delivered.contains
  (done.foldl (fun s p => s.recovered n l.step none p) s, done)

/-- The groups a TRACK_PARITY attempt solves (R316, R317): erasures at most TP_PARITY, the stale bit still clear, and a
reconstructed sector that passes its CRC (R287; log entry 7). -/
def State.solved (s : State) (n : Lane) (l : Ladder) (unread : List Nat) : List (Nat × Nat) :=
  if s.stepByte l.step 0 ≠ 0x08 then []
  else (l.targets.filter fun p => !(s.lane n).chan.delivered.contains p).filterMap fun p =>
    match s.groupOf p with
    | none => none
    | some g =>
      let e := s.erasures g l.targets unread
      let most := ((s.tpOf g.1 g.2.1).map (·.2)).getD 0
      if s.stale.contains g ∨ most < e.length ∨ !s.reconstructs g e p then none else some (p, e.length)

/-- The budgets used by the command parts that a ladder serves grow by the time of an attempt (R311, R324). -/
def State.addPart (s : State) (n : Lane) (us : Nat) : State :=
  let r := (s.lane n).rcv
  match r.ladder with
  | none => s
  | some l =>
    let mine := if l.waiting.isEmpty then (s.partsOn n).take 1 else l.waiting.map (·.1)
    let fresh := (mine.filter fun q => !r.parts.any (·.1 == q)).map fun q => (q, s.crn.elapsed, 0)
    (s.setRcv n { r with parts := (r.parts ++ fresh).map fun (q, t, u) => if mine.contains q then (q, t, u + us) else (q, t, u) }).showElapsed n

/-- LADDER_ATTEMPT (R302 to R318): an attempt ends after `us`; the targets decoded in it and those its TRACK_PARITY step
solved (`unread` names the slots that failed in that read) are recovered; the next attempt is predicted against the
limit. A ladder nobody waits on any more ends without a verdict. -/
def execLadderAttempt (n : Lane) (us : Nat) (unread : List Nat) (s : State) : Host.Outcome State Fault Refusal :=
  .next <|
    match (s.lane n).rcv.ladder with
    | none => s
    | some l =>
      let (s1, done) := (s.addPart n us).recoverDone n l
      let fixed := s.solved n l unread
      let s1 := if fixed.isEmpty then s1 else s1.wake .tpar
      let s2 := fixed.foldl (fun s (p, e) =>
        let t := s.setChan n { (s.lane n).chan with delivered := (s.lane n).chan.delivered ++ [p] }
        t.recovered n l.step (some e) p) s1
      let gone := done ++ fixed.map (·.1)
      let l1 := { l with targets := l.targets.filter (fun p => !gone.contains p), ran := true, lastStep := l.step,
                         elapsedUs := l.elapsedUs + us }
      if l1.targets.isEmpty then s2.ladderEmpty n
      else
        let s3 := (s2.setRcv n { (s2.lane n).rcv with ladder := some l1 }).overdue n
        if s3.abandoned n then (s3.dropLadder n).nominalRead n
        else s3.ladderOn n (((s3.lane n).rcv.ladder).getD l1) l.step (l.attempt + 1)

/-- LADDER_TIME_LIMIT (R311, R319): the limit expires during an attempt, which stops at a sector boundary; what it
delivered is recovered, the rest is reported with reason TIME_LIMIT. -/
def execLadderTimeLimit (n : Lane) (us : Nat) (s : State) : Host.Outcome State Fault Refusal :=
  .next <|
    match (s.lane n).rcv.ladder with
    | none => s
    | some l =>
      let (s1, done) := (s.addPart n us).recoverDone n l
      let l1 := { l with targets := l.targets.filter (fun p => !done.contains p), lastStep := l.step }
      if l1.targets.isEmpty then s1.ladderEmpty n
      else ((s1.setRcv n { (s1.lane n).rcv with ladder := some l1 }).endLadder n 1).nominalRead n

/-! ## In-place verification (R321) -/

/-- A block whose verify reads failed moves to a spare sector, or stays pending where there is none (R321, R577, R594). -/
def State.reallocate (s : State) (n : Lane) (pba : Nat) : State :=
  let r := (s.lane n).rcv
  match (if 1048576 ≤ r.grown.length then none else s.freeSpare n pba) with
  | none => (s.setRcv n { r with marked := r.marked.filter (·.1 != pba) }).raise 0x686 (n.val + pba % 2 ^ 41 * 2 ^ 2)
  | some sp =>
    let home := ((r.remap.find? (·.2 == pba)).map (·.1)).getD pba
    let map := (r.remap.filter (·.1 != home)) ++ [(home, sp)]
    let grown := r.grown ++ [pba]
    let r1 := { r with remap := map, grown := grown, pending := r.pending.erase pba, sparesUsed := r.sparesUsed + 1,
                       marked := r.marked.filter (·.1 != pba) }
    let l := s.lane n
    let s1 := s.setLane n { l with rcv := r1, sys := { l.sys with remap := map, grown := grown } }
    let s2 := match s1.mediaAt pba with
      | some m => (s1.touchGroup sp).writeMedia sp m.data m.tag m.key m.whole
      | none => s1.touchGroup sp
    ((s2.put (Reg.CHN_RCV_PENDING_ENTRIES n) r1.pending.length).raiseLane n 0x44 pba).critCheck

/-- IN_PLACE_VERIFY (R321): one verify read of a sector rewritten in place ends. The last good one removes the sector from
the pending list; a failed one reallocates it. -/
def execInPlaceVerify (n : Lane) (pba : Nat) (ok : Bool) (s : State) : Host.Outcome State Fault Refusal :=
  .next <|
    let r := (s.lane n).rcv
    match r.marked.find? fun m => m.1 == pba && m.2 != 0 with
    | none => s
    | some (_, k) =>
      if !ok ∨ !s.mediaPasses pba then s.reallocate n pba
      else if 1 < k then
        s.setRcv n { r with marked := r.marked.map fun m => if m.1 = pba then (pba, k - 1) else m }
      else
        let rest := r.pending.erase pba
        (s.setRcv n { r with pending := rest, marked := r.marked.filter (·.1 != pba) }).put
          (Reg.CHN_RCV_PENDING_ENTRIES n) rest.length

/-! ## Commit, resolution, destage -/

/-- READ_RESOLVE (R559): a read that waited for overlapping writes resolves. -/
def execReadResolve (seq : Nat) (b : BufAccess) (s : State) : Host.Outcome State Fault Refusal :=
  .next <|
    match s.cmd seq with
    | some c => if c.isRead then s.resolve seq b else s
    | none => s

/-- WRITE_COMMIT (R557, R558): a write whose data is in the buffer commits once nothing holds it back. -/
def execWriteCommit (seq : Nat) (s : State) : Host.Outcome State Fault Refusal :=
  .next <|
    match s.cmd seq with
    | some c => if c.isWrite then s.tryCommit seq else s
    | none => s

/-- WRITE_WAIT_TIMEOUT (R636): a write that needs media has waited WRITE_WAIT_MS for the window and ends without effect. -/
def execWriteWaitTimeout (seq : Nat) (s : State) : Host.Outcome State Fault Refusal :=
  .next <|
    match s.cmd seq with
    | some c =>
      if c.waitWindow ∧ !c.resolved ∧ (s.get Reg.KLN_STATUS_WRITE_OPEN = 0 ∨ s.shutState ≠ 0) then s.finish seq 0x7C1 0
      else s
    | none => s

/-- The percentage D of R570: 0 below DESTAGE_LOW, 1 between the thresholds, 2 from DESTAGE_HIGH on. -/
def State.destageBand (s : State) : Nat :=
  let d := (s.cache.extents.filter (·.kind != .clean)).length * 100
  if s.sec8 secSeqParams 1 * descriptors ≤ d then 2 else if s.sec8 secSeqParams 2 * descriptors ≤ d then 1 else 0

/-- Whether some running command waits for a block version to reach media. -/
def State.needed (s : State) (x : Extent) : Bool :=
  s.hif.cmds.any fun c => !c.ended && c.toMedia.any fun v => v.1 == x.ns && v.2.1 == x.lba

/-- Destage extents, but for those whose page reads as poisoned: their data is lost (R457, R465, R658); a command that
waits for one ends with a fault. -/
def State.destageFrom (s : State) (l : List Extent) (b : BufAccess) : State :=
  let poisonable : Bool := !s.buf.poisoned.isEmpty || !s.buf.overflow.isEmpty || s.bufDown
  let s0 := s.replays b.replays
  let s1 := if (List.range 4).any s.sharded then s0.bump Reg.BUF_CNT_SHARD_VERIFY_COUNT b.verified else s0
  let bad := fun (x : Extent) => poisonable && b.poisoned.contains x.lba
  let s2 := s1.destage (l.filter fun x => !bad x) false
  (l.filter bad).foldl (fun s x => s.hif.cmds.foldl (fun s c =>
    if !c.ended ∧ c.toMedia.any (fun v => v.1 == x.ns && v.2.1 == x.lba) then
      (s.mapCmd c.seq fun c => c.fail 0x280 x.lba).finish c.seq 0x280 0 else s) s) s2

/-- The in-place rewrites that wait (R321): the current cache content of each marked block goes to media. -/
def State.rewriteMarked (s : State) : State :=
  if s.get Reg.KLN_STATUS_WRITE_OPEN = 0 ∨ s.shutState ≠ 0 ∨ s.bufDown then s
  else
    (List.finRange 4).foldl (fun s n =>
      ((s.lane n).rcv.marked.filter (·.2 == 0)).foldl (fun s m =>
        match s.lbaAt m.1 with
        | none => s
        | some (ns, lba) =>
          match s.extent ns lba with
          | none => s
          | some x =>
            if s.inFlight ns lba x.version ∨ s.mediaStatus n.val ≠ 0 then s
            else s.queueWrites ns [(lba, x.data, x.version)] false false) s) s

/-- Whether something waits for every dirty extent to reach media. -/
def State.mustDestage (s : State) : Bool :=
  s.sbd.lossDestage || s.hif.sata.stopDue || s.hif.ctls.toList.any (·.shst == 1) || s.buf.stopDue

/-- Every used lane is to park and the spindle to stop in order (R432, R608, R713). -/
def State.parkAndStop (s : State) : State :=
  let s1 := (List.finRange 4).foldl (fun s n =>
    if s.used n.val ∧ (s.lane n).sek.phase ≠ .parked then s.sekCommand n ⟨3, 0, 0⟩ else s) s
  s1.setWhl { s1.whl with stopWanted := true }

/-- The spindle starts again after a stop (R416, R608, R713), or a stop still waiting for its lanes is called off. -/
def State.restartSpindle (s : State) : State :=
  if s.held ∨ 2 ≤ s.devState ∨ s.shutState ≠ 0 ∨ s.stage < 6 then s
  else if s.whlState = 0 ∨ s.whlState = 5 then s.spindleStart
  else s.setWhl { s.whl with stopWanted := false }

/-- After a standby, media work restarts the spindle (R608, R416). -/
def State.wakeMedia (s : State) : State :=
  if s.get Reg.HIF_SATA_STANDBY = 1 ∧ (s.sched 0).any (·.host) then
    ({ (s.put Reg.HIF_SATA_STANDBY 0) with sbd := { s.sbd with shutdown := false } }).restartSpindle
  else s

/-- DESTAGE (R570): BS chooses dirty extents. From DESTAGE_LOW on, the extents named are handed over; below it only after
10 ms without a host command; those a command waits for, and every one that a shutdown, a
lost link or a failed buffer calls for (R520, R658, R713), go in any case. -/
def execDestage (blocks : List (Nat × Nat)) (idle10 : Bool) (b : BufAccess) (s : State) : Host.Outcome State Fault Refusal :=
  .next <|
    let idle : Bool := idle10 && s.hif.cmds.isEmpty
    let free : Bool := decide (1 ≤ s.destageBand) || idle
    let go := s.cache.extents.filter fun x => x.kind != .clean &&
      ((free && blocks.contains (x.ns, x.lba)) || s.needed x || s.mustDestage)
    let s1 := (s.destageFrom go b).showCache.wakeMedia.bufStopCheck
    if idle then s1.rewriteMarked else s1

/-- IDLE_DESTAGE_TIMEOUT (R570, R321): the host has been idle for IDLE_DESTAGE_MS; every dirty extent is destaged, and the
marked sectors are rewritten. -/
def execIdleDestageTimeout (b : BufAccess) (s : State) : Host.Outcome State Fault Refusal :=
  .next (if s.hif.cmds.isEmpty then (s.destageFrom (s.cache.extents.filter (·.kind != .clean)) b).rewriteMarked.wakeMedia else s)

/-! ## The end of a media operation (R571) -/

/-- The lane goes on to its next operation; the budgets of R311 last as long as their commands have operations there. -/
def State.opGone (s : State) (n : Lane) (o : MediaOp) : State :=
  let s0 := s.setFmt n { (s.lane n).fmt with cutAt := none }
  let s1 := (s0.setSched n ((s0.sched n).filter (·.id != o.id))).nextOp n
  let r := (s1.lane n).rcv
  s1.setRcv n { r with parts := r.parts.filter fun x => (s1.sched n).any fun p => p.owners.contains x.1 || 2 ^ 48 + p.id == x.1 }

/-- The block versions of a write operation whose sectors have landed, and those that have not. -/
def MediaOp.versionsWhere (o : MediaOp) (landed : Bool) : List (Nat × Nat × Nat) :=
  (o.blocks.zip o.versions).filterMap fun (b, v) => if o.landed.contains b.pba = landed then some (b.ns, b.lba, v) else none

/-- Commands that wait for a version that cannot reach media complete with a status. -/
def State.failWaiting (s : State) (lost : List (Nat × Nat × Nat)) (status : Nat) : State :=
  s.hif.cmds.foldl (fun s c =>
    match c.toMedia.find? lost.contains with
    | some v => if c.ended then s else (s.mapCmd c.seq fun c => c.fail status (v.2.1 * s.lbaUnit)).finish c.seq status 0
    | none => s) s

/-- Write-through ends when an extent or a page can be had again (R29). -/
def State.leaveThrough (s : State) : State :=
  if s.cache.through = 0 then s
  else
    let (_, full) := s.makeRoom 0 [] 1 1 2
    if full = 0 then s.setThrough 0 else s

/-! ## What waits for the whole destage -/

/-- ATA commands that stop the spindle: STANDBY IMMEDIATE, STANDBY and SLEEP. -/
def stopsSpindle (op : Nat) : Bool := [0xE0, 0xE2, 0xE6].contains op

/-- Once every dirty extent that can reach media has: the second SBD_LINK_LOSS (R713), the end of a shutdown whose commands
have all completed and whose Cairn flush is done (R520, R684), and the stop of STANDBY and SLEEP (R608). -/
def State.destageChecks (s : State) : State :=
  if s.destageable then s
  else
    let s1 := if s.sbd.lossDestage then
        ({ s with sbd := { s.sbd with lossDestage := false } }).raise 0x7FD (s.get Reg.SBD_STATUS_HOST_LINK_LOST + 2)
      else s
    let s2 := (List.finRange 2).foldl (fun s p =>
      if (s.ctl p).shst = 1 ∧ !s.crn.flushing ∧ !(s.hif.cmds.any fun c => c.port == p && !c.isAta && c.sq != sqKept && !(s.ctl p).aers.contains c.seq)
      then s.setCtl p { s.ctl p with shst := 2 } else s) s1
    if s2.hif.sata.stopDue then
      let s3 := ((s2.setSata { s2.hif.sata with stopDue := false }).put Reg.HIF_SATA_STANDBY 1).parkAndStop
      ((s3.hif.cmds.filter fun c => c.isAta && stopsSpindle c.ata.1).foldl (fun s c => s.finish c.seq 0 0) s3).wakeMedia
    else s2

/-- Whether the rewrites of the lane's write operation have run beyond the write timer of SCT Error Recovery Control (R612). -/
def State.rewriteLate (s : State) (n : Lane) : Bool :=
  let limit := s.hif.sata.writeTimer * 100
  s.boot.compat && decide (0 < limit) && (s.lane n).fmt.cutAt.any fun t => decide (limit < s.crn.elapsed - t)

/-- A write operation ends with status 0 or the reason its rest could not be written (step 6 of the write traced). -/
def State.endWrite (s : State) (n : Lane) (o : MediaOp) (status : Nat) : State :=
  let done := o.versionsWhere true
  let s1 := ((s.opGone n o).markClean done).settle done
  let s2 := if status = 0 then s1 else s1.failWaiting (o.versionsWhere false) status
  (((s2.dueVerify n o.landed).leaveThrough).showCache).bufStopCheck.destageChecks

/-- The blocks of a read operation that have been delivered, as its readers see them. -/
def State.readBlocks (s : State) (bs : List OpBlock) : List (Nat × BlockData) × State :=
  bs.foldl (fun (r : List (Nat × BlockData) × State) b =>
    let (d, t) := r.2.mediaBlock b
    (r.1 ++ [(b.lba, d)], t)) ([], s)

/-! ## Rebuilding a parity group (R286) -/

/-- The symbols of a block as its cache content would lie on media, where the cache holds it (R283, R286). -/
def State.heldSymbols (s : State) (pba : Nat) : Option (List Nat) :=
  (s.lbaAt pba).bind fun (ns, lba) => (s.extent ns lba).map fun x =>
    let m : MediaSector := ⟨x.data.data, x.data.tag, 0, s.blockKey ns lba, true⟩
    symbols (m.cells ++ m.tag)

/-- The end of a rebuild whose data sectors have all been read: the parity is written, and the stale bit is cleared unless a write into the group
started after the rebuild. -/
def State.rebuilt (s : State) (gid : GroupId) : State :=
  let held := (s.groupData gid).filterMap fun p => (s.heldSymbols p).map fun x => (p, x)
  let later : Bool := ((s.rebuilds.find? (·.1 == gid)).map (·.2)).getD false
  let s1 := s.writeParity gid held
  { s1 with rebuilds := s1.rebuilds.filter (·.1 != gid), stale := if later then s1.stale else s1.stale.erase gid }

/-- PARITY_REBUILD (R286, R313): BS rebuilds a stale group of the lane. The rebuild start is recorded; the data sectors that the cache does
not hold are read from media, as a read of the device's own; with all of them in the cache the parity is written at once. -/
def execParityRebuild (n : Lane) (head track group : Nat) (s : State) : Host.Outcome State Fault Refusal :=
  .next <|
    let gid : GroupId := (head, track, group)
    if !s.stale.contains gid ∨ headLane (s.section secGeometry) head ≠ n.val ∨ !s.writesOpen n ∨ s.rebuilds.any (·.1 == gid) then s
    else
      let s1 : State := { s.wake .tpar with rebuilds := s.rebuilds ++ [(gid, false)] }
      let missing := (s.groupData gid).filter fun p => (s.heldSymbols p).isNone
      if missing.isEmpty then s1.rebuilt gid
      else s1.addOp n { id := 0, write := false, blocks := missing.map fun p => ⟨0, 0, p⟩, sectors := [], versions := [], landed := [],
                        owners := [], since := 0, urgent := false, host := false, rebuild := some gid }

/-- A rebuild's read has ended: with a data sector that could not be read the group stays stale, and the sector is on the pending list
(R286, R319). -/
def State.endRebuild (s : State) (o : MediaOp) (bad : Bool) : State :=
  match o.rebuild with
  | none => s
  | some g => if bad then { s with rebuilds := s.rebuilds.filter (·.1 != g) } else s.rebuilt g

/-- A read operation ends: what was delivered enters the cache and goes to the commands, the rest fails with a status
(R24, R26, R318, R319). Of the device's own reads, what a ladder recovered enters the cache. -/
def State.endRead (s : State) (n : Lane) (o : MediaOp) (status : Nat) : State :=
  let c := (s.lane n).chan
  let got := o.blocks.filter fun b => c.delivered.contains b.pba
  let bad := (o.blocks.filter fun b => !c.delivered.contains b.pba).map (·.lba)
  let (ok, s1) := s.readBlocks got
  let s2 := s1.opGone n o
  let s3 := if o.host then (got.zip ok).foldl (fun s (b, x) => s.cacheClean b.ns b.lba x.2) s2
    else (got.filter fun b => c.mended.contains b.pba).foldl (fun s b =>
      match s.lbaAt b.pba with
      | some (ns, lba) =>
        let (x, t) := s.mediaBlock ⟨ns, lba, b.pba⟩
        t.cacheClean ns lba x
      | none => s) s2
  ((s3.giveParts o ok bad status).endRebuild o (!bad.isEmpty)).showCache

end Sys2Proof.Machine
end

