-- ==== Sys2Proof/Machine/Admin.lean ====
section
/-! DEFINITION. Media administration (chapter 16): Format NVM and Sanitize with their persistent progress (R583 to R590), and
the device self-test (R591 to R593). -/

namespace Sys2Proof.Machine

/-! ## Namespaces and lanes of an operation -/

/-- The namespaces a NSID names (0xFFFFFFFF: all). -/
def State.nsNamed (s : State) (nsid : Nat) : List Nat :=
  if nsid = 0xFFFFFFFF then (List.range s.nsMaps.length).map (· + 1)
  else if (s.nsMap nsid).isSome then [nsid] else []

/-- Format's OP code of R588. -/
def opFormat : Nat := 1
/-- Overwrite's. -/
def opOverwrite : Nat := 2
/-- Crypto erase's. -/
def opCrypto : Nat := 3

/-- The stretches (lane, first block, blocks) of the logical spaces that namespaces cover. -/
def State.partsOf (s : State) (l : List Nat) : List (Nat × Nat × Nat) :=
  l.flatMap fun k => ((s.nsMap k).map (·.parts)).getD []

/-- All sectors of a lane: data, parity, spare and defective ones (R585). -/
def State.laneSectors (s : State) (n : Nat) : Nat :=
  (s.laneZones n).foldl (fun k z =>
    k + z.tracks * (if z.par = 0 then z.perTrack else z.perTrack / z.grp * (z.grp + z.par))) 0

/-- MiB of one pass of an operation on lane `n`. -/
def State.opMiB (s : State) (o : AdminOp) (n : Nat) : Nat :=
  if !s.used n ∨ o.op = opCrypto then 0
  else if o.op = opOverwrite then ceilDiv (s.laneSectors n) 256
  else if bits o.cdw10 11 9 ≠ 1 then 0
  else ceilDiv ((s.partsOf (s.nsNamed o.nsid)).foldl (fun k (l, _, c) => if l = n then k + c else k) 0) 256

/-- Passes of an operation (R585: OWPASS 0 stands for 16). -/
def AdminOp.passes (o : AdminOp) : Nat :=
  if o.op = opOverwrite then (if bits o.cdw10 7 4 = 0 then 16 else bits o.cdw10 7 4) else 1

/-- Progress on the SPROG scale of R586: completed sectors × 65,536 / all sectors. -/
def State.sprog (s : State) (o : AdminOp) : Nat :=
  let all := (List.range 4).foldl (fun k n => k + s.opMiB o n) 0
  let done := o.done.foldl (· + ·) 0
  if all = 0 then 0 else min 65535 ((o.pass * all + done) * 65536 / (o.passes * all))

/-! ## Progress records (R588, R589) -/

/-- Where progress sector `k` starts (R74). -/
def State.progressBase (s : State) (k : Nat) : Nat := s.boot.density - 4194304 + 65536 * k

/-- The 64 bytes of a record. -/
def Progress.bytes (p : Progress) : List Byte :=
  let b := leBytes 4 0x47505850 ++ zeros 4 ++ leBytes 8 (p.seq % 2 ^ 48) ++ leBytes 1 p.op ++ leBytes 1 p.pass ++ zeros 2 ++
    leBytes 4 p.nsid ++ leBytes 4 p.cdw10 ++ leBytes 4 p.cdw11 ++
    (List.range 4).flatMap (fun l => leBytes 4 (p.done.getD l 0)) ++ zeros 12
  b ++ leBytes 4 (crc32c b)

/-- A record read back; none where it is erased or its CRC fails. -/
def Progress.ofBytes (b : List Byte) : Option Progress :=
  if u32 b 0 = 0x47505850 ∧ u32 b 0x3C = crc32c (b.take 0x3C) then
    some ⟨u64 b 8 % 2 ^ 48, u8 b 0x10, u8 b 0x11, u32 b 0x14, u32 b 0x18, u32 b 0x1C,
      (List.range 4).map fun l => u32 b (0x20 + 4 * l)⟩
  else none

/-- Append a record: to the active progress sector, going on in the other one, erased first, when it is full; then to the
system area of every used lane (R589). -/
def State.writeProgressRecord (s : State) (op pass nsid cdw10 cdw11 : Nat) (done : List Nat) : State :=
  let c := s.cache
  let p : Progress := ⟨c.progressSeq, op, pass, nsid, cdw10, cdw11, done⟩
  let (k, i) := c.progressAt
  let (k1, i1, f) := if 1024 ≤ i then
      (1 - k, 0, Memory.erase s.flash (s.progressBase (1 - k)) 65536)
    else (k, i, s.flash)
  let f1 := Memory.write flashDefault f (s.progressBase k1 + 64 * i1) p.bytes
  { s with
    flash := f1
    cache := { c with progressSeq := c.progressSeq + 1, progressAt := (k1, i1 + 1), lastOp := op,
                      saved := { c.saved with progress := some p } } }

/-- The record of the running operation. -/
def State.recordOp (s : State) (o : AdminOp) : State :=
  s.writeProgressRecord o.op o.pass o.nsid o.cdw10 o.cdw11 o.done

/-! ## What the operations do to the data -/

/-- Stop every media operation that touches some namespaces: a running write step ends with its current sector. -/
def State.dropOps (s : State) (l : List Nat) : State :=
  (List.finRange 4).foldl (fun s n =>
    let hit := fun (o : MediaOp) => o.blocks.any fun b => l.contains b.ns
    if (s.sched n).any hit then
      let front : Bool := ((s.sched n).head?.map hit).getD false
      let s0 := s.setFmt n { (s.lane n).fmt with cutAt := none }
      let s1 := if front then (((s0.finishWrite n).dropLadder n)).setChan n { (s.lane n).chan with delivered := [], failed := [] }
        else s
      s1.setSched n ((s1.sched n).filter fun o => !hit o)
    else s) s

/-- The covered blocks leave the cache, the uncorrectable list and the pending lists (R563, R583, R585). -/
def State.clearBlocks (s : State) (l : List Nat) : State :=
  let s1 := s.dropOps l
  let ext := s1.cache.extents.filter fun (x : Extent) => !l.contains x.ns
  let s2 := (s1.setCache { s1.cache with extents := ext }).setWunc (s1.cache.wunc.filter fun w => !l.contains w.1)
  let s3 := (List.finRange 4).foldl (fun s n =>
    let r := (s.lane n).rcv
    let keep := fun (p : Nat) => match s.lbaAt p with
      | some (k, _) => !l.contains k
      | none => true
    let rest := r.pending.filter keep
    (s.setRcv n { r with pending := rest, marked := r.marked.filter fun m => keep m.1 }).put
      (Reg.CHN_RCV_PENDING_ENTRIES n) rest.length) s2
  s3.showCache

/-- The place of block `k` of a lane's logical space among its data sectors, listed defects included. -/
def State.rawPlace (s : State) (n k : Nat) : Nat :=
  (defectPlaces (s.laneZones n) (s.laneAt n).sys.defects).foldl (fun k d => if d ≤ k then k + 1 else k) k

/-- Data sectors `lo` to `hi` of a lane, with the spares that stand for some of them, take a pattern, or become undefined
(none). -/
def State.fillRange (s : State) (n lo hi : Nat) (pattern : Option Nat) : State :=
  let zs := s.laneZones n
  let map := (s.laneAt n).rcv.remap
  let inside := inStretch zs lo hi
  let spares := (map.filter fun m => inside m.1).map (·.2)
  let here := fun (p : Nat) => headLane (s.section secGeometry) (pbaHead p) == n && (inside p || spares.contains p)
  let old := s.fills.filter fun f => !(f.lane == n && !f.whole && decide (lo ≤ f.lo) && decide (f.hi ≤ hi))
  let s1 := { s with media := s.media.filter (fun e => !here e.1), fills := ⟨n, lo, hi, false, pattern⟩ :: old }
  match pattern with
  | none => s1
  | some p => spares.foldl (fun s q => (s.touchGroup q).writeMedia q (patternBlock p) (zeros 8) none true) s1

/-- The groups at the two ends of the stretch from `lo` to `hi` that a Format overwrites, where it takes in a part of them only: they are
stale from the first sector written in them on (R284); `now` tells how far the overwriting has come. -/
def State.markEdges (s : State) (n lo hi now : Nat) : State :=
  let zs := s.laneZones n
  [lo, hi - 1].foldl (fun s i =>
    match rawPba zs i with
    | none => s
    | some p =>
      match rawGroup zs p with
      | some (a, b) => if (lo ≤ a ∧ b ≤ hi) ∨ now ≤ max a lo then s else s.touchGroup p
      | none => s) s

/-- A whole lane takes a pattern (R585). -/
def State.fillLane (s : State) (n : Nat) (pattern : Option Nat) : State :=
  { s with
    media := s.media.filter fun e => headLane (s.section secGeometry) (pbaHead e.1) != n
    fills := ⟨n, 0, 0, true, pattern⟩ :: s.fills.filter (·.lane != n) }

/-- New key pairs (R582). -/
def State.rekey (s : State) (l : List Nat) : State :=
  (l.filter s.nsEncrypts).foldl (fun s k => s.mapNs k fun x => { x with keyGen := x.keyGen + 1 }) s

/-- The content of namespaces becomes undefined (R583: SES 0 and 2; a crypto erase). -/
def State.forget (s : State) (l : List Nat) : State :=
  (s.partsOf l).foldl (fun s (n, f, c) => s.fillRange n (s.rawPlace n f) (s.rawPlace n (f + c)) none) s

/-- The LBA format, the protection type and the metadata setting of Format's dword 10 (R540, R583). -/
def State.setFormats (s : State) (l : List Nat) (cdw10 : Nat) : State :=
  l.foldl (fun s k => s.mapNs k fun x =>
    { x with lbaf := cdw10 % 16, pi := bits cdw10 7 5, mset := bit cdw10 4 }) s

/-- What the system areas keep of a namespace (R543, R579): the features are saved on their own, the reservation state only
with Reservation Persistence set. -/
def savedNs (old now : Namespace) : Namespace :=
  let base := { now with tler := old.tler, ptpl := old.ptpl, notifyMask := 0 }
  if now.ptpl then base else { base with regs := [], holder := none, rtype := 0, gen := 0 }

/-- KS saves what the system areas keep of the subsystem (R563, R579, R582). -/
def State.saveConfig (s : State) : State :=
  let c := s.cache
  let keep := c.namespaces.zipIdx.map fun ((x : Namespace), i) => savedNs ((c.saved.namespaces[i]?).getD { x with tler := 0, ptpl := false }) x
  s.setCache { c with saved := { c.saved with
    wunc := c.wunc, namespaces := keep, sanitized := c.sanitizeStatus, sanitizedCdw10 := c.sanitizeCdw10 } }

/-! ## Start, progress, end -/

/-- An operation starts: ADM_OP_START and its first record (R589, R595). -/
def State.beginOp (s : State) (o : AdminOp) : State :=
  ((s.setCache { s.cache with admin := some o }).raise 0x682 (o.op + o.nsid * 2 ^ 16)).recordOp o

/-- The Sanitize Status with a state code: 1 completed, 2 in progress, 3 failed; completed passes; Global Data Erased. -/
def sanitizeStat (code passes : Nat) (erased : Bool) : Nat := code + passes % 32 * 2 ^ 3 + flag erased * 2 ^ 8

/-- The running operation ends, done or failed (R589, R590, R595): its command completes. -/
def State.endOp (s : State) (o : AdminOp) (failed : Bool) : State :=
  let l := s.nsNamed o.nsid
  let s1 :=
    if failed then s
    else if o.op = opFormat then
      let t := (s.rekey (if bits o.cdw10 11 9 = 1 then l else [])).setFormats l o.cdw10
      if bits o.cdw10 11 9 = 1 then t else t.forget l
    else if o.op = opCrypto then s.forget l
    else s
  let s2 := s1.setCache { s1.cache with
    admin := none
    sanitizeFailed := if o.op = opFormat then s1.cache.sanitizeFailed else if failed then some (bit o.cdw10 3) else none
    sanitizeStatus := if o.op = opFormat then s1.cache.sanitizeStatus
      else if failed then sanitizeStat 3 o.pass false else sanitizeStat 1 o.passes true }
  let s3 := (s2.saveConfig).writeProgressRecord (if failed then 0x81 else 0x80) o.pass o.nsid o.cdw10 o.cdw11 o.done
  let s4 := s3.raise 0x683 (o.op + flag failed * 2 ^ 4 + o.nsid * 2 ^ 16)
  match o.owner with
  | some q => s4.finish q (if failed then 0x280 else 0) 0
  | none => s4

/-- The pattern of a pass (R585): inverted from pass to pass where OIPBP is 1. -/
def AdminOp.pattern (o : AdminOp) (pass : Nat) : Nat :=
  if o.op ≠ opOverwrite then 0
  else if bit o.cdw10 8 ∧ pass % 2 = 1 then 2 ^ 32 - 1 - o.cdw11 % 2 ^ 32 else o.cdw11 % 2 ^ 32

/-- What the overwriting of an operation has reached on lane `n` (its first `mib` MiB in logical order). -/
def State.fillTo (s : State) (o : AdminOp) (n mib : Nat) : State :=
  let p := some (o.pattern o.pass)
  let k := mib * 256
  if o.op = opOverwrite then
    if s.opMiB o n ≤ mib then s.fillLane n p else if k = 0 then s else s.fillRange n 0 k p
  else
    ((s.partsOf (s.nsNamed o.nsid)).filter (·.1 == n)).foldl (fun (r : State × Nat) (_, f, c) =>
      let take := min c (k - r.2)
      let lo := r.1.rawPlace n f
      let now := r.1.rawPlace n (f + take)
      (if take = 0 then r.1 else (r.1.markEdges n lo (r.1.rawPlace n (f + c)) now).fillRange n lo now p, r.2 + take)) (s, 0) |>.1

/-- The lanes of an operation. -/
def State.opLanes (s : State) (o : AdminOp) : List Nat :=
  if o.op = opFormat then (s.nsNamed o.nsid).flatMap s.nsLanes else (List.range 4).filter s.used

/-- PROGRESS_RECORD (R589): KS records how far the running operation has come (`done`: MiB of the pass by lane); the end of
a pass begins the next, the end of the last ends the operation. A lane that failed its boot makes it FAILED (R590). -/
def execProgressRecord (done : List Nat) (s : State) : Host.Outcome State Fault Refusal :=
  .next <|
    match s.cache.admin with
    | none => s
    | some o =>
      if (s.opLanes o).any s.laneFailed then s.endOp o true
      else
        let now := (List.range 4).map fun n =>
          max (o.done.getD n 0) (if s.mediaStatus n = 0 then min (s.opMiB o n) (done.getD n 0) else 0)
        let o1 := { o with done := now }
        let s1 := (List.range 4).foldl (fun s n => if s.opMiB o n = 0 then s else s.fillTo o1 n (now.getD n 0)) s
        if (List.range 4).all fun n => s.opMiB o n ≤ now.getD n 0 then
          if o.pass + 1 < o.passes then
            let o2 := { o with pass := o.pass + 1, done := [0, 0, 0, 0] }
            (s1.setCache { s1.cache with admin := some o2 }).recordOp o2
          else s1.endOp o1 false
        else (s1.setCache { s1.cache with admin := some o1 }).recordOp o1

/-- Whether some I/O command on the namespaces is still at work: Format and Sanitize start when those fetched before have
ended. -/
def State.busyNs (s : State) (seq : Nat) (l : List Nat) : Bool :=
  s.hif.cmds.any fun c => c.isIo && c.started && !c.ended && l.contains c.nsid && fetchedBefore c.seq seq

/-! ## Self-test (R591 to R593, R617) -/

/-- STC of a self-test. -/
def SelfTest.code (t : SelfTest) : Nat := if t.extended then 2 else 1

/-- A 28-byte result entry (R593), newest first, 20 held, with a 29th byte that is 1 for a captive test (R617). -/
def State.addResult (s : State) (t : SelfTest) (result segment : Nat) (lba : Option (Nat × Nat)) : State :=
  let e := leBytes 1 (result + t.code * 16) ++ leBytes 1 segment ++ leBytes 1 (if lba.isSome then 3 else 0) ++ zeros 1 ++
    leBytes 8 (s.crn.opTime / 3600000) ++ leBytes 4 ((lba.map (·.1)).getD 0) ++ leBytes 8 ((lba.map (·.2)).getD 0) ++ zeros 4 ++
    leBytes 1 (flag t.captive)
  s.setCache { s.cache with selfTest := none, results := (e :: s.cache.results).take 20 }

/-- The SATA code of a result (R617). -/
def ataTestCode (result segment : Nat) : Nat :=
  if result = 7 then (if segment = 1 then 5 else if segment = 2 then 6 else 7) else result

/-- The self-test ends (R593, R595): 0 passed, 1 aborted by a command, 2 by a controller reset, 7 a segment failed. -/
def State.endTest (s : State) (result segment : Nat) (lba : Option (Nat × Nat)) : State :=
  match s.cache.selfTest with
  | none => s
  | some t =>
    let s1 := (List.finRange 4).foldl (fun s n =>
      let front : Bool := ((s.sched n).head?.map (·.isTest)).getD false
      let u := if front then (s.dropLadder n).nominalRead n else s
      u.setSched n ((u.sched n).filter fun o => !o.isTest)) s
    let s2 := (s1.addResult t result segment lba).raise 0x685 (result + segment * 2 ^ 4 + flag t.extended * 2 ^ 8)
    let s3 := s2.setSata { s2.hif.sata with selfTestStatus := ataTestCode result segment * 16 }
    match t.owner with
    | some q => s3.finish q (if result = 0 ∨ result = 1 then 0 else 0x002) 0
    | none => s3

/-- Track `i` of the 64 read on each head in segment 2: spread evenly over the surface. -/
def testTrack (last i : Nat) : Nat := i * (last + 1) / 64

/-- The sectors of a track that a read step of the test covers. -/
def State.trackBlocks (s : State) (n h t : Nat) : List OpBlock :=
  match (s.laneZones n).find? fun z => z.head == h && decide (z.start ≤ t) && decide (t < z.start + z.tracks) with
  | some z => (List.range z.perTrack).map fun j => ⟨0, 0, pbaOf h t (z.slot j)⟩
  | none => []

/-- The own running time of a short test (R591): from here on segment 2 reads no further track. -/
def shortLimitMs : Nat := 120000

/-- Whether the cache holds the block at a data sector, so that a Verify does not read it from media (R561). -/
def State.cachedAt (s : State) (pba : Nat) : Bool := (s.lbaAt pba).any fun x => (s.extent x.1 x.2).isSome

/-- Whether the block at a data sector has a sector on the uncorrectable list, so that a Verify of it fails (R563). -/
def State.listedAt (s : State) (pba : Nat) : Bool :=
  (s.lbaAt pba).any fun x => (s.listedIn x.1 (x.2 * s.lbaUnit) s.lbaUnit).isSome

/-- Item `i` of a segment's work on lane `n`: the blocks it reads; none when the lane has done the segment. -/
def State.testItem (s : State) (t : SelfTest) (n i : Nat) : Option (List OpBlock) :=
  let heads := headsOf (s.section secGeometry) n
  match t.segment with
  | 2 => if !t.extended ∧ shortLimitMs ≤ t.ranMs then none
      else if h : i / 64 < heads.length then
      some (s.trackBlocks n heads[i / 64] (testTrack (lastTrack (s.section secGeometry) heads[i / 64]) (i % 64))) else none
  | 3 => ((s.laneAt n).rcv.pending[i]?).map fun p => [⟨0, 0, p⟩]
  | 4 =>
    let parts := (s.partsOf (s.nsNamed t.nsid)).filter (·.1 == n)
    (parts.foldl (fun (r : Option (List OpBlock) × Nat) (_, f, c) =>
      match r.1 with
      | some _ => r
      | none =>
        let k := r.2 * 256
        if k < c then
          (some ((List.range (min 256 (c - k))).filterMap fun j =>
            ((Machine.lanePba (s.laneZones n) (s.laneAt n).sys.defects (f + k + j)).filter fun p => !s.cachedAt p).map fun p =>
              ⟨0, 0, (((s.laneAt n).rcv.remap.find? (·.1 == p)).map (·.2)).getD p⟩), 0)
        else (none, r.2 - ceilDiv c 256)) (none, i)).1
  | _ => none

/-- Hand a lane its next item of the running test that reads anything. -/
def State.testNext (s : State) (n : Lane) : Nat → State
  | 0 => s
  | fuel + 1 =>
    match s.cache.selfTest with
    | none => s
    | some t =>
      match s.testItem t n.val (t.work.getD n.val 0) with
      | none => s
      | some bs =>
        let s1 := s.setCache { s.cache with selfTest := some { t with work := t.work.set n.val (t.work.getD n.val 0 + 1) } }
        if bs.isEmpty then s1.testNext n fuel
        else (groupTracks (bs.map fun b => (n.val, b))).foldl (fun s (_, l) =>
          s.addOp n { id := 0, write := false, blocks := l, sectors := [], versions := [], landed := [], owners := [],
                      since := 0, urgent := false, host := false, rebuild := none }) s1

/-- A lane that neither yields nor reads for the test goes on with it: an item whose blocks the cache holds needs no read. -/
def State.testWork (s : State) (n : Lane) : State :=
  match s.cache.selfTest with
  | none => s
  | some t =>
    if !s.used n.val ∨ t.yielding.contains n.val ∨ (s.sched n).any (·.isTest) then s
    else s.testNext n (s.cache.extents.length + 64)

/-- Whether a lane has read everything of the running segment. -/
def State.testDone (s : State) (t : SelfTest) (n : Lane) : Bool :=
  !s.used n.val || (!(s.sched n).any (·.isTest) && (s.testItem t n.val (t.work.getD n.val 0)).isNone)

/-- Go on to the next segment once every lane has done this one; the last one done ends the test with result 0. -/
def State.testOn (s : State) : Nat → State
  | 0 => s
  | fuel + 1 =>
    match s.cache.selfTest with
    | none => s
    | some t =>
      let s1 := (List.finRange 4).foldl (fun s n => s.testWork n) s
      match s1.cache.selfTest with
      | none => s1
      | some t1 =>
        if (List.finRange 4).all fun n => s1.testDone t1 n then
          if t.segment = (if t.extended then 4 else 3) then s1.endTest 0 0 none
          else (s1.setCache { s1.cache with selfTest := some { t1 with segment := t.segment + 1, work := [0, 0, 0, 0] } }).testOn
            fuel
        else s1

/-- A self-test starts: segment 1, the checker injection, has the outcome given (R472, R591). -/
def State.startTest (s : State) (extended : Bool) (nsid : Nat) (captive : Bool) (owner : Option Nat) (checkFail : Bool) :
    State :=
  let t : SelfTest := { extended := extended, nsid := nsid, segment := 1, captive := captive, yielding := [],
                        work := [0, 0, 0, 0], ranMs := 0, owner := owner }
  let s1 := (s.setCache { s.cache with selfTest := some t }).setSata { s.hif.sata with selfTestStatus := 0xF0 }
  if checkFail then s1.endTest 7 1 none
  else (s1.setCache { s1.cache with selfTest := some { t with segment := 2 } }).testOn 4

/-- A read of the self-test has ended: a sector that was not delivered, or of segment 4 a block on the uncorrectable list, fails its segment (R561, R563, R591), else the work goes on. -/
def State.testRead (s : State) (n : Lane) (o : MediaOp) (missed : List Nat) : State :=
  let all : Bool := (s.cache.selfTest.map (·.segment)).getD 0 == 4
  let bad := (o.blocks.map (·.pba)).filter fun p => missed.contains p || (all && s.listedAt p)
  match s.cache.selfTest, o.isTest, bad with
  | some t, true, p :: _ => s.endTest 7 t.segment (s.lbaAt p)
  | some _, true, [] => (s.testWork n).testOn 4
  | _, _, _ => s

/-- MEDIA_OPERATION_END (R301, R571): the lane's operation in work ends, but not while a ladder runs. A read is due once no ladder runs and every sector was
delivered or has failed; a write once every sector has landed, or the lane gives up its rest (`gaveUp`: a write step that could
not complete), or its rewrites have run beyond the write timer (R612). On a lane that media cannot be used on, the operation ends with that status (R639, R659, R660). -/
def execMediaOperationEnd (n : Lane) (gaveUp : Bool) (s : State) : Host.Outcome State Fault Refusal :=
  .next <|
    match (s.sched n).head? with
    | none => s
    | some o =>
      let down := s.mediaStatus n.val
      let stopping : Bool := s.buf.stopDue && !s.laneOut n.val && decide (down = 0x7C3)
      if o.write ∧ (s.lane n).rcv.ladder.isSome ∧ down = 0 then s
      else if o.write then
        if o.sectors.all fun x => o.landed.contains x.pba then s.endWrite n o 0
        else if down ≠ 0 ∧ !stopping then s.endWrite n o down
        else if gaveUp ∨ s.rewriteLate n then s.endWrite n o 0x280
        else s
      else
        let c := (s.lane n).chan
        let bad := (o.blocks.filter fun b => !c.delivered.contains b.pba).map (·.pba)
        if down ≠ 0 then ((s.dropLadder n).endRead n o down).testRead n o bad
        else
          let all := o.blocks.all fun b =>
            c.delivered.contains b.pba || c.failed.any fun q => q.1 == b.pba && causeUntried ≤ q.2
          if (s.lane n).rcv.ladder.isSome then s
          else if all ∨ (o.host ∧ o.owners.isEmpty) then (s.endRead n o 0x281).testRead n o bad
          else s

/-- SELF_TEST_RESUME (R592): no host command has been pending on the lane for 100 ms, and the test goes on there. -/
def execSelfTestResume (n : Lane) (s : State) : Host.Outcome State Fault Refusal :=
  .next <|
    match s.cache.selfTest with
    | none => s
    | some t =>
      if !t.yielding.contains n.val ∨ (s.sched n).any (·.host) then s
      else
        let back := t.work.set n.val (t.work.getD n.val 0 - 1)
        ((s.setCache { s.cache with selfTest := some { t with yielding := t.yielding.erase n.val, work := back } }).testWork
          n).testOn 4

/-! ## Operating time (R119, R428, R677) -/

/-- Whether a lane is busy (R428, R587): its scheduler holds an operation for a host command, a destage or an extended self-test, or a
Sanitize overwrite or a Format with SES 1 still has work on it. -/
def State.laneBusy (s : State) (n : Lane) : Bool :=
  let long := (s.cache.selfTest.map fun t => t.extended).getD false
  (s.scheds[n]).any (fun (o : MediaOp) => o.host || o.write || (o.isTest && long)) ||
    (s.cache.selfTest.map fun t => t.extended && !s.testDone t n).getD false ||
    (s.cache.admin.map fun o => decide (o.done.getD n.val 0 < s.opMiB o n.val)).getD false

/-- A stretch of busy time joins those before it, of which the long window's remain (R428). -/
def addBusy (old since till : Nat) : List (Nat × Nat) → List (Nat × Nat)
  | (a, b) :: r => if b = since then (a, till) :: r.filter (fun x => decide (old < x.2)) else (since, till) :: ((a, b) :: r).filter (fun x => decide (old < x.2))
  | [] => [(since, till)]

/-- Operating time advances (R677), saturating at 40 bits, and with it the lanes' busy time and a self-test's own running time (R591). -/
def State.advance (s : State) (ms : Nat) : State :=
  let t0 := s.crn.elapsed
  let keep := t0 + ms - s.sec16 secSpinPolicy 0x0A * 1000
  let busy := (List.finRange 4).foldl (fun (v : Vector (List (Nat × Nat)) 4) n =>
    if s.laneBusy n then v.set n (addBusy keep t0 (t0 + ms) v[n]) else v) s.whl.busy
  let test := s.cache.selfTest.map fun (t : SelfTest) => if t.yielding.isEmpty then { t with ranMs := t.ranMs + ms } else t
  { s with crn := { s.crn with opTime := satAdd (2 ^ 40 - 1) s.crn.opTime ms, elapsed := t0 + ms }, whl := { s.whl with busy := busy },
           cache := { s.cache with selfTest := test } }

/-- CRYSTAL_STOPPED (R119): operating time takes the 4 ms without an edge; from here it is paced by Lookout's oscillator,
KLN.STATUS.LKO_PACED reads 1, and event 0x021 is raised with payload 0. -/
def execCrystalStopped (s : State) : Host.Outcome State Fault Refusal :=
  .next <|
    if s.pwr.crystalStopped then s
    else
      ({ s.advance 4 with pwr := { s.pwr with crystalStopped := true } }.put Reg.KLN_STATUS_LKO_PACED 1).raise 0x021 0

/-- A millisecond of operating time (R677); Kiln's cooling hold runs down with it while no Cone 3 is asserted and SUPPLY is not in
force (R638, R752). -/
def State.tick (s : State) : State :=
  if !s.powered then s
  else
    let s1 := s.advance 1
    if s1.shutState = 3 ∧ s1.get Reg.KLN_STATUS_CONE3 = 0 ∧ s1.devState ≠ 3 ∧ 0 < s1.kln.holdMs then
      (s1.setKln { s1.kln with holdMs := s1.kln.holdMs - 1 }).put Reg.KLN_HOLD_LEFT_S (ceilDiv (s1.kln.holdMs - 1) 1000)
    else s1

end Sys2Proof.Machine
end

