-- ==== Sys2Proof/Machine/Ports.lean ====
section
/-! DEFINITION. The PCIe ports and their controllers (R516 to R530, R536): links, resets, enabling and shutdown, doorbells,
command fetch in arbitration order, and the posting of completions with their messages. -/

namespace Sys2Proof.Machine

/-! ## Ports -/

/-- A port. -/
def State.port (s : State) (p : Port) : PortState := s.hif.ports[p]

/-- Whether the port serves a controller: present, powered, native mode (R48, R600). -/
def State.portServes (s : State) (p : Port) : Bool := s.powered && s.portPresent p && !s.boot.compat

/-- Whether configuration requests reach the port. -/
def State.portReach (s : State) (p : Port) : Bool := s.portServes p && (s.port p).linkUp

/-- Whether memory requests reach the function, and whether it may send any: only in D0 (R516, log entry 154). -/
def State.memReach (s : State) (p : Port) : Bool := s.portReach p && !(s.port p).d3hot

/-- Device ID of the variant (R1). -/
def variantDevice : Variant → Nat
  | .q => 0x8401
  | .d => 0x8402
  | .s => 0x8403

/-! ## Slots (R525, R526) -/

/-- Slots held: a write kept through a reset (R71) holds none. -/
def State.slotsInUse (s : State) : Nat := (s.hif.cmds.filter fun c => !c.isAta && c.sq != sqKept).length

/-- Slots a controller's admin or I/O commands hold. -/
def State.slotsOf (s : State) (p : Port) (admin : Bool) : Nat :=
  (s.hif.cmds.filter fun c => !c.isAta && c.sq != sqKept && c.port == p && ((c.sq == 0 || c.sq == sqTunnel) == admin)).length

/-- Whether a controller can obtain a slot: one of its own 16 and 112, or one of the 65,280 others. -/
def State.slotFor (s : State) (p : Port) (admin : Bool) : Bool :=
  let own := if admin then 16 else 112
  let shared := (s.slotsOf 0 true - 16) + (s.slotsOf 0 false - 112) + (s.slotsOf 1 true - 16) + (s.slotsOf 1 false - 112)
  decide (s.slotsOf p admin < own) || decide (shared < 65280)

/-- Whether a controller fetches: enabled, ready, its link up, no shutdown asked for (R520). -/
def State.fetches (s : State) (p : Port) : Bool := s.memReach p && (s.ctl p).rdy && (s.ctl p).shst == 0

/-- Whether an SQ has an entry to fetch, and whether a slot can be had for it. -/
def State.sqReady (s : State) (p : Port) (q : SubQueue) : Bool := q.head != q.tail && s.slotFor p (q.id == 0)

/-- HIF.SLOTS.PAUSED (R526): a non-empty SQ waits for a slot. -/
def State.pauseCheck (s : State) : State :=
  let waiting := (List.finRange 2).any fun p => s.fetches p && (s.ctl p).sqs.any fun q => q.head != q.tail && !s.slotFor p (q.id == 0)
  if s.get Reg.HIF_SLOTS_PAUSED = flag waiting then s
  else (s.put Reg.HIF_SLOTS_PAUSED (flag waiting)).raise 0x504 (flag waiting)

/-! ## Resets of a controller (R71, R519) -/

/-- Commands that a reset ended no longer wait on any lane. -/
def State.dropOwners (s : State) (gone : List Nat) : State :=
  (List.finRange 4).foldl (fun s n =>
    let l := (s.sched n).map fun (o : MediaOp) => { o with owners := o.owners.filter fun q => !gone.contains q }
    let s1 := s.setSched n l
    match (s1.lane n).rcv.ladder with
    | some d => s1.setRcv n { (s1.lane n).rcv with ladder := some { d with waiting := d.waiting.filter fun w => !gone.contains w.1 } }
    | none => s1) s

/-- The controller is reset by a cause of R552: 0 PERST_N, hot reset or link down, 1 FLR, 2 CC.EN, 3 NSSR. Its commands end
without completion; a write whose data is wholly in the buffer is kept and commits (R71). The admin queue's attributes stay
for causes 2 and 3, configuration space for the same; a running self-test is aborted (R592). -/
def State.resetController (s : State) (p : Port) (cause : Nat) : State :=
  if !s.portServes p then s
  else
    let mine := s.hif.cmds.filter fun c => c.port == p && !c.isAta && c.sq != sqKept
    let keep := mine.filter fun c => c.isWrite && c.transferred && !c.resolved && !c.ended
    let gone := (mine.filter fun c => !keep.contains c).map (·.seq)
    let cmds := (s.hif.cmds.filter fun c => !gone.contains c.seq).map fun c => if keep.contains c then { c with sq := sqKept } else c
    let k := s.ctl p
    let base : Controller := { Controller.reset with errors := k.errors, errorCount := k.errorCount }
    let k1 := if cause < 2 then base else { base with aqa := k.aqa, asq := k.asq, acq := k.acq }
    let s1 := ((s.setHif { s.hif with cmds := cmds }).setCtl p k1).dropOwners gone
    let s2 := if cause < 2 then
        let x := s1.port p
        s1.setPort p { PortState.reset with perstN := x.perstN, linkUp := x.linkUp, speed := x.speed, width := x.width,
                                            inL1 := x.inL1, clkreqLow := x.clkreqLow }
      else s1
    let s3 := keep.foldl (fun s c => s.tryCommit c.seq) (s2.endTest 2 ((s2.cache.selfTest.map (·.segment)).getD 0) none)
    (s3.raise (0x502 + p.val) (cause + min 0xFFFF mine.length * 2 ^ 16)).pauseCheck

/-- The link of a port goes down, if it was up (R552). -/
def State.portDown (s : State) (p : Port) : State :=
  let x := s.port p
  if x.linkUp then
    (s.setPort p { x with linkUp := false, speed := 0, width := 0, inL1 := false, clkreqLow := true }).raise (0x500 + p.val) 0
  else s

/-- PERST_N_ASSERT (R71, R519). -/
def execPerstNAssert (p : Port) (s : State) : Host.Outcome State Fault Refusal :=
  .next <|
    if !s.portPresent p then s
    else if !s.portServes p then s.setPort p { s.port p with perstN := false }
    else ((s.setPort p { s.port p with perstN := false }).portDown p).resetController p 0

/-- PERST_N_RELEASE (R97): link training on the port may start. -/
def execPerstNRelease (p : Port) (s : State) : Host.Outcome State Fault Refusal :=
  .next (if s.portPresent p then s.setPort p { s.port p with perstN := true } else s)

/-- A link to the host has come up (R713): HOST_LINK_LOST clears and the spindle restarts. -/
def State.hostLinkBack (s : State) : State :=
  let s1 := { s with sbd := { s.sbd with shutdown := false } }
  if s1.get Reg.SBD_STATUS_HOST_LINK_LOST = 1 then
    ((s1.put Reg.SBD_STATUS_HOST_LINK_LOST 0).raise 0x7FD 0).restartSpindle
  else s1

/-- PCIE_LINK_UP (R97, R516, R552): the link trains at a speed (1 to 5) and width (1 or 2), once PERST_N is high and FUSE
has ended. -/
def execPcieLinkUp (p : Port) (speed width : Nat) (s : State) : Host.Outcome State Fault Refusal :=
  .next <|
    if !s.portServes p ∨ !(s.port p).perstN ∨ !s.boot.fuseEnded ∨ (s.port p).linkUp ∨ speed < 1 ∨ 5 < speed ∨ width < 1 ∨ 2 < width
    then s
    else
      let s1 := s.setPort p { s.port p with linkUp := true, speed := speed, width := width, inL1 := false, clkreqLow := true }
      let s2 := (s1.setHif { s1.hif with trained := s1.hif.trained.insert p.val }).wake (.hif p)
      (s2.raise (0x500 + p.val) (1 + speed * 2 ^ 4 + width * 2 ^ 8)).hostLinkBack

/-- HOT_RESET (R519): as for PERST_N; the link retrains. -/
def execHotReset (p : Port) (s : State) : Host.Outcome State Fault Refusal :=
  .next (if s.portReach p then (s.portDown p).resetController p 0 else s)

/-- LINK_DOWN (R519). -/
def execLinkDown (p : Port) (s : State) : Host.Outcome State Fault Refusal :=
  .next (if (s.port p).linkUp then (s.portDown p).resetController p 0 else s)

/-- FUNCTION_LEVEL_RESET (R519): as for PERST_N, except that the link stays up. -/
def execFunctionLevelReset (p : Port) (s : State) : Host.Outcome State Fault Refusal :=
  .next (if s.portReach p then s.resetController p 1 else s)

/-- NVM subsystem reset (R519): both controllers, and both links retrain. -/
def State.nssr (s : State) : State :=
  (List.finRange 2).foldl (fun s p => if s.portServes p then (s.resetController p 3).portDown p else s) s

/-- NSSR_WRITE (R519). -/
def execNssrWrite (p : Port) (v : Nat) (s : State) : Host.Outcome State Fault Refusal :=
  .next (if s.memReach p ∧ v = 0x4E564D65 then s.nssr else s)

/-- L1_ENTRY (R47, R518): only with ASPM L1 enabled; in L1.1 and L1.2 Pp_CLKREQ_N is released. -/
def execL1Entry (p : Port) (substate : Bool) (s : State) : Host.Outcome State Fault Refusal :=
  .next <|
    let x := s.port p
    if s.portReach p ∧ x.aspmL1 then s.setPort p { x with inL1 := true, clkreqLow := !substate } else s

/-- L1_EXIT (R47, R518): Pp_CLKREQ_N is driven low again and the HIF core does not gate. -/
def execL1Exit (p : Port) (s : State) : Host.Outcome State Fault Refusal :=
  .next <|
    let x := s.port p
    if x.linkUp ∧ x.inL1 then (s.setPort p { x with inL1 := false, clkreqLow := true }).wake (.hif p) else s

/-! ## Configuration space (R97, R516, R517) -/

/-- A dword of the type 0 header; the places of the capabilities are not in the spec, so other dwords read free values
(log entry 1). -/
def State.cfgRead (s : State) (p : Port) (dw : Nat) : Option Nat :=
  let w := (Sparse.get (fun _ => 0) (s.port p).cfg dw).toNat
  let id := 0x1F5D + variantDevice s.fuses.variant * 2 ^ 16
  match dw with
  | 0 => some id
  | 1 => some (0x00100000 + w % 2 ^ 16)
  | 2 => some 0x01080211
  | 3 => some 0
  | 4 => some (w / 2 ^ 17 * 2 ^ 17 + 4)
  | 5 => some w
  | 6 => some (w / 2 ^ 22 * 2 ^ 22 + 4)
  | 7 => some w
  | 8 => some 0
  | 9 => some 0
  | 10 => some 0
  | 11 => some id
  | 12 => some 0
  | 14 => some 0
  | 15 => some (w % 256)
  | _ => none

/-- The pending messages of a function that its masks now let through (R191). -/
def State.releaseMsix (s : State) (p : Port) : State :=
  let x := s.port p
  if !x.msixEnabled ∨ x.msixFnMask ∨ x.d3hot then s
  else
    let go := x.msixPending.filter x.msixUnmasked.contains
    go.foldl (fun s v => s.emit (.msix p v (x.msixEntry v).1 (x.msixEntry v).2)) (s.setPort p { x with msixPending := x.msixPending.filter fun v => !go.contains v })

/-- CSTS.CFS (R105, R660). -/
def State.cfs (s : State) (p : Port) : Bool := (s.held && bit (s.ctl p).cc 0) || s.lko.fatal

/-- CSTS of a controller as the health poll shows it: CFS is set in the hold state (R710). -/
def State.csts (s : State) (p : Port) : Nat :=
  flag (s.ctl p).rdy + flag (s.cfs p || s.held) * 2 + (s.ctl p).shst % 4 * 4

/-- A dword of BAR0 (R517, R522): the NVMe registers, the MSI-X table and the pending bit array; `none` where the spec gives no value
(a doorbell). Every address no register has reads 0 (log entry 169). -/
def State.barRead (s : State) (p : Port) (off : Nat) : Option Nat :=
  let k := s.ctl p
  let x := s.port p
  if off = 0x00 then some 0xFF03FFFF
  else if off = 0x04 then some 0x00400030
  else if off = 0x08 then some 0x00020000
  else if off = 0x14 then some (k.cc % 2 ^ 32)
  else if off = 0x1C then some (flag k.rdy + flag (s.cfs p) * 2 + k.shst % 4 * 4)
  else if off = 0x24 then some (k.aqa % 2 ^ 32)
  else if off = 0x28 then some (k.asq % 2 ^ 32)
  else if off = 0x2C then some (k.asq / 2 ^ 32)
  else if off = 0x30 then some (k.acq % 2 ^ 32)
  else if off = 0x34 then some (k.acq / 2 ^ 32)
  else if 0x1000 ≤ off ∧ off < 0x1000 + 8 * 1025 then none
  else if 0x10000 ≤ off ∧ off < 0x18000 then
    let v := (off - 0x10000) / 16
    some (match off / 4 % 4 with
      | 0 => (x.msixEntry v).1 % 2 ^ 32
      | 1 => (x.msixEntry v).1 / 2 ^ 32
      | 2 => (x.msixEntry v).2
      | _ => flag !(x.msixUnmasked.contains v))
  else if 0x18000 ≤ off ∧ off < 0x18100 then
    some ((List.range 32).foldl (fun r i => r + flag (x.msixPending.contains ((off - 0x18000) * 8 + i)) * 2 ^ i) 0)
  else some 0

/-- The mask bit of a table entry, and what an unmask lets through (R191). -/
def State.maskMsix (s : State) (p : Port) (vector : Nat) (mask : Bool) : State :=
  let x := s.port p
  if mask then s.setPort p { x with msixUnmasked := x.msixUnmasked.filter (· != vector) }
  else (s.setPort p { x with msixUnmasked := insertRising vector x.msixUnmasked }).releaseMsix p

/-- A dword write to BAR0: the message address and data of an MSI-X table entry, and its mask (R191). The controller registers and the
doorbells have rows of their own. -/
def State.barWrite (s : State) (p : Port) (off v : Nat) : State :=
  if 0x10000 ≤ off ∧ off < 0x18000 then
    let x := s.port p
    let i := (off - 0x10000) / 16
    let (a, d) := x.msixEntry i
    let put := fun (e : Nat × Nat) => s.setPort p { x with msixTable := Sparse.set (fun _ => (0, 0)) x.msixTable i e }
    match off / 4 % 4 with
    | 0 => put (a / 2 ^ 32 * 2 ^ 32 + v, d)
    | 1 => put (a % 2 ^ 32 + v * 2 ^ 32, d)
    | 2 => put (a, v)
    | _ => s.maskMsix p i (bit v 0)
  else s

/-- CONFIGURATION_REQUEST (R97): answered from the end of FUSE on. -/
def execConfigurationRequest (p : Port) (r : CfgRequest) (s : State) : Host.Outcome State Fault Refusal :=
  .next <|
    if !s.portReach p ∨ !s.boot.fuseEnded then s
    else
      let x := s.port p
      match r with
      | .read dw =>
        match s.cfgRead p dw with
        | some v => s.emit (.configData p (BitVec.ofNat 32 v))
        | none => (s.emit (.configData p (BitVec.ofNat 32 s.freeNat))).drew
      | .write dw v => s.setPort p { x with cfg := Sparse.set (fun _ => 0) x.cfg dw (BitVec.ofNat 32 v) }
      | .msix e m => (s.setPort p { x with msixEnabled := e, msixFnMask := m }).releaseMsix p
      | .aspm l1 => s.setPort p { x with aspmL1 := l1 }
      | .power d => (s.setPort p { x with d3hot := d }).releaseMsix p
      | .barRead off =>
        if !s.memReach p then s
        else
          match s.barRead p (off % 2 ^ 17 / 4 * 4) with
          | some v => s.emit (.mmio p v)
          | none => (s.emit (.mmio p (s.freeNat % 2 ^ 32))).drew
      | .barWrite off v => if s.memReach p then s.barWrite p (off % 2 ^ 17 / 4 * 4) (v % 2 ^ 32) else s

/-- MSIX_UNMASK (R191): a write of an entry's mask; a pending message goes out on unmask. -/
def execMsixUnmask (p : Port) (vector : Nat) (mask : Bool) (s : State) : Host.Outcome State Fault Refusal :=
  .next <|
    if !s.memReach p ∨ msixVectors ≤ vector then s else s.maskMsix p vector mask

/-! ## Enabling and shutdown -/

/-- CSTS.RDY follows CC.EN once BULK has ended, never in hold (R100, R105). -/
def State.readyCheck (s : State) (p : Port) : State :=
  let k := s.ctl p
  if s.portServes p ∧ bit k.cc 0 ∧ !k.rdy ∧ s.boot.bulkEnded ∧ !s.held ∧ !k.sqs.isEmpty then
    (s.setCtl p { k with rdy := true, critical := 0 }).critCheck.pauseCheck
  else s

/-- CC_EN_WRITE (R519, R523): CC is written with the admin queue registers the host has set. EN rising makes the admin queues
of 2 to 4,096 entries; EN falling resets the controller; while EN stays 0 the registers take what is written. -/
def execCcEnWrite (p : Port) (cc aqa asq acq : Nat) (s : State) : Host.Outcome State Fault Refusal :=
  .next <|
    let k := s.ctl p
    if !s.memReach p then s
    else if bit cc 0 ∧ ¬ bit k.cc 0 then
      let nsq := bits aqa 11 0
      let ncq := bits aqa 27 16
      let ok := decide (1 ≤ nsq) && decide (1 ≤ ncq)
      let sq : SubQueue := ⟨0, nsq + 1, asq, 0, 0, 0, 0⟩
      let cq : CompQueue := ⟨0, ncq + 1, acq, 0, true, 0, 0, true⟩
      let k1 := { k with cc := cc, aqa := aqa, asq := asq, acq := acq, shst := 0, sqs := if ok then [sq] else [],
                         cqs := if ok then [cq] else [] }
      (({ s with sbd := { s.sbd with shutdown := false } }.setCtl p k1).wake (.hif p)).readyCheck p
    else if bit k.cc 0 ∧ ¬ bit cc 0 then s.resetController p 2
    else if ¬ bit k.cc 0 then s.setCtl p { k with cc := cc, aqa := aqa, asq := asq, acq := acq }
    else s

/-- CC_SHN_WRITE (R520, R684): the controller stops fetching, its commands complete, Cairn flushes, every dirty extent is destaged, then SHST
reads 0b10. -/
def execCcShnWrite (p : Port) (shn : Nat) (s : State) : Host.Outcome State Fault Refusal :=
  .next <|
    let k := s.ctl p
    if !s.memReach p ∨ !bit k.cc 0 ∨ (shn ≠ 1 ∧ shn ≠ 2) then s
    else
      let s1 := ((s.setCtl p { k with shst := if k.shst = 2 then 2 else 1, cc := setBits k.cc 15 14 shn }).destageAll false).startFlush
      ({ s1 with sbd := { s1.sbd with shutdown := true } }).destageChecks.pauseCheck

/-! ## Doorbells (R524, R530) -/

/-- An invalid doorbell: Error event and HIF_DOORBELL_ERR. -/
def State.doorbellError (s : State) (p : Port) (q v info : Nat) (cq : Bool) : State :=
  (s.asyncEvent p 0 info).raise (0x506 + p.val) (q % 2 ^ 11 + flag cq * 2 ^ 11 + v % 2 ^ 16 * 2 ^ 16)

/-- Change a submission queue. -/
def State.mapSq (s : State) (p : Port) (q : Nat) (f : SubQueue → SubQueue) : State :=
  s.setCtl p { s.ctl p with sqs := (s.ctl p).sqs.map fun x => if x.id = q then f x else x }

/-- Change a completion queue. -/
def State.mapCq (s : State) (p : Port) (q : Nat) (f : CompQueue → CompQueue) : State :=
  s.setCtl p { s.ctl p with cqs := (s.ctl p).cqs.map fun x => if x.id = q then f x else x }

/-- SQ_TAIL_DOORBELL (R524). -/
def execSqTailDoorbell (p : Port) (q v : Nat) (s : State) : Host.Outcome State Fault Refusal :=
  .next <|
    if !s.memReach p ∨ !bit (s.ctl p).cc 0 then s
    else
      let s0 := s.wake (.hif p)
      match (s0.ctl p).sqs.find? (·.id == q) with
      | none => s0.doorbellError p q v 0 false
      | some x => if x.size ≤ v then s0.doorbellError p q v 1 false
          else (s0.mapSq p q fun x => { x with tail := v }).pauseCheck

/-- CQ_HEAD_DOORBELL (R524, R530): entries up to the new head are released. -/
def execCqHeadDoorbell (p : Port) (q v : Nat) (s : State) : Host.Outcome State Fault Refusal :=
  .next <|
    if !s.memReach p ∨ !bit (s.ctl p).cc 0 then s
    else
      let s0 := s.wake (.hif p)
      match (s0.ctl p).cqs.find? (·.id == q) with
      | none => s0.doorbellError p q v 0 true
      | some x =>
        if x.size ≤ v ∨ (x.tail + x.size - x.head) % x.size < (v + x.size - x.head) % x.size then s0.doorbellError p q v 1 true
        else s0.mapCq p q fun x => { x with head := v }

/-! ## Arbitration and fetch (R527, R528) -/

/-- A list turned by `k` places. -/
def turned (k : Nat) (l : List Nat) : List Nat := if l.isEmpty then [] else l.drop (k % l.length) ++ l.take (k % l.length)

/-- Turns of one class of a weighted round: `w` turns over its SQs. -/
def weighted (k w : Nat) (l : List Nat) : List Nat :=
  if l.isEmpty then [] else (List.range w).map fun i => (turned k l).getD (i % l.length) 0

/-- Whether weighted round robin with urgent class is selected. -/
def Controller.wrr (k : Controller) : Bool := bits k.cc 13 11 == 1

/-- The SQs of a new round (R527): the admin SQ, then the I/O SQs in turn, or the high, medium and low classes with their
weights. -/
def Controller.newRound (k : Controller) : List Nat :=
  let io := (k.sqs.filter (·.id != 0)).map (·.id)
  let cls := fun c => (k.sqs.filter fun q => q.id != 0 && q.prio == c).map (·.id)
  if k.wrr then
    0 :: weighted k.rot (bits k.arbitration 31 24 + 1) (cls 1) ++ weighted k.rot (bits k.arbitration 23 16 + 1) (cls 2) ++
      weighted k.rot (bits k.arbitration 15 8 + 1) (cls 3)
  else 0 :: turned k.rot io

/-- The next urgent SQ after the one served last. -/
def nextUrgent (last : Nat) (l : List Nat) : Option Nat := (l.find? (last < ·)).orElse fun _ => l.head?

/-- The SQ whose entry is fetched next, with the arbitration as it then stands: the running turn goes on; else the round's
next SQ with work, the admin SQ at its head, the urgent ones in strict priority before the others. -/
def State.pickSq (s : State) (p : Port) (k : Controller) : Nat → Option (Nat × Controller)
  | 0 => none
  | fuel + 1 =>
    let ready := fun q => k.sqs.any fun x => x.id == q && s.sqReady p x
    let urgent := if k.wrr then (k.sqs.filter fun x => x.id != 0 && x.prio == 0 && s.sqReady p x).map (·.id) else []
    let left := if bits k.arbitration 2 0 = 7 then 65536 else 2 ^ bits k.arbitration 2 0
    let goOn := match k.turn with
      | some (q, l) => if 0 < l ∧ ready q then some (q, { k with turn := some (q, l - 1) }) else none
      | none => none
    match goOn with
    | some r => some r
    | none =>
      match k.round.dropWhile fun q => !ready q with
      | q :: t =>
        if q ≠ 0 ∧ !urgent.isEmpty then
          (nextUrgent k.urgentLast urgent).map fun u => (u, { k with turn := some (u, left - 1), urgentLast := u })
        else some (q, { k with turn := some (q, left - 1), round := t })
      | [] =>
        match nextUrgent k.urgentLast urgent, ready 0 with
        | some u, false => some (u, { k with turn := some (u, left - 1), urgentLast := u, round := [] })
        | _, _ => s.pickSq p { k with turn := none, round := k.newRound, rot := k.rot + 1 } fuel

/-- The arbitration's choice on a port that fetches. -/
def State.pick (s : State) (p : Port) : Option (Nat × Controller) :=
  if s.fetches p then s.pickSq p (s.ctl p) 2 else none

/-- Whether a controller is within a turn that can go on. -/
def State.midTurn (s : State) (p : Port) : Bool :=
  s.fetches p && (match (s.ctl p).turn with
    | some (q, l) => decide (0 < l) && (s.ctl p).sqs.any fun x => x.id == q && s.sqReady p x
    | none => false : Bool)

/-- The port arbiter (R528): turns alternate whenever both controllers have entries to fetch. -/
def State.portsTurn (s : State) (p : Port) : Bool :=
  let other : Port := 1 - p
  if s.midTurn p then true
  else if s.midTurn other then false
  else s.hif.lastPort != p.val || (s.pick other).isNone

/-- Admin opcodes (R541, R551) with a command of their own. -/
def adminOpcodes : List Nat :=
  [0x00, 0x01, 0x02, 0x04, 0x05, 0x06, 0x08, 0x09, 0x0A, 0x0C, 0x10, 0x11, 0x14, 0x1D, 0x1E, 0x80, 0x84, 0xC0, 0xC1, 0xC4]
/-- I/O opcodes (R542). -/
def ioOpcodes : List Nat := [0x00, 0x01, 0x02, 0x04, 0x08, 0x0C, 0x0D, 0x0E, 0x11, 0x15]

/-- A command in a fresh slot. -/
def newCommand (seq : Nat) (p : Port) (sq : Nat) (e : SqEntry) (urgent : Bool) : Command :=
  { seq := seq, port := p, sq := sq, cid := e.cid % 65536, opcode := e.opcode % 256, ata := (0, 0), nsid := e.nsid,
    cdw := (List.range 6).map fun i => e.cdw.getD i 0, psdt := e.psdt, ptr := e.ptr, xfer := 0, phase := .queued, urgent := urgent,
    started := false, transferred := false, resolved := false, waitWindow := false, error := 0, errLba := 0, blocks := [],
    missing := [], got := [], toMedia := [], waitFor := [], dw0 := 0 }

/-- A command takes a slot and the next fetch sequence number (R19, R528, R566); HIF.SLOT_PEAK follows (R554). -/
def State.enterCommand (s : State) (c : Command) : State :=
  let s1 := s.setHif { s.hif with cmds := s.hif.cmds ++ [c], nextSeq := (s.hif.nextSeq + 1) % 2 ^ 48 }
  s1.put Reg.HIF_SLOT_PEAK_PEAK (max (s1.get Reg.HIF_SLOT_PEAK_PEAK) s1.slotsInUse)

/-- COMMAND_FETCH (R525 to R528, R541, R542): the entry at the head of the SQ that arbitration chooses is fetched, takes a slot
and a number; one with a CID in flight on its SQ or an opcode not supported completes at once. -/
def execCommandFetch (p : Port) (e : SqEntry) (s : State) : Host.Outcome State Fault Refusal :=
  .next <|
    match s.pick p with
    | none => s
    | some (q, k) =>
      if !s.portsTurn p then s
      else
        let fresh := !s.midTurn p
        let s1 := (s.setCtl p k).mapSq p q fun x => { x with head := (x.head + 1) % x.size }
        let s2 := if fresh then s1.setHif { s1.hif with lastPort := p.val } else s1
        let clash : Bool := s2.hif.cmds.any fun c => c.port == p && c.sq == q && c.cid == e.cid % 65536
        let urgent : Bool := k.wrr && q != 0 && k.sqs.any fun x => x.id == q && x.prio == 0
        let seq := s2.hif.nextSeq
        let s3 := (s2.enterCommand (newCommand seq p q e urgent)).wake (.hif p)
        let known := (if q = 0 then adminOpcodes else ioOpcodes).contains (e.opcode % 256)
        (if clash then s3.finish seq 0x003 0 else if !known then s3.finish seq 0x001 0 else s3).pauseCheck

/-! ## Completion entries and messages (R529, R530, R535, R536) -/

/-- The message for an entry of a CQ: at once, or coalesced with others of its vector (R536); a TIME of 0 has always passed. -/
def State.cqMessage (s : State) (p : Port) (cq vector : Nat) : State :=
  let k := s.ctl p
  let thr := k.coalescing % 256
  let time := k.coalescing / 256 % 256
  let rest := k.coalesced.filter (·.1 != vector)
  if cq = 0 ∨ vector = 0 ∨ k.noCoalesce.contains vector then (s.setCtl p { k with coalesced := rest }).msixSend p vector
  else
    let n := (((k.coalesced.find? (·.1 == vector)).map (·.2)).getD 0) + 1
    if thr + 1 ≤ n ∨ time = 0 then (s.setCtl p { k with coalesced := rest }).msixSend p vector
    else s.setCtl p { k with coalesced := rest ++ [(vector, n)] }

/-- A committed command that waits for nothing else and is the first of its CQ, with its CQ. -/
def State.postable (s : State) (c : Command) : Option CompQueue :=
  let k := s.ctl c.port
  let cqOf := fun (d : Command) => (k.sqs.find? (·.id == d.sq)).map (·.cq)
  match (cqOf c).bind fun i => k.cqs.find? (·.id == i) with
  | none => none
  | some q =>
    let first : Bool := ((s.hif.cmds.find? fun d => d.ended && d.port == c.port && !d.isAta && cqOf d == some q.id).map (·.seq)) ==
      some c.seq
    if c.ended ∧ first ∧ (q.tail + 1) % q.size ≠ q.head then some q else none

/-- Commands that waited for an entry to be posted (R533, R534). -/
def State.posted (s : State) (seq : Nat) : State :=
  s.hif.cmds.foldl (fun s c =>
    if c.waitFor.contains seq then
      let left := c.waitFor.erase seq
      let s1 := s.mapCmd c.seq fun c => { c with waitFor := left }
      if left.isEmpty ∧ !c.ended then
        let s2 := if c.opcode = 0x00 ∧ c.sq = 0 then
            s1.setCtl c.port { s1.ctl c.port with sqs := (s1.ctl c.port).sqs.filter (·.id != c.cdw.getD 0 0 % 65536) }
          else s1
        s2.finish c.seq 0 c.dw0
      else s1
    else s) s

/-- COMPLETION_POST (R23, R529 to R531): the 16-byte entry of a committed command goes to its CQ with the phase tag and the
SQ's head; the slot is free again, and the message follows. -/
def execCompletionPost (seq : Nat) (s : State) : Host.Outcome State Fault Refusal :=
  .next <|
    match s.cmd seq with
    | none => s
    | some c =>
      match s.postable c, c.phase with
      | some q, .committed status dw0 =>
        if !s.memReach c.port then s
        else
          let head := (((s.ctl c.port).sqs.find? (·.id == c.sq)).map (·.head)).getD 0
          let e := leBytes 4 dw0 ++ zeros 4 ++ leBytes 2 head ++ leBytes 2 c.sq ++
            leBytes 4 (c.cid + flag q.phase * 2 ^ 16 + statusField status * 2 ^ 17)
          let next := (q.tail + 1) % q.size
          let s1 := (s.emit (.cqEntry c.port q.id q.tail e)).mapCq c.port q.id fun x =>
            { x with tail := next, phase := if next = 0 then !x.phase else x.phase }
          let s2 := if q.ien then s1.cqMessage c.port q.id q.vector else s1
          (((s2.dropCmd seq).posted seq).destageChecks).pauseCheck
      | _, _ => s

/-- COALESCING_TIMEOUT (R536): TIME × 100 µs after a vector's first entry its message goes out. -/
def execCoalescingTimeout (p : Port) (vector : Nat) (s : State) : Host.Outcome State Fault Refusal :=
  .next <|
    let k := s.ctl p
    if k.coalesced.any (·.1 == vector) then
      (s.setCtl p { k with coalesced := k.coalesced.filter (·.1 != vector) }).msixSend p vector
    else s

end Sys2Proof.Machine
end

