-- ==== Sys2Proof/Machine/Cairn.lean ====
section
/-! DEFINITION. Cairn (chapter 20): records in flash, the boot scan, flushing with the failure of the log's flash, clearing,
and reading the log. -/

namespace Sys2Proof.Machine

/-- Cairn's record replaced. -/
def State.setCrn (s : State) (c : Cairn) : State := { s with crn := c }

/-! ## Records (R674 to R676) -/

/-- The CHAIN value after a previous record's bytes 0x00 to 0x3B. -/
def chainOf (prev : List Byte) : List Byte := (Config.shake256 (Config.logKey ++ prev) 16).take 16

/-- Bytes 0x00 to 0x3B of a record chained to `prev`. -/
def Record.body (r : Record) (prev : List Byte) : List Byte :=
  leBytes 6 r.seq ++ leBytes 2 (r.id % 2 ^ 11 + eventClass r.id * 2 ^ 11) ++ leBytes 5 r.opTime ++ leBytes 3 r.pcyc ++
    leBytes 6 (if r.tsValid then r.hostTs else 0) ++ leBytes 2 (flag r.tsValid + flag r.lkoTime * 2 + flag r.tsSet * 4) ++
    leBytes 6 r.payload ++ padTo 14 r.extra ++ padTo 16 (chainOf prev)

/-- The 64 bytes of a record from its body. -/
def sealed (body : List Byte) : List Byte := body ++ leBytes 4 (crc32c body)

/-- Whether a slot's CRC is good. -/
def slotCrcOk (b : List Byte) : Bool := u32 b 0x3C == crc32c (b.take 0x3C)
/-- SEQ, event ID of a slot's bytes. -/
def slotSeq (b : List Byte) : Nat := field b 0 6
/-- The event ID in a slot. -/
def slotId (b : List Byte) : Nat := u16 b 6 % 2 ^ 11

/-! ## Regions (R74, R680) -/

/-- Start of the primary (false) or spare region. -/
def State.regionBase (s : State) (spare : Bool) : Nat := s.boot.density - (if spare then 1048576 else 2097152)
/-- The bytes of a slot. -/
def State.slotBytes (s : State) (spare : Bool) (i : Nat) : List Byte :=
  Memory.read flashDefault s.flash (s.regionBase spare + 64 * i) 64
/-- Whether a slot is empty. -/
def slotEmpty (b : List Byte) : Bool := b.all (· == 0xFF)
/-- The programmed slots of a region from slot `i` up to the first empty one. -/
def State.takeSlots (s : State) (spare : Bool) : Nat → Nat → List (Nat × List Byte)
  | 0, _ => []
  | fuel + 1, i =>
    let b := s.slotBytes spare i
    if slotEmpty b then [] else (i + (if spare then 16384 else 0), b) :: s.takeSlots spare fuel (i + 1)

/-- Program a slot of a region. -/
def State.programSlot (s : State) (spare : Bool) (i : Nat) (b : List Byte) : State :=
  { s with flash := Memory.write flashDefault s.flash (s.regionBase spare + 64 * i) b }
/-- Erase a region. -/
def State.eraseRegion (s : State) (spare : Bool) : State :=
  { s with flash := Memory.erase s.flash (s.regionBase spare) 1048576 }

/-- Slots used in the region the log continues in. -/
def Cairn.used (c : Cairn) : Nat := if c.spare then c.usedSpare else c.usedPrimary
/-- One more slot of that region used. -/
def Cairn.useSlot (c : Cairn) : Cairn :=
  if c.spare then { c with usedSpare := c.usedSpare + 1 } else { c with usedPrimary := c.usedPrimary + 1 }

/-! ## The end of a flush, and step 3 of a clear (R684, R694) -/

/-- Step 3 of a clear, once its flush is done: the CLEAR record is built; with the spare region empty it goes to spare slot
0 (step 4). -/
def State.clearBuild (s : State) : State :=
  let c := s.crn
  if !c.clearing ∨ c.flushing ∨ !c.clearBytes.isEmpty then s
  else
    let r : Record := { s.stamp 0x7F1 (c.count % 2 ^ 15 + c.clearKeySlot * 2 ^ 16)
                          (leBytes 6 c.firstSeq ++ leBytes 6 (c.clearSeq - 1) ++ zeros 2) with seq := c.clearSeq }
    let b := sealed (r.body c.lastBody)
    let s1 := s.setCrn { c with clearBytes := b, tsSetPending := c.tsSetPending && !r.tsSet }
    if c.spare ∨ 0 < c.usedSpare then s1 else s1.programSlot true 0 b

/-- A flush with nothing left to program is done (R684): GO clears, and what waited for it goes on. -/
def State.flushCheck (s : State) : State :=
  if s.crn.flushing ∧ (s.crn.bothFail ∨ !s.crn.flushable) then
    (((s.setCrn { s.crn with flushing := false }).put Reg.CRN_FLUSH_GO 0).clearBuild).destageChecks
  else s

/-- CAIRN_FLUSH_START (R684): 96 records are staged, and a flush starts. -/
def execCairnFlushStart (s : State) : Host.Outcome State Fault Refusal :=
  .next (if 96 ≤ s.crn.staged.length then s.startFlush else s)

/-- STAGING_AGE_TIMEOUT (R684): the oldest staged record is 10 s old. -/
def execStagingAgeTimeout (s : State) : Host.Outcome State Fault Refusal := .next s.startFlush

/-- A write of CRN.FLUSH (R700): GO 1 starts a flush, and clears when the flush ends, at once where nothing is to be
programmed. -/
def State.writeFlush (s : State) (v : Nat) : State :=
  if bit v 31 then
    let s1 := s.startFlush
    if s1.crn.flushing then s1.put Reg.CRN_FLUSH_GO 1 else s1
  else s

/-! ## Programming (R681, R686 to R688) -/

/-- Both regions have failed (R688). -/
def State.cairnBothFail (s : State) : State :=
  let s1 := s.setCrn { s.crn with bothFail := true, retried := false }
  (((s1.raise 0x7F4 s1.crn.staged.length).asyncAll 7 2).critCheck).flushCheck

/-- The region in use has failed at a slot: the log switches to the spare region with CRN_MEDIA_FAIL in front of the staged
records, whose SEQs rise by 1 (R687), or both have failed, the spare region perhaps at the scan (R686). -/
def State.regionFail (s : State) (slot : Nat) : State :=
  let c := s.crn
  if c.spare ∨ c.badSpare then s.cairnBothFail
  else
    let seq := ((c.staged.head?).map (·.seq)).getD c.nextSeq
    let r : Record := { s.stamp 0x7F3 slot (zeros 14) with seq := seq, tsSet := false }
    let c1 := { c with spare := true, retried := false, nextSeq := c.nextSeq + 1,
                       clearSeq := if c.clearing ∧ c.clearBytes.isEmpty then c.clearSeq + 1 else c.clearSeq,
                       staged := r :: c.staged.map fun (x : Record) => { x with seq := x.seq + 1 } }
    (s.setCrn c1).raise 0x7F3 slot

/-- A program of the first staged record into the next slot ends. A failed one is tried once more in the slot after; a second
failure, or a region without a slot left, is the region's failure (R686). What a failed program leaves in its slot is not
known. -/
def State.programRecord (s : State) (ok : Bool) : State :=
  let c := s.crn
  match c.staged with
  | [] => s
  | r :: t =>
    if !c.flushing ∨ c.bothFail ∨ !c.flushable then s
    else if 16384 ≤ c.used then (s.regionFail 16383).flushCheck
    else if ok then
      let body := r.body c.lastBody
      let c1 := { c.useSlot with staged := t, commit := r.seq, lastBody := body, retried := false,
                                 firstSeq := if c.count = 0 then r.seq else c.firstSeq }
      ((s.programSlot c.spare c.used (sealed body)).setCrn c1).fullNow.flushCheck
    else
      let junk := (List.range 8).flatMap fun i => leBytes 8 (Config.freeValue (s.free + i)).toNat
      let s1 := { s.programSlot c.spare c.used junk with free := s.free + 8 }
      let c1 := { c.useSlot with skipped := (c.used + if c.spare then 16384 else 0) :: c.skipped }
      if c.retried then ((s1.setCrn c1).regionFail c.used).flushCheck
      else s1.setCrn { c1 with retried := true }

/-- CAIRN_RECORD_PROGRAMMED (R681): a record has been programmed and read back. -/
def execCairnRecordProgrammed (ok : Bool) (s : State) : Host.Outcome State Fault Refusal := .next (s.programRecord ok)

/-- CAIRN_PROGRAM_TIMEOUT (R686): the program times out. -/
def execCairnProgramTimeout (s : State) : Host.Outcome State Fault Refusal := .next (s.programRecord false)

/-! ## Boot scan (R685, R690) -/

/-- The checks on taken slots in order: (slot, bytes, valid); `prev` is the slot before, `good` the last one with a good
CRC. -/
def checkSlots : List Byte → List Byte → Bool → List (Nat × List Byte) → List (Nat × List Byte × Bool)
  | _, _, _, [] => []
  | prev, good, first, (i, b) :: t =>
    let chain := (b.drop 0x2C).take 16
    let chained :=
      if first then slotId b != 0x7F0 || chain == padTo 16 (chainOf (zeros 60))
      else chain == padTo 16 (chainOf (if i = 16384 then good else prev))
    let body := b.take 0x3C
    (i, b, slotCrcOk b && chained) :: checkSlots body (if slotCrcOk b then body else good) false t

/-- SEQ that the first failing record should carry (R685). -/
def breakSeqOf : Option Nat → List (Nat × List Byte × Bool) → Option Nat
  | _, [] => none
  | prev, (_, b, ok) :: t =>
    if ok then breakSeqOf (some (slotSeq b)) t
    else match prev with
      | some q => some (q + 1)
      | none => some (if slotCrcOk b then slotSeq b else 2 ^ 48 - 1)

/-- The newest valid record. -/
def newestOf (l : List (Nat × List Byte × Bool)) : Option (List Byte) :=
  (l.filter (·.2.2)).foldl (fun r x => match r with
    | none => some x.2.1
    | some b => if slotSeq b < slotSeq x.2.1 then some x.2.1 else r) none

/-- A record of the scan takes its number, or is refused as the log is full (R682, R683). -/
def State.scanRecord (s : State) (r : Record) : State :=
  if s.crn.accepts then s.stageRecord r else s.bump (Reg.CRN_MISSED_COUNT (eventClass r.id)) 1

/-- Records held before the scan take their time fields and numbers, after the scan's own record (R678, R683). -/
def State.scanRecords (s : State) (id base pcyc first : Nat) : State :=
  let c := s.crn
  let own : Record := { s.stamp id pcyc (zeros 14) with
    opTime := min (2 ^ 40 - 1) (base + c.elapsed), pcyc := pcyc, hostTs := 0, tsValid := false }
  let held := c.staged.map fun (r : Record) => { r with opTime := min (2 ^ 40 - 1) (base + r.opTime), pcyc := pcyc }
  (own :: held).foldl State.scanRecord (s.setCrn { c with
    scanned := true, staged := [], nextSeq := first, pcyc := pcyc, opTime := min (2 ^ 40 - 1) (base + c.elapsed) })

/-- NONCE (R690): from the TRNG where MEDIA_CRYPT is 1, else power-cycle count and restored operating time. -/
def State.setNonce (s : State) (base : Nat) : State :=
  if bit s.cap0 9 then (s.setCrn { s.crn with nonce := s.freeNat }).drew
  else s.setCrn { s.crn with nonce := s.crn.pcyc % 2 ^ 24 * 2 ^ 40 + base % 2 ^ 40 }

/-- CAIRN_BOOT_SCAN_END (R685): the scan of both regions ends; `badPrimary` and `badSpare` tell a read error that the retry
did not cure (R686), and the log goes on in the spare region or stays in SRAM. An interrupted clear goes on from step 5
(R694); a Lookout fault before the scan has its flush now. -/
def execCairnBootScanEnd (badPrimary badSpare : Bool) (s : State) : Host.Outcome State Fault Refusal :=
  .next <|
    if s.crn.scanned ∨ s.boot.density = 0 ∨ !s.powered then s
    else
      let prim := if badPrimary then [] else s.takeSlots false 16384 0
      let sp0 := if badSpare then [] else s.slotBytes true 0
      let goes : Bool := slotCrcOk sp0 && slotId sp0 == 0x7F3
      let sp := if goes then s.takeSlots true 16384 0 else []
      let taken := prim ++ sp
      let torn : Bool := match taken.getLast? with
        | some (_, b) => !slotCrcOk b
        | none => false
      let kept : List (Nat × List Byte × Bool) := checkSlots (zeros 60) (zeros 60) true (if torn then taken.dropLast else taken)
      let top := kept.foldl (fun m x => if slotCrcOk x.2.1 then max m (slotSeq x.2.1) else m) 0
      let brk := breakSeqOf none kept
      let clear : Bool := !goes && slotCrcOk sp0 && slotId sp0 == 0x7F1 && decide (top < slotSeq sp0)
      let c : Cairn := { s.crn with badSpare := badSpare }
      let s1 : State := match newestOf kept with
        | some b =>
          let base := field b 8 5
          let pcyc := min (2 ^ 24 - 1) (field b 0x0D 3 + 1)
          let c1 : Cairn := { c with
            usedPrimary := prim.length, usedSpare := sp.length, spare := goes
            skipped := if torn then ((taken.getLast?).map fun (x : Nat × List Byte) => x.1).toList else []
            full := kept.any fun (x : Nat × List Byte × Bool) => x.2.2 && slotId x.2.1 == 0x7F2
            commit := top, firstSeq := ((kept.head?).map fun (x : Nat × List Byte × Bool) => slotSeq x.2.1).getD 0
            lastBody := ((kept.getLast?).map fun (x : Nat × List Byte × Bool) => x.2.1.take 0x3C).getD (zeros 60) }
          (((s.setCrn c1).scanRecords 0x7F6 base pcyc
            (if clear then slotSeq sp0 + 1 else top + 1)).setNonce base).raise 0x7F6 pcyc
        | none =>
          let s2 := if prim.isEmpty ∨ clear then s else s.eraseRegion false
          let base := if clear then field sp0 8 5 else 0
          let pcyc := if clear then min (2 ^ 24 - 1) (field sp0 0x0D 3 + 1) else 1
          let c1 : Cairn := { c with
            usedPrimary := if clear then prim.length else 0, usedSpare := 0, spare := false
            skipped := [], full := false, commit := 0, firstSeq := 0, lastBody := zeros 60 }
          if clear then (((s2.setCrn c1).scanRecords 0x7F6 base pcyc (slotSeq sp0 + 1)).setNonce base).raise 0x7F6 pcyc
          else (((s2.setCrn c1).scanRecords 0x7F0 0 1 1).setNonce 0).raise 0x7F0 1
      let s3 := if clear then
          s1.setCrn { s1.crn with clearing := true, clearOwner := none, clearSeq := slotSeq sp0, clearBytes := sp0 }
        else s1
      let s4 := match brk with
        | some q => (s3.setCrn { s3.crn with chainBreak := true, breakSeq := q }).raise 0x7F5 q
        | none => s3
      let s5 := if badPrimary ∧ !goes ∧ !clear then s4.regionFail 0 else s4
      let s6 : State := s5.fullNow
      if s6.devState ≠ 0 then s6.startFlush else s6

/-! ## Clearing (R689 to R694) -/

/-- Whether a clear token passes its checks (R692). -/
def State.tokenOk (s : State) (t : List Byte) : Bool :=
  let slot := u8 t 6
  let key := (t.drop 0x40).take 64
  let k : KeySlot := match slot with
    | 1 => s.fuses.keys[1]
    | 2 => s.fuses.keys[2]
    | _ => .blank false
  t.length == 29920 && u32 t 0 == 0x54435850 && u16 t 4 == 1 && (slot == 1 || slot == 2) && zeroAt t 7 1 && zeroAt t 0x1C 4 &&
    zeroAt t 0x30 16 && (t.drop 8).take 20 == (s.section secIdentity).take 20 && u64 t 0x20 == s.crn.nextSeq - 1 &&
    u64 t 0x28 == s.crn.nonce && k.programmed && !k.revoked && !k.eccFail && (Config.shake256 key 32).take 32 == k.hash.toList &&
    Config.slhDsaVerify key (Config.shake256 (t.take 0x80) 64) ((t.drop 0x80).take 29792)

/-- An accepted token starts the clear (R694 steps 1 and 2): the CLEAR record's SEQ is set aside, and staging is flushed. -/
def State.clearStart (s : State) (owner : Nat) (t : List Byte) : State :=
  let c := s.crn
  let s1 := s.setCrn { c with clearing := true, clearOwner := some owner, clearSeq := c.nextSeq, clearKeySlot := u8 t 6,
                              clearBytes := [], nextSeq := c.nextSeq + 1 }
  let s2 := s1.startFlush
  if s2.crn.flushing then s2 else s2.clearBuild

/-- CAIRN_CLEAR_ERASE_END (R694 steps 5 and 6): the erases end; with the primary region failed, the log starts in the spare
region, and CRN_MEDIA_FAIL follows. -/
def execCairnClearEraseEnd (primaryOk : Bool) (s : State) : Host.Outcome State Fault Refusal :=
  .next <|
    let c := s.crn
    if !c.clearing ∨ c.clearBytes.isEmpty then s
    else
      let seq := slotSeq c.clearBytes
      let base : Cairn := { c with
        commit := seq, firstSeq := seq, breakSeq := 0, full := false, chainBreak := false, bothFail := false, clearing := false
        clearOwner := none, clearBytes := [], lastBody := c.clearBytes.take 0x3C, skipped := [], retried := false, badSpare := false }
      let s1 := if primaryOk then
          (((s.eraseRegion false).eraseRegion true).programSlot false 0 c.clearBytes).setCrn
            { base with spare := false, usedPrimary := 1, usedSpare := 0 }
        else
          let r : Record := { s.stamp 0x7F3 0 (zeros 14) with seq := seq + 1, tsSet := false }
          let t := ((s.eraseRegion true).programSlot true 0 c.clearBytes).setCrn
            { base with spare := true, usedPrimary := 0, usedSpare := 1, nextSeq := c.nextSeq + 1
                        staged := r :: c.staged.map fun (x : Record) => { x with seq := x.seq + 1 } }
          t.raise 0x7F3 0
      let s2 := (s1.raise 0x7F1 (field c.clearBytes 0x18 6)).critCheck
      match c.clearOwner with
      | some q => s2.finish q 0 0
      | none => s2

/-- OPTIME_SAVE (R677): every hour of operating time KS writes the time values to the system areas. -/
def execOptimeSave (s : State) : Host.Outcome State Fault Refusal := .next s.saveTimes

/-! ## Reading the log (R695) -/

/-- The bytes of the log's records, oldest first, as they stand in flash. -/
def State.logRecords (s : State) : List Byte :=
  let c := s.crn
  ((List.range c.usedPrimary).flatMap fun i => if c.skipped.contains i then [] else s.slotBytes false i) ++
    ((List.range c.usedSpare).flatMap fun i => if c.skipped.contains (16384 + i) then [] else s.slotBytes true i)

/-- The staged records as they would be programmed. -/
def stagedBytes : List Byte → List Record → List Byte
  | _, [] => []
  | prev, r :: t => sealed (r.body prev) ++ stagedBytes (r.body prev) t

/-- The header of log page 0xC4. -/
def State.logHeader (s : State) : List Byte :=
  let c := s.crn
  leBytes 2 1 ++ leBytes 1 (flag c.spare + flag c.holdsFull * 2 + flag c.bothFail * 4 + flag c.chainBreak * 8 + flag c.clearing * 16) ++
    zeros 1 ++ leBytes 4 c.count ++ leBytes 8 c.commit ++ leBytes 8 c.firstSeq ++
    (List.range 15).flatMap (fun k => leBytes 2 (s.get (Reg.CRN_MISSED_COUNT k))) ++ leBytes 2 c.staged.length ++
    leBytes 8 c.breakSeq

/-- `n` bytes of log page 0xC4 from an offset; slots not yet written read 0xFF. -/
def State.cairnLog (s : State) (o n : Nat) : List Byte :=
  let l := s.logHeader ++ s.logRecords ++ (if s.crn.bothFail then stagedBytes s.crn.lastBody s.crn.staged else [])
  let part := (l.drop o).take n
  part ++ List.replicate (min n (1048640 - o) - part.length) 0xFF

end Sys2Proof.Machine
end

