-- ==== Sys2Proof/Machine/Views.lean ====
section
/-! DEFINITION. The registers whose content is not stored as such: what each shows of the rest of the state when it is
read (chapter 22 and the field maps it points to). -/

namespace Sys2Proof.Machine

/-- GLB.STRAPS (R62). -/
def State.showStraps (s : State) : Nat :=
  flag s.boot.straps.modeSel + flag s.boot.straps.sbSel * 2 + flag s.boot.straps.xspiSel * 4

/-- IMG.FUSE_KEYS (R114). -/
def State.showFuseKeys (s : State) : Nat :=
  let one := fun (k : KeySlot) (first : Bool) => flag k.programmed + flag (k.revoked && !first) * 2 + flag k.eccFail * 4
  one s.fuses.keys[0] true + one s.fuses.keys[1] false * 2 ^ 3 + one s.fuses.keys[2] false * 2 ^ 6 +
    flag s.fuses.signedOnly * 2 ^ 9

/-- The sequence number of the running image (R111). -/
def State.imageSeq (s : State) : Nat := (s.boot.image.map (·.seq)).getD 0

/-- SEQ.PC_s (R172): state, handler, dispatcher, address. -/
def Seq.showPc (x : Seq) : Nat :=
  let st := match x.run with
    | .off => 0
    | .running => 0
    | .stalled => 1
    | .restarting => 2
    | .hung => 3
  x.ctx.pc % 2 ^ 16 + flag x.ctx.inDisp * 2 ^ 28 + flag (decide (x.ctx.rank ≠ 0)) * 2 ^ 29 + st * 2 ^ 30

/-- EVT.Q_STATUS_q (R211), with its stored bits `w`. -/
def State.showQueue (s : State) (q : QIx) (w : Nat) : Nat :=
  let x := s.queue q
  let level := s.get (Reg.EVT_Q_CTRL_LEVEL q)
  x.depth % 256 + x.drain.length % 256 * 2 ^ 8 + x.pkts % 256 * 2 ^ 16 + flag x.drainBank * 2 ^ 27 +
    flag (decide (level ≠ 0 ∧ level ≤ x.depth)) * 2 ^ 28 + bits w 30 29 * 2 ^ 29 + flag (x.depth == 128) * 2 ^ 31

/-- STATE of a block-mover channel (R511). -/
def State.chanState (s : State) (c : ChanIx) : Nat :=
  if s.get (Reg.BMV_CH_STATUS_HALTED c) = 1 then 5
  else
    match (s.chan c).run with
    | .running _ => 3
    | .fetch => if s.get (Reg.BMV_CH_CTRL_EN c) = 1 then 2 else 0
    | .idle => s.get (Reg.BMV_CH_CTRL_EN c)

/-- BMV.GSTATUS (R515). -/
def State.showMover (s : State) : Nat :=
  (List.finRange 16).foldl (fun r c =>
    let st := s.chanState c
    r + flag (st == 5) * 2 ^ c.val + flag (st == 2 || st == 3) * 2 ^ (16 + c.val)) 0

/-- CACHE.SCHED_n (R598), with its stored PENDING `w`. -/
def State.showSched (s : State) (n : Nat) (w : Nat) : Nat :=
  let l := s.scheds.toList.getD n []
  let old := l.foldl (fun m o => max m (s.crn.elapsed - o.since)) 0
  bits w 12 0 + min 0xFFFF old * 2 ^ 16

/-- CACHE.ADMIN (R599). -/
def State.showAdmin (s : State) : Nat :=
  let (pass, prog) := match s.cache.admin with
    | some o => (o.pass, s.sprog o)
    | none => (((s.cache.saved.progress.map (·.pass)).getD 0), if s.cache.lastOp = 0 then 0 else 0xFFFF)
  prog + (if s.cache.lastOp = 0 then 0 else pass % 16) * 2 ^ 20 + s.cache.lastOp % 256 * 2 ^ 24

/-- HIF.PORT_p (R553). -/
def State.showPort (s : State) (p : Port) : Nat :=
  let x := s.port p
  let k := s.ctl p
  (k.sqs.filter (·.id != 0)).length % 2 ^ 11 + x.width % 16 * 2 ^ 16 + x.speed % 16 * 2 ^ 20 +
    flag (s.cfs p && s.portServes p) * 2 ^ 29 + flag k.rdy * 2 ^ 30 + flag x.linkUp * 2 ^ 31

/-- WHL.POLICY.DWELL_S (R439). -/
def State.dwellS (s : State) : Nat :=
  match s.whl.lastDecrease with
  | some t => min 0xFFFF ((s.crn.elapsed - t) / 1000)
  | none => 0

/-- CRN.STATUS (R698). -/
def State.showCairn (s : State) : Nat :=
  let c := s.crn
  c.staged.length % 256 + c.count % 2 ^ 15 * 2 ^ 8 + flag c.scanned * 2 ^ 25 + flag c.clearing * 2 ^ 26 +
    flag c.flushing * 2 ^ 27 + flag c.chainBreak * 2 ^ 28 + flag c.spare * 2 ^ 29 + flag c.holdsFull * 2 ^ 30 + flag c.bothFail * 2 ^ 31

/-- SBD.STATUS (R715), with its stored bits `w`. -/
def State.showSideband (s : State) (w : Nat) : Nat :=
  (if s.sbd.chain = 3 then 0x3FF else s.sbd.position % 1024) + bits w 23 23 * 2 ^ 23 + s.sbd.chain % 4 * 2 ^ 24 +
    flag s.boot.straps.sbSel * 2 ^ 26 + bits w 28 27 * 2 ^ 27 + s.get Reg.SBD_GATE_OPEN * 2 ^ 29 + flag s.sbd.alertPend * 2 ^ 30 +
    flag s.crn.bothFail * 2 ^ 31

/-- Two halves of a wide value at consecutive addresses (R12): the whole value, by the LO register's name. -/
def State.wide (s : State) (name : RegName) : Option Nat :=
  match name with
  | .IMG_SEQ_LO => some s.imageSeq
  | .HIF_FETCH_SEQ_LO => some s.hif.nextSeq
  | .CRN_LAST_SEQ_LO => some (s.crn.nextSeq - 1)
  | .CRN_COMMIT_LO => some s.crn.commit
  | .CRN_BREAK_LO => some s.crn.breakSeq
  | .CRN_OPTIME_LO => some s.crn.opTime
  | .CRN_NONCE_LO => some s.crn.nonce
  | _ => none

/-- Four bytes of a list, little-endian. -/
def wordAt (l : List Byte) (k : Nat) : Nat := u32 l (4 * k)

/-- The content of a register of a present unit, without what reading it does. Values above the half a HI register shows
are captured by a read of its LO register; `wide` gives them. -/
def State.show (s : State) (r : Located) (off : Nat) : Nat :=
  let w := (s.reg off).toNat
  let n : Lane := ⟨r.lane % 4, Nat.mod_lt _ (by decide)⟩
  match r.row.name with
  | .GLB_ID => 0x1F5D + variantDevice s.fuses.variant * 2 ^ 16
  | .GLB_REV => 0x1101
  | .GLB_SIGNATURE => 0x34385850
  | .GLB_CAP0 => s.cap0
  | .GLB_CAP1 => s.cap1
  | .GLB_STRAPS => s.showStraps
  | .IMG_FUSE_KEYS => s.showFuseKeys
  | .SEQ_PC => (s.seqs.toList.getD r.ix Seq.reset).showPc
  | .SEQ_SAFEPT => (s.seqs.toList.getD r.ix Seq.reset).chk.pc
  | .SEQ_MEND => bits (Sparse.get (fun _ => 0) s.mend (r.ix / 4)).toNat (32 * (r.ix % 4) + 31) (32 * (r.ix % 4))
  | .CHN_STATUS => setBits w 31 31 (flag (s.readActive n))
  | .EVT_Q_STATUS => s.showQueue ⟨r.ix % 8, Nat.mod_lt _ (by decide)⟩ w
  | .BMV_CH_STATUS => w % 2 ^ 29 + s.chanState ⟨r.ix % 16, Nat.mod_lt _ (by decide)⟩ * 2 ^ 29
  | .BMV_GSTATUS => s.showMover
  | .BMV_SRAM => leVal (Memory.read bufDefault s.mover.sram (4 * r.ix) 4)
  | .CACHE_SCHED => s.showSched r.ix w
  | .CACHE_ADMIN => s.showAdmin
  | .HIF_PORT => s.showPort ⟨r.ix % 2, Nat.mod_lt _ (by decide)⟩
  | .HIF_SLOTS => setBits w 16 0 s.slotsInUse
  | .WHL_POLICY => setBits w 15 0 s.dwellS
  | .CRN_STATUS => s.showCairn
  | .PWR_GATE_STATUS => s.showGates
  | .CRN_PCYC => s.crn.pcyc
  | .SBD_STATUS => s.showSideband w
  | .SVE_SHADOW => wordAt (s.lane n).sve.shadow r.ix
  | .SVE_ACTIVE => wordAt (s.lane n).sve.active r.ix
  | .SVE_CAPTURE => (Sparse.get (fun _ => 0) (s.lane n).sve.capture r.ix).toNat
  | name => ((s.wide name).getD w) % 2 ^ 32

end Sys2Proof.Machine
end

