-- ==== Sys2Proof/Machine/Reports.lean ====
section
/-! DEFINITION. What the PX84 reports of itself: the Identify structures (R539, R540, R578) and the log pages (R545 to R548,
R593, R695). -/

namespace Sys2Proof.Machine

/-- `l` with bytes put in at an offset. -/
def patch (l : List Byte) (o : Nat) (b : List Byte) : List Byte := l.take o ++ b ++ l.drop (o + b.length)

/-- `n` zero bytes with fields put in. -/
def layout (n : Nat) (l : List (Nat × List Byte)) : List Byte := l.foldl (fun b x => patch b x.1 x.2) (zeros n)

/-- ASCII bytes. -/
def ascii (t : String) : List Byte := t.toList.map fun c => BitVec.ofNat 8 c.toNat

/-- `n` bytes whose content the manual leaves open (log entry 1). -/
def State.freeBytes (s : State) (n : Nat) : List Byte × State :=
  (((List.range (ceilDiv n 8)).flatMap fun i => leBytes 8 (Config.freeValue (s.free + i)).toNat).take n,
    { s with free := s.free + ceilDiv n 8 })

/-- Parts of IDENTITY (R85). -/
def State.identity (s : State) (o n : Nat) : List Byte := padTo n (((s.section secIdentity).drop o).take n)
/-- SN. -/
def State.serial (s : State) : List Byte := s.identity 0 20
/-- MN. -/
def State.model (s : State) : List Byte := s.identity 0x14 40
/-- FR. -/
def State.firmware (s : State) : List Byte := s.identity 0x3C 8
/-- EUI64. -/
def State.eui (s : State) : List Byte := s.identity 0x44 8

/-- Media capacity in bytes: the logical spaces of the used lanes. -/
def State.mediaBytes (s : State) : Nat :=
  ((List.range 4).filter s.used).foldl (fun k n => k + s.laneBlocks n * 4096) 0

/-- A text without its trailing spaces. -/
def trimmed (l : List Byte) : List Byte := (l.reverse.dropWhile (· == 0x20)).reverse

/-- Identify Controller (R539). -/
def State.identifyController (s : State) (p : Port) : List Byte :=
  layout 4096
    ([(0, leBytes 2 0x1F5D), (2, leBytes 2 0x1F5D), (4, s.serial), (24, s.model), (64, s.firmware), (72, leBytes 1 6),
      (73, (s.eui.take 3).reverse), (76, leBytes 1 3), (77, leBytes 1 8), (78, leBytes 2 (p.val + 1)),
      (80, leBytes 4 0x20000), (96, leBytes 4 1), (111, leBytes 1 1), (256, leBytes 2 0x52), (258, leBytes 1 7),
      (259, leBytes 1 3), (260, leBytes 1 3), (261, leBytes 1 6), (262, leBytes 1 63), (263, leBytes 1 0)] ++
     [(266, leBytes 2 (s.coneKelvin 1)), (268, leBytes 2 (s.coneKelvin 3)), (280, leBytes 16 s.mediaBytes),
      (328, leBytes 4 5), (512, leBytes 1 0x66), (513, leBytes 1 0x44), (516, leBytes 4 (bits s.cap1 12 8)),
      (520, leBytes 2 0xFA), (524, leBytes 1 4), (525, leBytes 1 7), (536, leBytes 4 0x10002),
      (768, ascii "nqn.2024-01.com.sandosia:px84:" ++ trimmed s.serial), (2048, leBytes 2 650),
      (3072, leBytes 4 s.cap0 ++ leBytes 4 s.cap1)])

/-- A namespace's own NGUID or EUI64 (R578): the last bytes, big-endian, increased by the NSID. -/
def idPlus (base : List Byte) (keep nsid : Nat) : List Byte :=
  base.take keep ++ beBytes 4 (leVal (base.drop keep).reverse + nsid)

/-- Identify Namespace (R540, R578, R579): NMIC 1, RESCAP 0x7F, NVMSETID 1 and FLBAS, DPS follow from the rules. -/
def State.identifyNamespace (s : State) (k : Nat) : List Byte :=
  let x := s.ns k
  let size := ((s.nsMap k).map (·.blocks)).getD 0
  layout 4096
    [(0, leBytes 8 size ++ leBytes 8 size ++ leBytes 8 size), (25, leBytes 1 1), (26, leBytes 1 (x.lbaf + flag x.mset * 16)),
     (27, leBytes 1 3), (28, leBytes 1 0x1F), (29, leBytes 1 x.pi), (30, leBytes 1 1), (31, leBytes 1 0x7F), (100, leBytes 2 1),
     (104, idPlus (s.identity 0x4C 16) 12 k), (120, idPlus s.eui 4 k), (128, leBytes 4 0x000C0000), (132, leBytes 4 0x000C0008)]

/-- Identify Namespace for NSID 0xFFFFFFFF: the capabilities common to all namespaces. -/
def commonNamespace : List Byte :=
  layout 4096
    [(25, leBytes 1 1), (27, leBytes 1 3), (28, leBytes 1 0x1F), (30, leBytes 1 1), (31, leBytes 1 0x7F),
     (128, leBytes 4 0x000C0000), (132, leBytes 4 0x000C0008)]

/-! ## Log pages -/

/-- Error Information of a controller (R545), newest first. -/
def State.errorLog (s : State) (p : Port) : List Byte :=
  padTo 4096 ((s.ctl p).errors.flatMap fun e =>
    leBytes 8 e.count ++ leBytes 2 e.sqid ++ leBytes 2 e.cid ++ leBytes 2 (statusField e.status * 2) ++ leBytes 2 0xFFFF ++
      leBytes 8 e.lba ++ leBytes 4 e.nsid ++ zeros 36)

/-- The reading of a Kiln channel in kelvin, 0 for a channel that is off (R640). -/
def State.sensorKelvin (s : State) (c : Nat) : Nat :=
  if s.sec8 secThermal (0x20 + 32 * c) = 0 then 0 else kelvin (signed 16 (s.get (Reg.KLN_TEMP_READING c)))

/-- SMART / Health (R545, R640): fields the manual gives no content for are free values (log entry 1). -/
def State.smartLog (s : State) (p : Port) : List Byte × State :=
  let h := s.hif
  let (f, t) := s.freeBytes 81
  (leBytes 1 (s.criticalWarning p) ++ leBytes 2 (kelvin s.compositeTemp) ++ leBytes 1 s.availableSpare ++ leBytes 1 10 ++
    f.take 1 ++ zeros 26 ++ leBytes 16 (ceilDiv h.readBlocks 1000) ++ leBytes 16 (ceilDiv h.writtenBlocks 1000) ++
    leBytes 16 h.readCmds ++ leBytes 16 h.writeCmds ++ (f.drop 1).take 16 ++ leBytes 16 s.crn.pcyc ++
    leBytes 16 (s.crn.opTime / 3600000) ++ (f.drop 17).take 16 ++ leBytes 16 h.mediaErrors ++
    leBytes 16 (s.ctl p).errorCount ++ (f.drop 33).take 8 ++
    (List.range 8).flatMap (fun c => leBytes 2 (s.sensorKelvin c)) ++ zeros 296, t)

/-- Commands Supported and Effects (R541, R542): CSUPP, with LBCC for the commands that change block content. -/
def effectsLog : List Byte :=
  let admin := fun o => if o = 0x80 ∨ o = 0x84 then 3 else if [0x10, 0x11].contains o then 0 else flag (adminOpcodes.contains o)
  let io := fun o => if o = opWrite ∨ o = opWriteUnc ∨ o = opWriteZeroes then 3 else flag (ioOpcodes.contains o)
  (List.range 256).flatMap (fun o => leBytes 4 (admin o)) ++ (List.range 256).flatMap (fun o => leBytes 4 (io o)) ++ zeros 2048

/-- Device Self-test (R593): how far a running test is, in percent, is a free value. -/
def State.selfTestLog (s : State) : List Byte × State :=
  let unused : List Byte := leBytes 1 0x0F ++ zeros 27
  let res := s.cache.results.flatMap (·.take 28) ++ (List.replicate (20 - s.cache.results.length) unused).flatten
  match s.cache.selfTest with
  | some t => (leBytes 1 t.code ++ leBytes 1 (s.freeNat % 101) ++ zeros 2 ++ res, s.drew)
  | none => (zeros 4 ++ res, s)

/-- Reservation Notification (R579): the newest notification of the controller. -/
def State.resvLog (s : State) (p : Port) : List Byte :=
  let k := s.ctl p
  match k.resvLog with
  | (n, ty, ns) :: t => leBytes 8 n ++ leBytes 1 ty ++ leBytes 1 (min 255 t.length) ++ zeros 2 ++ leBytes 4 ns ++ zeros 48
  | [] => zeros 64

/-- Seconds an overwrite pass takes at BAND_MAX_RPM (R586): a revolution for each track of the lane with most tracks. -/
def State.overwriteSeconds (s : State) : Nat :=
  let tracks := fun n => (s.laneZones n).foldl (fun k z => k + z.tracks) 0
  let most := ((List.range 4).filter s.used).foldl (fun m n => max m (tracks n)) 0
  ceilDiv (most * 60) (max 1 (s.sec16 secSpinPolicy 2))

/-- Sanitize Status (R586). -/
def State.sanitizeLog (s : State) : List Byte × State :=
  let prog := match s.cache.admin with
    | some o => if o.op = opFormat then 0xFFFF else s.sprog o
    | none => 0xFFFF
  let (f, t) := s.freeBytes 4
  (padTo 512 (leBytes 2 prog ++ leBytes 2 s.cache.sanitizeStatus ++ leBytes 4 s.cache.sanitizeCdw10 ++
    leBytes 4 s.overwriteSeconds ++ leBytes 4 0xFFFFFFFF ++ f ++ leBytes 4 s.overwriteSeconds ++ leBytes 4 0xFFFFFFFF ++ f), t)

/-- A word of the window as it stands. -/
def State.word (s : State) (off : Nat) : Nat :=
  match locate off with
  | some r => s.show r off
  | none => 0

/-- Vendor identity (R546). -/
def State.vendorIdentity (s : State) : List Byte :=
  let img := s.boot.image
  padTo 512 (leBytes 8 s.imageSeq ++ leBytes 4 ((img.map (·.buildId)).getD 0) ++ leBytes 4 (s.word 0x30000) ++
    padTo 48 ((img.map (·.label)).getD []) ++ leBytes 4 (s.word 0x30010) ++ leBytes 4 (s.word 0x30014) ++
    leBytes 4 (s.word 0x3001C) ++ leBytes 4 s.showFuseKeys ++ leBytes 4 s.cap0 ++ leBytes 4 s.cap1 ++
    leBytes 4 s.showStraps ++ leBytes 1 0x11)

/-- The 64-bit total of a counter register since power-on: what reads have taken out of it and what it holds. -/
def State.total (s : State) (off : Nat) : Nat := Sparse.get (fun _ => 0) s.hif.totals off + (s.reg off).toNat

/-- One lane's entry of the lane health log (R547). -/
def State.laneHealth (s : State) (n : Nat) : List Byte :=
  let b := 0x100000 + 0x40000 * n
  let t := fun o => leBytes 8 (s.total (b + o) % 2 ^ 64)
  let l := (s.laneAt n).rcv
  padTo 512 (leBytes 1 n ++ leBytes 1 (s.get (laneBootField n)) ++ zeros 2 ++ leBytes 4 (s.get (Reg.CHN_RCV_PENDING_ENTRIES n)) ++
    (List.range 6).flatMap (fun i => t (0x60 + 4 * i)) ++
    (List.range 4).flatMap (fun i => t (0x10010 + 4 * i)) ++ (List.range 16).flatMap (fun i => t (0x80 + 4 * i)) ++
    (List.range 16).flatMap (fun i => t (0x140 + 4 * i)) ++ t 0x180 ++ t 0x184 ++
    leBytes 8 l.sparesUsed ++ leBytes 4 l.grown.length)

/-- Vendor lane health (R547). -/
def State.laneHealthLog (s : State) : List Byte :=
  leBytes 2 1 ++ leBytes 1 s.usedMask ++ zeros 13 ++ ((List.range 4).filter s.used).flatMap s.laneHealth

/-- Vendor pending list of a lane (R548). -/
def State.pendingLog (s : State) (n : Nat) : List Byte :=
  let l := (s.laneAt n).rcv.pending
  leBytes 4 l.length ++ zeros 12 ++ l.flatMap (leBytes 8)

/-- Vendor buffer health (R548). -/
def State.bufferHealthLog (s : State) : List Byte :=
  let w := fun o => leBytes 4 (s.word o)
  padTo 0x100 (w 0x40000 ++ w 0x40004 ++ w 0x400C0 ++ zeros 4 ++
    (List.range 4).flatMap (fun g => (List.range 5).flatMap fun c => w (0x40040 + 0x20 * g + 4 * c)) ++
    (List.range 7).flatMap (fun i => leBytes 8 (s.total (0x40100 + 4 * i) % 2 ^ 64)) ++
    leBytes 4 (s.get Reg.BUF_POISON_ENTRIES) ++ leBytes 4 (s.get Reg.BUF_RETIRE_STATUS_ENTRIES) ++ w 0x40150) ++
  (List.range 4096).flatMap fun i => leBytes 4 (s.reg (0x41000 + 4 * i)).toNat

/-- A log page: its whole content, or a status (R545). -/
def State.logPage (s : State) (p : Port) (lid lsp nsid : Nat) : (Nat × List Byte) × State :=
  match lid with
  | 0x01 => ((0, s.errorLog p), s)
  | 0x02 =>
    if nsid ≠ 0 ∧ nsid ≠ 0xFFFFFFFF then ((0x002, []), s)
    else ((0, (s.smartLog p).1), (s.smartLog p).2)
  | 0x03 => ((0, padTo 512 (leBytes 1 1 ++ zeros 7 ++ s.firmware)), s)
  | 0x05 => ((0, effectsLog), s)
  | 0x06 => ((0, s.selfTestLog.1), s.selfTestLog.2)
  | 0x80 => ((0, s.resvLog p), s)
  | 0x81 => ((0, s.sanitizeLog.1), s.sanitizeLog.2)
  | 0xC0 => ((0, s.vendorIdentity), s)
  | 0xC1 => ((0, s.laneHealthLog), s)
  | 0xC2 => if s.used lsp then ((0, s.pendingLog lsp), s) else ((0x002, []), s)
  | 0xC3 => ((0, s.bufferHealthLog), s)
  | 0xC4 => ((0, []), s)
  | _ => ((0x109, []), s)

end Sys2Proof.Machine
end

