-- ==== Sys2Proof/Machine/NvmeAdmin.lean ====
section
/-! DEFINITION. The admin commands of the two NVMe controllers (R541 to R551, R583 to R592, R692). Each row serves one fetched
command, named by its fetch sequence number. -/

namespace Sys2Proof.Machine

/-! ## Serving a command -/

/-- An admin command that waits to be served. -/
def State.dueAdmin (s : State) (seq op : Nat) : Option Command :=
  (s.cmd seq).filter fun c => (c.sq == 0 || c.sq == sqTunnel) && c.opcode == op && !c.started && !c.ended

/-- A command is being served. -/
def State.begun (s : State) (seq : Nat) : State := s.mapCmd seq fun c => { c with started := true }

/-- The status of a failed transfer (R550). -/
def xferStatus : Xfer → Nat
  | .ok => 0
  | .hostError => 0x004
  | .badPrp => 0x002
  | .badSgl => 0x01E
  | .crcError => 0x004

/-- The status of a command's data pointer (R537). -/
def Command.ptrStatus (c : Command) : Nat :=
  if c.psdt = 3 then 0x002 else if c.ptr % 4 ≠ 0 then (if c.psdt = 0 then 0x002 else 0x01E) else 0

/-- A dword of the command. -/
def Command.dw (c : Command) (i : Nat) : Nat := c.cdw.getD (i - 10) 0

/-- A served command transfers data to the host and completes; a tunnelled one answers it over the sideband. -/
def State.give (s : State) (c : Command) (x : Xfer) (data : List Byte) : State :=
  let bad := if c.sq = sqTunnel then 0 else if c.ptrStatus ≠ 0 then c.ptrStatus else xferStatus x
  if bad ≠ 0 then s.finish c.seq bad 0
  else if c.sq = sqTunnel then (s.emit (.mctp data)).finish c.seq 0 0
  else (s.emit (.hostData c.port c.seq data)).finish c.seq 0 0

/-- A command served by one function of its fields, if it is due. -/
def State.serve (s : State) (seq op : Nat) (f : State → Command → State) : Host.Outcome State Fault Refusal :=
  .next (match s.dueAdmin seq op with
    | some c => f (s.begun seq) c
    | none => s)

/-- Reservation commands (R579). -/
def Command.isReservation (c : Command) : Bool := c.isIo && [0x0D, 0x0E, 0x11, 0x15].contains c.opcode

/-- Whether a command may still be aborted (R532): reads, Verify, Flush and admin commands until they commit, but an Abort
never; a Write before its data moves; Write Zeroes and Write Uncorrectable before their first effect. -/
def Command.abortable (c : Command) : Bool :=
  if c.ended then false
  else if !c.isIo then c.opcode != 0x08
  else if c.opcode = opWrite then !c.started
  else if c.isWrite then !c.resolved
  else c.isRead || c.opcode == opFlush

/-- End an abortable command with a status: it has no further effect (R532). A Format it runs ends as failed. -/
def State.abortCmd (s : State) (c : Command) (status : Nat) : State :=
  let s1 := s.dropOwners [c.seq]
  let s2 := s1.setCtl c.port { s1.ctl c.port with aers := (s1.ctl c.port).aers.filter (· != c.seq) }
  let s3 := match s2.cache.admin with
    | some o => if o.owner = some c.seq then s2.endOp { o with owner := none } true else s2
    | none => s2
  s3.finish c.seq status 0

/-! ## Queues (R523, R534, R535) -/

/-- The page size of CC.MPS. -/
def Controller.page (k : Controller) : Nat := 2 ^ (12 + bits k.cc 10 7)

/-- DELETE_IO_SUBMISSION_QUEUE (R534): every abortable command of the SQ ends, and the command completes after the entries of
all of them have been posted. -/
def execDeleteIoSubmissionQueue (seq : Nat) (s : State) : Host.Outcome State Fault Refusal :=
  s.serve seq 0x00 fun s c =>
    let q := c.dw 10 % 65536
    if q = 0 ∨ !(s.ctl c.port).sqs.any (·.id == q) then s.finish seq 0x101 0
    else
      let mine := s.hif.cmds.filter fun d => d.port == c.port && d.sq == q
      let s1 := s.mapSq c.port q fun x => { x with tail := x.head }
      let s2 := (mine.filter fun d => d.abortable).foldl (fun s d => s.abortCmd d 0x008) s1
      if mine.isEmpty then
        (s2.setCtl c.port { s2.ctl c.port with sqs := (s2.ctl c.port).sqs.filter (·.id != q) }).finish seq 0 0
      else s2.mapCmd seq fun d => { d with waitFor := mine.map (·.seq) }

/-- CREATE_IO_SUBMISSION_QUEUE (R523). -/
def execCreateIoSubmissionQueue (seq : Nat) (s : State) : Host.Outcome State Fault Refusal :=
  s.serve seq 0x01 fun s c =>
    let k := s.ctl c.port
    let q := c.dw 10 % 65536
    let cq := c.dw 11 / 65536
    let size := c.dw 10 / 65536 + 1
    if q = 0 ∨ 1024 < q ∨ k.sqs.any (·.id == q) ∨ cq = 0 ∨ !k.cqs.any (·.id == cq) then s.finish seq 0x101 0
    else if size < 2 then s.finish seq 0x102 0
    else if !bit (c.dw 11) 0 ∨ c.ptr % k.page ≠ 0 then s.finish seq 0x002 0
    else (s.setCtl c.port { k with sqs := k.sqs ++ [⟨q, size, c.ptr, cq, bits (c.dw 11) 2 1, 0, 0⟩] }).finish seq 0 0

/-- DELETE_IO_COMPLETION_QUEUE (R534). -/
def execDeleteIoCompletionQueue (seq : Nat) (s : State) : Host.Outcome State Fault Refusal :=
  s.serve seq 0x04 fun s c =>
    let k := s.ctl c.port
    let q := c.dw 10 % 65536
    if q = 0 ∨ !k.cqs.any (·.id == q) then s.finish seq 0x101 0
    else if k.sqs.any (·.cq == q) then s.finish seq 0x10C 0
    else (s.setCtl c.port { k with cqs := k.cqs.filter (·.id != q) }).finish seq 0 0

/-- CREATE_IO_COMPLETION_QUEUE (R523, R535). -/
def execCreateIoCompletionQueue (seq : Nat) (s : State) : Host.Outcome State Fault Refusal :=
  s.serve seq 0x05 fun s c =>
    let k := s.ctl c.port
    let q := c.dw 10 % 65536
    let size := c.dw 10 / 65536 + 1
    let iv := c.dw 11 / 65536
    if q = 0 ∨ 1024 < q ∨ k.cqs.any (·.id == q) then s.finish seq 0x101 0
    else if size < 2 then s.finish seq 0x102 0
    else if !bit (c.dw 11) 0 ∨ c.ptr % k.page ≠ 0 then s.finish seq 0x002 0
    else if msixVectors ≤ iv then s.finish seq 0x108 0
    else (s.setCtl c.port { k with cqs := k.cqs ++ [⟨q, size, c.ptr, iv, bit (c.dw 11) 1, 0, 0, true⟩] }).finish seq 0 0

/-! ## Identify and logs -/

/-- IDENTIFY (R539, R540, R578): CNS 0 namespace, 1 controller, 2 active namespaces, 3 namespace descriptors. -/
def execIdentify (seq : Nat) (x : Xfer) (s : State) : Host.Outcome State Fault Refusal :=
  s.serve seq 0x06 fun s c =>
    let named : Bool := (s.nsMap c.nsid).isSome
    match c.dw 10 % 256 with
    | 0 => if c.nsid = 0xFFFFFFFF then s.give c x commonNamespace
        else if named then s.give c x (s.identifyNamespace c.nsid) else s.finish seq 0x00B 0
    | 1 => s.give c x (s.identifyController c.port)
    | 2 => if 0xFFFFFFFE ≤ c.nsid then s.finish seq 0x00B 0
        else s.give c x (padTo 4096 (((List.range s.nsMaps.length).filter (c.nsid ≤ ·)).flatMap fun i => leBytes 4 (i + 1)))
    | 3 => if named then
          s.give c x (padTo 4096 (leBytes 1 1 ++ leBytes 1 8 ++ zeros 2 ++ idPlus s.eui 4 c.nsid ++ leBytes 1 2 ++ leBytes 1 16 ++
            zeros 2 ++ idPlus (s.identity 0x4C 16) 12 c.nsid ++ leBytes 1 4 ++ leBytes 1 1 ++ zeros 2 ++ zeros 1))
        else s.finish seq 0x00B 0
    | _ => s.finish seq 0x002 0

/-- Whether a Sanitize runs or has failed and bars commands (R586). -/
def State.sanitizing (s : State) : Bool :=
  s.cache.sanitizeFailed.isSome || ((s.cache.admin.map fun o => o.op != opFormat).getD false)

/-- Logs that a Sanitize bars: those that are not Error Information, SMART / Health, Reservation Notification, Sanitize
Status or the vendor's own. -/
def barredLog (lid : Nat) : Bool := lid == 0x03 || lid == 0x05 || lid == 0x06

/-- The host has read a log: its asynchronous events are reported again (R549). -/
def State.logRead (s : State) (p : Port) (lid : Nat) : State :=
  s.setCtl p { s.ctl p with asyncMasked := (s.ctl p).asyncMasked.filter fun e => asyncLog e.1 e.2 != lid }

/-- GET_LOG_PAGE (R545 to R548, R593, R695): bytes past the end of the log are undefined. -/
def execGetLogPage (seq : Nat) (x : Xfer) (s : State) : Host.Outcome State Fault Refusal :=
  s.serve seq 0x02 fun s c =>
    let lid := c.dw 10 % 256
    let n := (c.dw 10 / 65536 + c.dw 11 % 65536 * 65536 + 1) * 4
    let o := c.dw 12 + c.dw 13 * 2 ^ 32
    let ((bad, l), t) := s.logPage c.port lid (bits (c.dw 10) 14 8) c.nsid
    let size := if lid = 0xC4 then 1048640 else l.length
    if bad ≠ 0 then s.finish seq bad 0
    else if s.sanitizing ∧ barredLog lid then s.finish seq 0x01D 0
    else if 1048576 < n ∨ size < o ∨ o % 4 ≠ 0 then s.finish seq 0x002 0
    else
      let part := if lid = 0xC4 then s.cairnLog o n else (l.drop o).take n
      let (rest, t1) := t.freeBytes (n - part.length)
      let t2 := if bit (c.dw 10) 15 then t1 else t1.logRead c.port lid
      t2.give c x (part ++ rest)

/-! ## Abort (R531 to R533) -/

/-- ABORT (R533): the named command of this controller is ended if it can be; its entry is posted before this one's. More than
8 outstanding fail. -/
def execAbort (seq : Nat) (s : State) : Host.Outcome State Fault Refusal :=
  s.serve seq 0x08 fun s c =>
    let sqid := c.dw 10 % 65536
    let cid := c.dw 10 / 65536
    let others := s.hif.cmds.filter fun d => d.port == c.port && d.sq == 0 && d.opcode == 0x08 && fetchedBefore d.seq seq
    let told := fun (s : State) (done : Bool) => s.raise (0x508 + c.port.val) (cid + sqid % 2048 * 2 ^ 16 + flag done * 2 ^ 27)
    if 8 ≤ others.length then s.finish seq 0x103 0
    else
      match s.hif.cmds.find? fun d => d.port == c.port && d.sq == sqid && d.cid == cid && d.seq != seq && !d.isAta with
      | some d =>
        if d.abortable then
          (told (s.abortCmd d 0x007) true).mapCmd seq fun e => { e with waitFor := [d.seq] }
        else (told s false).finish seq 0 1
      | none => (told s false).finish seq 0 1

/-! ## Features (R543, R544) -/

/-- What Set and Get Features name: supported, saveable, by namespace, changeable. -/
def featureKind (fid : Nat) : Option (Bool × Bool × Bool) :=
  match fid with
  | 0x01 => some (false, false, true)
  | 0x02 => some (false, false, true)
  | 0x04 => some (false, false, true)
  | 0x05 => some (true, true, true)
  | 0x06 => some (true, false, true)
  | 0x07 => some (false, false, true)
  | 0x08 => some (false, false, true)
  | 0x09 => some (false, false, true)
  | 0x0A => some (false, false, true)
  | 0x0B => some (false, false, true)
  | 0x0E => some (false, false, true)
  | 0x12 => some (true, false, true)
  | 0x81 => some (false, false, true)
  | 0x82 => some (false, true, true)
  | 0x83 => some (true, true, true)
  | 0xC0 => some (false, false, true)
  | _ => none

/-- Change what the system areas keep of namespaces. -/
def State.mapSaved (s : State) (l : List Nat) (f : Namespace → Namespace) : State :=
  let v := s.cache.saved
  s.setCache { s.cache with saved := { v with
    namespaces := v.namespaces.zipIdx.map fun ((x : Namespace), i) => if l.contains (i + 1) then f x else x } }

/-- A feature of namespaces is set, and saved with SV. -/
def State.setNsFeature (s : State) (l : List Nat) (save : Bool) (f : Namespace → Namespace) : State :=
  let s1 := l.foldl (fun s k => s.mapNs k f) s
  if save then s1.mapSaved l f else s1

/-- Setting WCE (R544): from 1 to 0 every dirty extent is destaged before the command completes. -/
def State.setWce (s : State) (seq : Nat) (on save : Bool) : State :=
  let old := s.cache.wce
  let v := s.cache.saved
  let s1 := s.setCache { s.cache with wce := on, saved := if save then { v with wce := on } else v }
  let l := s1.dirtyVersions 0xFFFFFFFF
  if !old ∨ on ∨ l.isEmpty then s1.finish seq 0 0
  else if s1.stuckStatus l ≠ 0 then s1.finish seq (s1.stuckStatus l) 0
  else (s1.mapCmd seq fun c => { c with toMedia := l }).destageAll false

/-- The Timestamp feature is set: it is carried into Cairn's records. -/
def State.setTimestamp (s : State) (ms : Nat) : State :=
  s.setCrn { s.crn with hostTs := some (ms % 2 ^ 48, s.crn.elapsed), tsSetPending := true }

/-- SET_FEATURES (R543, R544, R641): `data` is what the features with a data structure transfer. -/
def execSetFeatures (seq : Nat) (x : Xfer) (data : List Byte) (s : State) : Host.Outcome State Fault Refusal :=
  s.serve seq 0x09 fun s c =>
    let fid := c.dw 10 % 256
    let v := c.dw 11
    let sv := bit (c.dw 10) 31
    let k := s.ctl c.port
    let put := fun (k : Controller) => (s.setCtl c.port k).finish seq 0 0
    let bad := if c.sq = sqTunnel then 0 else if c.ptrStatus ≠ 0 then c.ptrStatus else xferStatus x
    match featureKind fid with
    | none => s.finish seq 0x002 0
    | some (saveable, byNs, _) =>
      let l := s.nsNamed c.nsid
      if sv ∧ !saveable then s.finish seq 0x10D 0
      else if byNs ∧ l.isEmpty then s.finish seq 0x00B 0
      else
        match fid with
        | 0x01 => put { k with arbitration := v - bits v 7 3 * 8 }
        | 0x02 => if v % 32 = 0 then s.finish seq 0 0 else s.finish seq 0x002 0
        | 0x04 => if bits v 21 16 ≠ 0 then s.finish seq 0x002 0
            else ((s.setCtl c.port { k with tempThr := some (v % 65536 : Nat) }).critCheck).finish seq 0 0
        | 0x05 => if bit v 16 then s.finish seq 0x002 0
            else (s.setNsFeature l sv fun n => { n with tler := v % 65536 }).finish seq 0 0
        | 0x06 => s.setWce seq (bit v 0) sv
        | 0x07 => s.finish seq 0 0x03FF03FF
        | 0x08 => put { k with coalescing := v % 65536 }
        | 0x09 => if msixVectors ≤ v % 65536 then s.finish seq 0x002 0
            else put { k with noCoalesce := if bit v 16 then insertRising (v % 65536) k.noCoalesce
                                            else k.noCoalesce.filter (· != v % 65536) }
        | 0x0A => put { k with writeNormal := v }
        | 0x0B => put { k with asyncCfg := v }
        | 0x0E => if bad ≠ 0 then s.finish seq bad 0 else (s.setTimestamp (field data 0 6)).finish seq 0 0
        | 0x12 =>
          if v % 65536 ≠ 1 then s.finish seq 0x002 0
          else
            let r := c.dw 12 % 16
            let t := s.cache.saved
            (s.setCache { s.cache with rrl := r, saved := if sv then { t with rrl := r } else t }).finish seq 0 0
        | 0x81 =>
          let h := field data 0 16
          if !bit v 0 then s.finish seq 0x002 0
          else if bad ≠ 0 then s.finish seq bad 0
          else if k.hostId ≠ 0 ∧ k.hostId ≠ h then s.finish seq 0x00C 0
          else put { k with hostId := h }
        | 0x82 => (s.setNsFeature l false fun n => { n with notifyMask := v % 16 }).finish seq 0 0
        | 0x83 => ((s.setNsFeature l sv fun n => { n with ptpl := bit v 0 }).saveConfig).finish seq 0 0
        | _ => if bit v 31 ∧ ¬ s.onGrid (v % 65536) then s.finish seq 0x002 0 else (s.writeOverride v).finish seq 0 0

/-- The Timestamp feature now, in ms. -/
def State.timestamp (s : State) : Option Nat := s.crn.hostTs.map fun (t, at_) => (t + (s.crn.elapsed - at_)) % 2 ^ 48

/-- A feature's value in DW0: `sel` 0 current, 1 default, 2 saved (the default where nothing can be saved). -/
def State.featureValue (s : State) (c : Command) (fid sel : Nat) : Nat :=
  let k := s.ctl c.port
  let n := s.ns c.nsid
  let old := (s.cache.saved.namespaces[c.nsid - 1]?).getD { n with tler := 0, ptpl := false }
  let v := c.dw 11
  let cur := fun (now dflt : Nat) => if sel = 0 then now else dflt
  match fid with
  | 0x01 => cur k.arbitration 3
  | 0x04 => cur (s.tempThreshold c.port) (s.coneKelvin 1)
  | 0x05 => if sel = 0 then n.tler else if sel = 2 then old.tler else 0
  | 0x06 => if sel = 0 then flag s.cache.wce else if sel = 2 then flag s.cache.saved.wce else 1
  | 0x07 => 0x03FF03FF
  | 0x08 => cur k.coalescing 0
  | 0x09 => v % 65536 + flag (if sel = 0 then k.noCoalesce.contains (v % 65536) else v % 65536 == 0) * 65536
  | 0x0A => cur k.writeNormal 0
  | 0x0B => cur k.asyncCfg 0xFF
  | 0x12 => if sel = 0 then s.cache.rrl else if sel = 2 then s.cache.saved.rrl else 0
  | 0x82 => cur n.notifyMask 0
  | 0x83 => if sel = 0 then flag n.ptpl else if sel = 2 then flag old.ptpl else 0
  | 0xC0 => cur (s.reg (Reg.WHL_OVERRIDE_EN).off).toNat 0
  | _ => 0

/-- GET_FEATURES (R543, R641): SEL 0 current, 1 default, 2 saved, 3 capabilities. -/
def execGetFeatures (seq : Nat) (x : Xfer) (s : State) : Host.Outcome State Fault Refusal :=
  s.serve seq 0x0A fun s c =>
    let fid := c.dw 10 % 256
    let sel := bits (c.dw 10) 10 8
    match featureKind fid with
    | none => s.finish seq 0x002 0
    | some (saveable, byNs, change) =>
      if 3 < sel then s.finish seq 0x002 0
      else if byNs ∧ (s.nsMap c.nsid).isNone then s.finish seq 0x00B 0
      else if sel = 3 then s.finish seq 0 (flag saveable + flag byNs * 2 + flag change * 4)
      else if fid = 0x04 ∧ bits (c.dw 11) 21 16 ≠ 0 then s.finish seq 0x002 0
      else if fid = 0x09 ∧ msixVectors ≤ c.dw 11 % 65536 then s.finish seq 0x002 0
      else if fid = 0x12 ∧ c.dw 11 % 65536 ≠ 1 then s.finish seq 0x002 0
      else if fid = 0x81 ∧ ¬ bit (c.dw 11) 0 then s.finish seq 0x002 0
      else if fid = 0x0E then
        match (if sel = 0 then s.timestamp else none) with
        | some t => s.give c x (leBytes 6 t ++ leBytes 1 2 ++ zeros 1)
        | none => if sel = 0 then s.drew.give c x (leBytes 6 s.freeNat ++ zeros 2) else s.give c x (zeros 8)
      else if fid = 0x81 then s.give c x (leBytes 16 (if sel = 0 then (s.ctl c.port).hostId else 0))
      else s.finish seq 0 (s.featureValue c fid sel)

/-! ## Asynchronous events, firmware -/

/-- ASYNCHRONOUS_EVENT_REQUEST (R549): it completes with a waiting event, or is held; a fifth one fails. -/
def execAsynchronousEventRequest (seq : Nat) (s : State) : Host.Outcome State Fault Refusal :=
  s.serve seq 0x0C fun s c =>
    let k := s.ctl c.port
    if 4 ≤ k.aers.length then s.finish seq 0x105 0
    else
      match k.asyncPending with
      | (_, _, dw0) :: t => (s.setCtl c.port { k with asyncPending := t }).finish seq 0 dw0
      | [] => s.setCtl c.port { k with aers := k.aers ++ [seq] }

/-- FIRMWARE_COMMIT (R76): Invalid Command Opcode. -/
def execFirmwareCommit (seq : Nat) (s : State) : Host.Outcome State Fault Refusal :=
  s.serve seq 0x10 fun s _ => s.finish seq 0x001 0

/-- FIRMWARE_IMAGE_DOWNLOAD (R76): Invalid Command Opcode. -/
def execFirmwareImageDownload (seq : Nat) (s : State) : Host.Outcome State Fault Refusal :=
  s.serve seq 0x11 fun s _ => s.finish seq 0x001 0

/-! ## Self-test, Format, Sanitize (R583 to R592) -/

/-- DEVICE_SELF_TEST (R591, R592): STC 1 short, 2 extended, 0xF abort; `checkFail` is the outcome of the checker injection. -/
def execDeviceSelfTest (seq : Nat) (checkFail : Bool) (s : State) : Host.Outcome State Fault Refusal :=
  s.serve seq 0x14 fun s c =>
    let stc := c.dw 10 % 16
    if c.nsid ≠ 0 ∧ (s.nsNamed c.nsid).isEmpty then s.finish seq 0x00B 0
    else if s.sanitizing then s.finish seq 0x01D 0
    else if stc = 0xF then (s.endTest 1 ((s.cache.selfTest.map (·.segment)).getD 0) none).finish seq 0 0
    else if stc ≠ 1 ∧ stc ≠ 2 then s.finish seq 0x002 0
    else if s.cache.selfTest.isSome then s.finish seq 0x11D 0
    else (s.finish seq 0 0).startTest (stc == 2) c.nsid false none checkFail

/-- A running self-test ends for a Format or a Sanitize (R592). -/
def State.stopTest (s : State) : State := s.endTest 1 ((s.cache.selfTest.map (·.segment)).getD 0) none

/-- The status with which a Format is refused at once (R583, R584, R586), 0 where it starts. -/
def State.formatStatus (s : State) (c : Command) : Nat :=
  let l := s.nsNamed c.nsid
  let lbaf := c.dw 10 % 16
  let ses := bits (c.dw 10) 11 9
  if l.isEmpty then 0x00B
  else if s.sanitizing then 0x01D
  else if s.cache.admin.isSome then 0x084
  else if 1 < lbaf ∨ (lbaf = 0 ∧ bits (c.dw 10) 7 5 ≠ 0) ∨ 3 < bits (c.dw 10) 7 5 then 0x10A
  else if 2 < ses ∨ (ses = 2 ∧ l.any fun k => !s.nsEncrypts k) then 0x002
  else 0

/-- FORMAT_NVM (R583, R584, R587): it starts once the I/O fetched before it for the namespaces has ended, and completes when its
last progress record says so; SES 0 and 2 give each encrypted namespace a new key pair at once. -/
def execFormatNvm (seq : Nat) (s : State) : Host.Outcome State Fault Refusal :=
  .next (match s.dueAdmin seq 0x80 with
    | none => s
    | some c =>
      if s.formatStatus c ≠ 0 then s.finish seq (s.formatStatus c) 0
      else if s.busyNs seq (s.nsNamed c.nsid) then s
      else
        let l := s.nsNamed c.nsid
        let s1 := ((s.begun seq).stopTest).clearBlocks l
        let s2 := if bits (c.dw 10) 11 9 = 1 then s1 else s1.rekey l
        s2.beginOp { op := opFormat, nsid := c.nsid, cdw10 := c.dw 10, cdw11 := c.dw 11, pass := 0, done := [0, 0, 0, 0],
                     owner := some seq })

/-- The buffer's pages are zeroed (R585). -/
def State.zeroBuffer (s : State) : State :=
  (s.setBuf { s.buf with mem := [], poisoned := [], overflow := [], faults := [] }).put Reg.BUF_POISON_ENTRIES 0

/-- Every pending list is empty (R585). -/
def State.clearPending (s : State) : State :=
  (List.finRange 4).foldl (fun s n =>
    (s.setRcv n { (s.lane n).rcv with pending := [], marked := [] }).put (Reg.CHN_RCV_PENDING_ENTRIES n) 0) s

/-- SANITIZE (R585, R586): SANACT 1 exits the failure mode, 2 overwrites, 4 erases the keys. The command completes as the
operation starts. -/
def execSanitize (seq : Nat) (s : State) : Host.Outcome State Fault Refusal :=
  .next (match s.dueAdmin seq 0x84 with
    | none => s
    | some c =>
      let act := c.dw 10 % 8
      let all := s.nsNamed 0xFFFFFFFF
      if s.cache.admin.isSome then s.finish seq (if s.sanitizing then 0x01D else 0x084) 0
      else if act = 1 then
        match s.cache.sanitizeFailed with
        | some ause => if ause then
              (s.setCache { s.cache with sanitizeFailed := none }).saveConfig.finish seq 0 0
            else s.finish seq 0x01D 0
        | none => s.finish seq 0 0
      else if act ≠ 2 ∧ act ≠ 4 then s.finish seq 0x002 0
      else if act = 4 ∧ all.any fun k => !s.nsEncrypts k then s.finish seq 0x002 0
      else if s.busyNs seq all then s
      else
        let s1 := ((((s.begun seq).stopTest).clearBlocks all).zeroBuffer).clearPending
        let s2 := ({ s1 with stale := [] }).rekey all
        let s3 := s2.setCache { s2.cache with
          sanitizeStatus := sanitizeStat 2 0 false, sanitizeCdw10 := c.dw 10, sanitizeFailed := none }
        (s3.finish seq 0 0).beginOp { op := if act = 2 then opOverwrite else opCrypto, nsid := 0xFFFFFFFF, cdw10 := c.dw 10,
                                      cdw11 := c.dw 11, pass := 0, done := [0, 0, 0, 0], owner := none })

/-! ## Vendor commands (R551, R692) -/

/-- RETIRE_BUFFER_PAGE (R551, R469): as a write of BUF.RETIRE_REQ with GO; it completes when GO clears. -/
def execRetireBufferPage (seq : Nat) (s : State) : Host.Outcome State Fault Refusal :=
  s.serve seq 0xC0 fun s c =>
    let (s1, refused) := s.writeRetireReq (c.dw 10 % 2 ^ 23 + 2 ^ 31)
    if refused then s1.finish seq 0x7C6 0 else s1

/-- DECLARE_BUFFER_CHIP_DEAD (R551, R455): as a write of BUF.DEAD_REQ with GO. -/
def execDeclareBufferChipDead (seq : Nat) (s : State) : Host.Outcome State Fault Refusal :=
  s.serve seq 0xC4 fun s c =>
    let v := c.dw 10
    let (s1, refused) := s.writeDeadReq (v % 8 + bits v 5 4 * 16 + 2 ^ 31)
    s1.finish seq (if refused then 0x7C6 else 0) 0

/-- CAIRN_CLEAR (R551, R692): the token is delivered; Cairn starts the clear, or rejects it with 0xC5. -/
def execCairnClear (seq : Nat) (x : Xfer) (token : List Byte) (s : State) : Host.Outcome State Fault Refusal :=
  s.serve seq 0xC1 fun s c =>
    let bad := if c.sq = sqTunnel then 0 else if c.ptrStatus ≠ 0 then c.ptrStatus else xferStatus x
    if c.dw 10 ≠ 29920 then s.finish seq 0x002 0
    else if bad ≠ 0 then s.finish seq bad 0
    else if s.crn.clearing ∨ !s.crn.scanned ∨ !s.tokenOk token then s.finish seq 0x7C5 0
    else s.clearStart seq token

end Sys2Proof.Machine
end

