-- ==== Sys2Proof/Machine/NvmeIo.lean ====
section
/-! DEFINITION. The I/O commands of the NVMe controllers (R542, R557 to R565), reservations (R579, R580), and KS's recalibration
(R235, R236). -/

namespace Sys2Proof.Machine

/-! ## Admission -/

/-- Whether two commands concern one namespace (0xFFFFFFFF: all of them). -/
def sameNs (c d : Command) : Bool := c.nsid == d.nsid || c.nsid == 0xFFFFFFFF || d.nsid == 0xFFFFFFFF

/-- Whether an earlier reservation command of its namespace has not ended, or, for a reservation command, an earlier I/O
command has not been checked yet (R580). -/
def State.resvWaits (s : State) (c : Command) : Bool :=
  s.hif.cmds.any fun d => d.isIo && !d.isAta && !d.ended && sameNs c d && fetchedBefore d.seq c.seq &&
    (d.isReservation || (c.isReservation && !d.started))

/-- An I/O command that waits to be served. -/
def State.dueIo (s : State) (seq op : Nat) : Option Command :=
  (s.cmd seq).filter fun c => c.isIo && !c.isAta && c.sq != sqKept && c.opcode == op && !c.started && !c.ended &&
    !s.resvWaits c

/-- Whether a Format runs on a namespace (R584). -/
def State.formatting (s : State) (k : Nat) : Bool :=
  match s.cache.admin with
  | some o => o.op == opFormat && (o.nsid == 0xFFFFFFFF || k == 0xFFFFFFFF || o.nsid == k)
  | none => false

/-- The first refusal that meets any I/O command: namespace, Sanitize, Format, readiness (R41, R101, R584, R586). -/
def State.admissionStatus (s : State) (c : Command) : Nat :=
  let l := s.nsNamed c.nsid
  if l.isEmpty then 0x00B
  else if s.sanitizing then 0x01D
  else if s.formatting c.nsid then 0x084
  else if l.any fun k => !s.nsReady k then 0x082
  else 0

/-- Whether a namespace's reservation lets a host read or write (R579): types 1 and 2 the holder's, 3 and 4 for registrants,
5 and 6 with every registrant a holder; the even types bar reads too. -/
def Namespace.allows (n : Namespace) (host : Nat) (write : Bool) : Bool :=
  let registered : Bool := host != 0 && n.regs.any (·.host == host)
  match n.holder with
  | none => true
  | some h => (!write && n.rtype % 2 == 1) || (if n.rtype ≤ 2 then host == h && registered else registered)

/-- The refusals of a command on blocks: those of `admissionStatus`, then the range and MDTS, then the reservation (R41, R537, R580). -/
def State.admitBlocks (s : State) (c : Command) (write data : Bool) : Nat :=
  let k := s.ns c.nsid
  let each := if k.lbaf = 1 ∧ k.mset ∧ !(k.pi != 0 && c.pract) then 4104 else 4096
  if c.nsid = 0xFFFFFFFF then 0x00B
  else if s.admissionStatus c ≠ 0 then s.admissionStatus c
  else if data ∧ c.ptrStatus ≠ 0 then c.ptrStatus
  else if data ∧ 1048576 < c.nlb * each then 0x002
  else if ((s.nsMap c.nsid).map (·.blocks)).getD 0 < c.slba + c.nlb then 0x080
  else if !k.allows (s.ctl c.port).hostId write then 0x083
  else 0

/-- Serve an I/O command: refuse it, or go on. -/
def State.serveIo (s : State) (seq op : Nat) (check : Command → Nat) (f : State → Command → State) :
    Host.Outcome State Fault Refusal :=
  .next (match s.dueIo seq op with
    | none => s
    | some c => if check c ≠ 0 then s.finish seq (check c) 0 else f (s.begun seq) c)

/-! ## Reads and writes -/

/-- READ (R20 to R26, R559): the command resolves as soon as the overlapping writes before it allow. -/
def execRead (seq : Nat) (x : Xfer) (b : BufAccess) (s : State) : Host.Outcome State Fault Refusal :=
  s.serveIo seq opRead (fun c => s.admitBlocks c false true) fun s _ =>
    match x with
    | .badPrp => s.finish seq 0x002 0
    | .badSgl => s.finish seq 0x01E 0
    | _ => (s.mapCmd seq fun c => { c with xfer := xferStatus x }).resolve seq b

/-- VERIFY (R561). -/
def execVerify (seq : Nat) (b : BufAccess) (s : State) : Host.Outcome State Fault Refusal :=
  s.serveIo seq opVerify (fun c => s.admitBlocks c false false) fun s _ => s.resolve seq b

/-- WRITE (R27, R537, R538, R557): the data is pulled, checked where the format protects it, and the write commits as soon as the
overlap rules allow. -/
def execWrite (seq : Nat) (blocks : List HostBlock) (x : Xfer) (s : State) : Host.Outcome State Fault Refusal :=
  s.serveIo seq opWrite (fun c => s.admitBlocks c true true) fun s c =>
    let k := s.ns c.nsid
    let l := (List.range c.nlb).map fun i =>
      let b := blocks.getD i ⟨[], []⟩
      (⟨padTo 4096 b.data, padTo 8 b.tag⟩ : BlockData)
    let bad := if k.lbaf = 1 ∧ !c.pract then checkAll k.pi c 0 l else 0
    if x ≠ .ok then s.finish seq (xferStatus x) 0
    else if bad ≠ 0 then s.finish seq bad 0
    else (s.mapCmd seq fun c => { c with transferred := true, blocks := l }).tryCommit seq

/-- WRITE_ZEROES (R562). -/
def execWriteZeroes (seq : Nat) (s : State) : Host.Outcome State Fault Refusal :=
  s.serveIo seq opWriteZeroes (fun c => s.admitBlocks c true false) fun s _ =>
    (s.mapCmd seq fun c => { c with transferred := true }).tryCommit seq

/-- WRITE_UNCORRECTABLE (R563). -/
def execWriteUncorrectable (seq : Nat) (s : State) : Host.Outcome State Fault Refusal :=
  s.serveIo seq opWriteUnc (fun c => s.admitBlocks c true false) fun s _ =>
    (s.mapCmd seq fun c => { c with transferred := true }).tryCommit seq

/-- A Flush waits until every dirty block version of its namespaces is on media, or ends with the status that keeps one
from it (R28, R565). -/
def State.flushWait (s : State) (seq nsid : Nat) : State :=
  let l := s.dirtyVersions nsid
  if l.isEmpty then s.finish seq 0 0
  else if s.stuckStatus l ≠ 0 then s.finish seq (s.stuckStatus l) 0
  else (s.mapCmd seq fun c => { c with toMedia := l }).destage (s.cache.extents.filter fun x => nsid == 0xFFFFFFFF || x.ns == nsid)
    false

/-- FLUSH (R28, R565). -/
def execFlush (seq : Nat) (s : State) : Host.Outcome State Fault Refusal :=
  let check := fun (c : Command) =>
    if s.admissionStatus c ≠ 0 then s.admissionStatus c
    else if (s.nsNamed c.nsid).any fun k => !(s.ns k).allows (s.ctl c.port).hostId true then 0x083 else 0
  s.serveIo seq opFlush check fun s c => s.flushWait seq c.nsid

/-! ## Reservations (R579) -/

/-- Whether a host holds the reservation: of types 5 and 6 every registrant does. -/
def Namespace.holds (n : Namespace) (host : Nat) : Bool :=
  match n.holder with
  | none => false
  | some h => if 5 ≤ n.rtype then n.regs.any (·.host == host) else h == host

/-- The reservation is released. -/
def Namespace.released (n : Namespace) : Namespace := { n with holder := none, rtype := 0 }

/-- Registrants leave; a reservation goes with its holder, of types 5 and 6 with the last registrant. -/
def Namespace.without (n : Namespace) (gone : List Nat) : Namespace :=
  let n1 := { n with regs := n.regs.filter fun r => !gone.contains r.host }
  match n1.holder with
  | none => n1
  | some h =>
    if !gone.contains h then n1
    else if 5 ≤ n1.rtype then
      match n1.regs with
      | r :: _ => { n1 with holder := some r.host }
      | [] => n1.released
    else n1.released

/-- A notification to the controllers of hosts (R549, R579): 1 registration preempted, 2 reservation released, 3 reservation
preempted; each has its bit in the namespace's mask. -/
def State.notifyHosts (s : State) (ns : Nat) (hosts : List Nat) (ty : Nat) : State :=
  (List.finRange 2).foldl (fun s p =>
    let k := s.ctl p
    if k.hostId ≠ 0 ∧ hosts.contains k.hostId ∧ ¬ bit (s.ns ns).notifyMask ty then
      (s.setCtl p { k with resvCount := k.resvCount + 1, resvLog := ((k.resvCount + 1, ty, ns) :: k.resvLog).take 256 }).asyncEvent
        p 6 0
    else s) s

/-- The namespace's new reservation state takes effect; with Reservation Persistence it is saved first. -/
def State.putResv (s : State) (k : Nat) (n : Namespace) : State :=
  let s1 := s.mapNs k fun _ => n
  if n.ptpl ∨ (s.ns k).ptpl then s1.saveConfig else s1

/-- Generation rises. -/
def Namespace.next (n : Namespace) : Namespace := { n with gen := (n.gen + 1) % 2 ^ 32 }

/-- The refusals of a reservation command (R41, R579). -/
def State.admitResv (s : State) (c : Command) : Nat :=
  if c.nsid = 0xFFFFFFFF then 0x00B
  else if s.admissionStatus c ≠ 0 then s.admissionStatus c
  else if (s.ctl c.port).hostId = 0 then 0x00C
  else 0

/-- The status of the data transfer of a reservation command. -/
def resvXfer (c : Command) (x : Xfer) : Nat := if c.ptrStatus ≠ 0 then c.ptrStatus else xferStatus x

/-- The registrant of a host. -/
def Namespace.reg (n : Namespace) (host : Nat) : Option Registrant := n.regs.find? (·.host == host)

/-- Change the registrants. -/
def Namespace.mapRegs (n : Namespace) (f : Registrant → Registrant) : Namespace := { n with regs := n.regs.map f }

/-- Register, unregister or replace: the status and the new state. -/
def Namespace.register (n : Namespace) (host ctl action crkey nrkey : Nat) (ignore : Bool) : Nat × Namespace :=
  match action, n.reg host with
  | 0, none => if 32 ≤ n.regs.length then (0x002, n) else (0, Namespace.next { n with regs := n.regs ++ [⟨host, nrkey, [ctl]⟩] })
  | 0, some r =>
    if r.key ≠ nrkey then (0x083, n)
    else (0, Namespace.next (n.mapRegs fun q => if q.host = host then { q with ctls := insertRising ctl q.ctls } else q))
  | 1, some r => if !ignore ∧ r.key ≠ crkey then (0x083, n) else (0, (n.without [host]).next)
  | 2, some r =>
    if !ignore ∧ r.key ≠ crkey then (0x083, n)
    else (0, Namespace.next (n.mapRegs fun q => if q.host = host then { q with key := nrkey } else q))
  | _, none => (0x083, n)
  | _, _ => (0x002, n)

/-- RESERVATION_REGISTER (R579): the data holds CRKEY and NRKEY; CPTPL may change the persistence. -/
def execReservationRegister (seq : Nat) (x : Xfer) (data : List Byte) (s : State) : Host.Outcome State Fault Refusal :=
  s.serveIo seq 0x0D s.admitResv fun s c =>
    let n := s.ns c.nsid
    let host := (s.ctl c.port).hostId
    let act := c.dw 10 % 8
    let cptpl := bits (c.dw 10) 31 30
    if resvXfer c x ≠ 0 then s.finish seq (resvXfer c x) 0
    else if 2 < act ∨ cptpl = 1 then s.finish seq 0x002 0
    else
      let (bad, n1) := n.register host (c.port.val + 1) act (field data 0 8) (field data 8 8) (bit (c.dw 10) 3)
      if bad ≠ 0 then s.finish seq bad 0
      else
        let n2 := if cptpl = 0 then n1 else { n1 with ptpl := cptpl == 3 }
        let s1 := s.putResv c.nsid n2
        let gone : Bool := n.holder.isSome && n2.holder.isNone && (n.rtype == 3 || n.rtype == 4)
        (if gone then s1.notifyHosts c.nsid (n2.regs.map (·.host)) 2 else s1).finish seq 0 0

/-- RESERVATION_REPORT (R579): the extended data structure, in dwords of NUMD. -/
def execReservationReport (seq : Nat) (x : Xfer) (s : State) : Host.Outcome State Fault Refusal :=
  s.serveIo seq 0x0E s.admitResv fun s c =>
    let n := s.ns c.nsid
    let one := fun (r : Registrant) (ctl : Nat) =>
      leBytes 2 ctl ++ leBytes 1 (flag (n.holds r.host)) ++ zeros 5 ++ leBytes 8 r.key ++ leBytes 16 r.host ++ zeros 32
    let l := n.regs.flatMap fun r => r.ctls.map (one r)
    let all := padTo 64 (leBytes 4 n.gen ++ leBytes 1 n.rtype ++ leBytes 2 l.length ++ zeros 2 ++ leBytes 1 (flag n.ptpl)) ++
      l.flatten
    let want := (c.dw 10 + 1) * 4
    if ¬ bit (c.dw 11) 0 ∨ 1048576 < want then s.finish seq 0x002 0
    else if resvXfer c x ≠ 0 then s.finish seq (resvXfer c x) 0
    else (s.emit (.hostData c.port seq (all.take want))).finish seq 0 0

/-- Acquire or preempt: status, the new state, and the hosts preempted. -/
def Namespace.acquire (n : Namespace) (host action rtype prkey : Nat) : Nat × Namespace × List Nat :=
  let hit := ((n.regs.filter fun r => r.key == prkey && r.host != host).map (·.host))
  let known : Bool := n.regs.any (·.key == prkey)
  let others := (n.regs.filter (·.host != host)).map (·.host)
  let take := fun (m : Namespace) => { m with holder := some host, rtype := rtype }
  if action = 0 then
    match n.holder with
    | none => (0, take n, [])
    | some _ => if n.holds host ∧ n.rtype = rtype then (0, n, []) else (0x083, n, [])
  else
    match n.holder with
    | none => if known then (0, (n.without hit).next, hit) else (0x083, n, [])
    | some h =>
      if 5 ≤ n.rtype then
        if prkey = 0 then (0, (take ((n.without others).released)).next, others)
        else if known then (0, (n.without hit).next, hit) else (0x083, n, [])
      else if prkey = 0 then (0x002, n, [])
      else if ((n.reg h).map (·.key)) = some prkey then (0, (take ((n.without hit).released)).next, hit)
      else if known then (0, (n.without hit).next, hit) else (0x083, n, [])

/-- RESERVATION_ACQUIRE (R579, R580): RACQA 0 acquire, 1 preempt, 2 preempt and abort, which ends the preempted hosts' commands
that can still be aborted. -/
def execReservationAcquire (seq : Nat) (x : Xfer) (data : List Byte) (s : State) : Host.Outcome State Fault Refusal :=
  s.serveIo seq 0x11 s.admitResv fun s c =>
    let n := s.ns c.nsid
    let host := (s.ctl c.port).hostId
    let act := c.dw 10 % 8
    let rtype := bits (c.dw 10) 15 8
    let mine : Bool := match n.reg host with
      | some r => bit (c.dw 10) 3 || r.key == field data 0 8
      | none => false
    if resvXfer c x ≠ 0 then s.finish seq (resvXfer c x) 0
    else if 2 < act ∨ rtype < 1 ∨ 6 < rtype then s.finish seq 0x002 0
    else if !mine then s.finish seq 0x083 0
    else
      let (bad, n1, hit) := n.acquire host act rtype (field data 8 8)
      if bad ≠ 0 then s.finish seq bad 0
      else
        let held := hit.filter n.holds
        let s1 := s.putResv c.nsid n1
        let s2 := (s1.notifyHosts c.nsid held 3).notifyHosts c.nsid (hit.filter fun h => !held.contains h) 1
        let s3 := if act = 2 then
            (s2.hif.cmds.filter fun d => hit.contains (s2.ctl d.port).hostId && d.seq != seq && d.nsid == c.nsid && d.isIo &&
              d.abortable).foldl (fun s d => s.abortCmd d 0x007) s2
          else s2
        s3.finish seq 0 0

/-- RESERVATION_RELEASE (R579): RRELA 0 release, 1 clear. -/
def execReservationRelease (seq : Nat) (x : Xfer) (data : List Byte) (s : State) : Host.Outcome State Fault Refusal :=
  s.serveIo seq 0x15 s.admitResv fun s c =>
    let n := s.ns c.nsid
    let host := (s.ctl c.port).hostId
    let act := c.dw 10 % 8
    let others := (n.regs.filter (·.host != host)).map (·.host)
    let mine : Bool := match n.reg host with
      | some r => bit (c.dw 10) 3 || r.key == field data 0 8
      | none => false
    if resvXfer c x ≠ 0 then s.finish seq (resvXfer c x) 0
    else if 1 < act then s.finish seq 0x002 0
    else if !mine then s.finish seq 0x083 0
    else if act = 1 then
      (((s.putResv c.nsid (Namespace.next { n.released with regs := [] })).notifyHosts c.nsid others 3)).finish seq 0 0
    else if !n.holds host then s.finish seq 0 0
    else if n.rtype ≠ bits (c.dw 10) 15 8 then s.finish seq 0x002 0
    else
      let s1 := s.putResv c.nsid n.released
      (if 3 ≤ n.rtype then s1.notifyHosts c.nsid others 2 else s1).finish seq 0 0

/-! ## Recalibration (R170, R235, R236) -/

/-- Whether a refined value lies in its field's range (R232): GAIN, OFFSET, ASYM, DELAY_TRIM, weight set 0, HEATER_READ. -/
def refinable (o v : Nat) : Bool :=
  let i := signed 16 v
  let even : Bool := o % 2 == 0
  even && decide (v < 65536) &&
    (if 0x18 ≤ o ∧ o < 0x1E then decide (v ≤ 2560)
     else if 0x1E ≤ o ∧ o < 0x24 then decide (-2048 ≤ i ∧ i ≤ 2047)
     else if 0x24 ≤ o ∧ o < 0x2A then decide (-16384 ≤ i ∧ i ≤ 16383)
     else if 0x2A ≤ o ∧ o < 0x30 then decide (-512 ≤ i ∧ i ≤ 511)
     else if 0x30 ≤ o ∧ o < 0x36 then true
     else o == 0x56 && decide (v ≤ 1500))

/-- The DIGEST of the running image's ZONES section (R78, R236). -/
def State.zonesDigest (s : State) : List Byte :=
  ((s.boot.image.bind fun i => i.entries.find? (·.ty == secZones)).map (·.digest)).getD []

/-- RECALIBRATION (R170, R235, R236): KS recalibrates a head of the lane; `values` are the refined fields it found, as zone, byte
offset in the entry and value. With REFINE_WRITEBACK they go to the system area too. -/
def execRecalibration (n : Lane) (head : Nat) (values : List (Nat × Nat × Nat)) (s : State) : Host.Outcome State Fault Refusal :=
  .next <|
    let zones := s.section secZones
    let geo := s.section secGeometry
    if !s.used n.val ∨ !headFitted geo head ∨ headLane geo head ≠ n.val ∨ s.get (laneBootField n.val) ≠ 4 then s
    else
      let ok := (values.filter fun (z, o, v) => refinable o v && (zoneEntry zones head z).isSome).map fun (z, o, v) => (head, z, o, v)
      let same := fun (a b : Nat × Nat × Nat × Nat) => a.1 == b.1 && a.2.1 == b.2.1 && a.2.2.1 == b.2.2.1
      let l := s.lane n
      let kept := l.chan.refined.filter fun a => !ok.any (same a)
      let d := s.zonesDigest
      let sys := if bit (s.sec8 secSeqParams 3) 0 then
          { l.sys with refined := (l.sys.refined.filter fun a => !(a.1 == d && ok.any (same a.2))) ++ ok.map fun a => (d, a) }
        else l.sys
      s.setLane n { l with chan := { l.chan with refined := kept ++ ok }, sys := sys }

end Sys2Proof.Machine
end

