-- ==== Sys2Proof/Machine/Sata.lean ====
section
/-! DEFINITION. The SATA personality of compatibility mode (chapter 17): the link and its resets, how commands arrive and end,
and the ATA commands on sectors, power, features and the vendor's own. -/

namespace Sys2Proof.Machine

/-! ## Link and resets (R606, R607, R623) -/

/-- The signature FIS goes out once BULK has ended, never in hold (R105, R607). -/
def State.sataSignature (s : State) : State :=
  if s.boot.compat ∧ s.get Reg.HIF_SATA_LINK_UP = 1 ∧ s.boot.bulkEnded ∧ !s.held ∧ s.get Reg.HIF_SATA_SIG_SENT = 0 then
    (s.put Reg.HIF_SATA_SIG_SENT 1).emit .signatureFis
  else s

/-- SATA_LINK_UP (R606, R607, R623, R713): COMRESET is answered from the end of PROBE on. -/
def execSataLinkUp (gen : Nat) (s : State) : Host.Outcome State Fault Refusal :=
  .next <|
    if !s.powered ∨ !s.boot.compat ∨ s.boot.density = 0 ∨ s.get Reg.HIF_SATA_LINK_UP = 1 ∨ gen < 1 ∨ 3 < gen then s
    else
      let s1 := (s.put Reg.HIF_SATA_LINK_UP 1).put Reg.HIF_SATA_GEN gen
      let s2 := (s1.setHif { s1.hif with trained := s1.hif.trained.insert 0 }).raise 0x520 (1 + gen * 2)
      s2.hostLinkBack.sataSignature

/-- SATA_LINK_DOWN (R623). -/
def execSataLinkDown (s : State) : Host.Outcome State Fault Refusal :=
  .next <|
    if s.get Reg.HIF_SATA_LINK_UP = 0 then s
    else (((s.put Reg.HIF_SATA_LINK_UP 0).put Reg.HIF_SATA_GEN 0).put Reg.HIF_SATA_SIG_SENT 0).raise 0x520 0

/-- Running commands end without completion, as for a PCIe controller (R71): a write whose data is wholly in the buffer is
kept and commits; a running self-test is interrupted (R617). -/
def State.sataReset (s : State) (comreset : Bool) : State :=
  let mine := s.hif.cmds.filter (·.isAta)
  let keep := (mine.filter fun c => c.isWrite && c.transferred && !c.resolved && !c.ended).map (·.seq)
  let gone := (mine.filter fun c => !keep.contains c.seq).map (·.seq)
  let cmds := (s.hif.cmds.filter fun c => !gone.contains c.seq).map fun c => if keep.contains c.seq then { c with sq := sqKept } else c
  let s1 := (s.setHif { s.hif with cmds := cmds, sata := { s.hif.sata with ncqError := none, asleep := false, stopDue := false } })
  let s2 := ((s1.dropOwners gone).put Reg.HIF_SATA_NCQ_LOCK 0).showTags
  let s3 := s2.endTest 2 ((s2.cache.selfTest.map (·.segment)).getD 0) none
  let s4 := keep.foldl (fun s q => s.tryCommit q) s3
  let s5 := s4.raise 0x521 (flag comreset + min 63 mine.length * 2 ^ 16)
  (s5.put Reg.HIF_SATA_SIG_SENT 0).sataSignature

/-- COMRESET (R607). -/
def execComreset (s : State) : Host.Outcome State Fault Refusal :=
  .next (if s.powered ∧ s.boot.compat ∧ s.boot.density ≠ 0 ∧ s.get Reg.HIF_SATA_LINK_UP = 1 then s.sataReset true else s)

/-- SOFTWARE_RESET (R607). -/
def execSoftwareReset (s : State) : Host.Outcome State Fault Refusal :=
  .next (if s.powered ∧ s.boot.compat ∧ s.get Reg.HIF_SATA_LINK_UP = 1 then s.sataReset false else s)

/-! ## How a command arrives (R607 to R611) -/

/-- Whether the device takes a command FIS: BSY is clear, no non-queued command runs, and SLEEP was not entered. -/
def State.ataOpen (s : State) : Bool :=
  s.powered && s.boot.compat && s.get Reg.HIF_SATA_LINK_UP == 1 && s.get Reg.HIF_SATA_SIG_SENT == 1 && !s.hif.sata.asleep &&
    !s.hif.cmds.any fun c => c.isAta && !c.queuedAta

/-- A command FIS as a command: ATA opcode and FEATURES byte, the NVMe command it works as, LBA, count of sectors, tag. -/
def State.ataCommand (s : State) (op feat nvme lba count tag : Nat) (fua : Bool) : Command :=
  let e : SqEntry := ⟨nvme, 0, tag, 1, 0, [lba % 2 ^ 32, lba / 2 ^ 32, (count - 1) % 65536 + flag fua * 2 ^ 30, 0, 0, 0]⟩
  { newCommand s.hif.nextSeq 0 0xFFFF e false with ata := (op, feat), started := true }

/-- Refused without a slot: ABRT. -/
def State.ataRefuse (s : State) (c : Command) : State :=
  (s.emit (.registerFis 0x51 0x04 0 c.slba)).ataError c 0x51 0x04 c.slba

/-- Every outstanding queued command is aborted (R610). -/
def State.dropTags (s : State) : State :=
  let gone := (s.hif.cmds.filter (·.queuedAta)).map (·.seq)
  ((s.setHif { s.hif with cmds := s.hif.cmds.filter fun c => !c.queuedAta }).dropOwners gone).showTags

/-- Take a command (R608 to R610, R660): the lock of log 0x10, the mixing of queued and non-queued commands, a tag used
twice, and a failed device come first. -/
def State.ataTake (s : State) (c : Command) (run : State → Command → State) : State :=
  if !s.ataOpen then s
  else
  let s := s.wake (.hif 0)
  if s.get Reg.HIF_SATA_NCQ_LOCK = 1 ∧ c.ata.1 ≠ 0x2F ∧ c.ata.1 ≠ 0x47 then s.ataRefuse c
  else
    let tags := s.hif.cmds.filter (·.queuedAta)
    if !c.queuedAta ∧ !tags.isEmpty then s.dropTags.ataRefuse c
    else if c.queuedAta ∧ tags.any (·.cid == c.cid) then s.dropTags.ncqFail c 0x51 0x04
    else
      let s1 := (s.enterCommand c).showTags
      let s2 := if c.queuedAta then s1.emit (.registerFis 0x50 0 0 c.slba) else s1
      if s.lko.fatal then s2.finish c.seq 0x7C4 0 else (run s2 c).wakeMedia

/-- Logical sectors of the device (R600). -/
def State.sataSectors (s : State) : Nat := ((s.nsMap 1).map (·.blocks)).getD 0 * s.lbaUnit

/-- Check the range (R611), then go on. -/
def State.inRange (s : State) (c : Command) (go : State → State) : State :=
  if s.sataSectors < c.slba + c.nlb then
    (s.mapCmd c.seq fun d => d.fail 0x080 (max c.slba s.sataSectors)).finish c.seq 0x080 0
  else go s

/-- HIF.SATA_CRC counts an interface CRC error (R624). -/
def State.crcCount (s : State) (x : Xfer) : State := if x = .crcError then s.bump Reg.HIF_SATA_CRC_COUNT 1 else s

/-- The address and count of a 28-bit command. -/
def fisShort (f : AtaFis) : Nat × Nat := (f.lba % 2 ^ 28, if f.count % 256 = 0 then 256 else f.count % 256)
/-- The address and count of a 48-bit command. -/
def fisExt (f : AtaFis) : Nat × Nat := (f.lba % 2 ^ 48, if f.count % 65536 = 0 then 65536 else f.count % 65536)

/-- A read of sectors. -/
def State.ataRead (s : State) (op nvme : Nat) (a : Nat × Nat) (tag : Nat) (x : Xfer) (b : BufAccess) : State :=
  s.ataTake (s.ataCommand op 0 nvme a.1 a.2 tag false) fun s c =>
    s.inRange c fun s => ((s.crcCount x).mapCmd c.seq fun d => { d with xfer := xferStatus x }).resolve c.seq b

/-- A write of sectors: its data comes in data FISes; one with a CRC error ends it without effect. -/
def State.ataWrite (s : State) (op : Nat) (a : Nat × Nat) (tag : Nat) (fua : Bool) (data : List HostBlock) (x : Xfer) : State :=
  s.ataTake (s.ataCommand op 0 opWrite a.1 a.2 tag fua) fun s c =>
    s.inRange c fun s =>
      if x ≠ .ok then (s.crcCount x).finish c.seq 0x004 0
      else
        let size := if s.lbaUnit = 8 then 512 else 4096
        let l := (List.range c.nlb).map fun i => (⟨padTo size (data.getD i ⟨[], []⟩).data, zeros 8⟩ : BlockData)
        (s.mapCmd c.seq fun d => { d with transferred := true, blocks := l }).tryCommit c.seq

/-! ## Sectors -/

/-- READ_SECTORS (R608). -/
def execReadSectors (f : AtaFis) (x : Xfer) (b : BufAccess) (s : State) : Host.Outcome State Fault Refusal :=
  .next (s.ataRead 0x20 opRead (fisShort f) 0xFFFF x b)
/-- READ_SECTORS_EXT (R608). -/
def execReadSectorsExt (f : AtaFis) (x : Xfer) (b : BufAccess) (s : State) : Host.Outcome State Fault Refusal :=
  .next (s.ataRead 0x24 opRead (fisExt f) 0xFFFF x b)
/-- READ_DMA_EXT (R608). -/
def execReadDmaExt (f : AtaFis) (x : Xfer) (b : BufAccess) (s : State) : Host.Outcome State Fault Refusal :=
  .next (s.ataRead 0x25 opRead (fisExt f) 0xFFFF x b)
/-- READ_DMA (R608). -/
def execReadDma (f : AtaFis) (x : Xfer) (b : BufAccess) (s : State) : Host.Outcome State Fault Refusal :=
  .next (s.ataRead 0xC8 opRead (fisShort f) 0xFFFF x b)
/-- READ_FPDMA_QUEUED (R610). -/
def execReadFpdmaQueued (f : AtaFis) (x : Xfer) (b : BufAccess) (s : State) : Host.Outcome State Fault Refusal :=
  .next (s.ataRead 0x60 opRead (fisExt f) (f.tag % 32) x b)
/-- READ_VERIFY_SECTORS (R608): nothing is transferred. -/
def execReadVerifySectors (f : AtaFis) (b : BufAccess) (s : State) : Host.Outcome State Fault Refusal :=
  .next (s.ataRead 0x40 opVerify (fisShort f) 0xFFFF .ok b)
/-- READ_VERIFY_SECTORS_EXT (R608). -/
def execReadVerifySectorsExt (f : AtaFis) (b : BufAccess) (s : State) : Host.Outcome State Fault Refusal :=
  .next (s.ataRead 0x42 opVerify (fisExt f) 0xFFFF .ok b)
/-- WRITE_SECTORS (R608). -/
def execWriteSectors (f : AtaFis) (data : List HostBlock) (x : Xfer) (s : State) : Host.Outcome State Fault Refusal :=
  .next (s.ataWrite 0x30 (fisShort f) 0xFFFF false data x)
/-- WRITE_SECTORS_EXT (R608). -/
def execWriteSectorsExt (f : AtaFis) (data : List HostBlock) (x : Xfer) (s : State) : Host.Outcome State Fault Refusal :=
  .next (s.ataWrite 0x34 (fisExt f) 0xFFFF false data x)
/-- WRITE_DMA_EXT (R608). -/
def execWriteDmaExt (f : AtaFis) (data : List HostBlock) (x : Xfer) (s : State) : Host.Outcome State Fault Refusal :=
  .next (s.ataWrite 0x35 (fisExt f) 0xFFFF false data x)
/-- WRITE_DMA (R608). -/
def execWriteDma (f : AtaFis) (data : List HostBlock) (x : Xfer) (s : State) : Host.Outcome State Fault Refusal :=
  .next (s.ataWrite 0xCA (fisShort f) 0xFFFF false data x)
/-- WRITE_DMA_FUA_EXT (R27, R608): it completes when the data is on media. -/
def execWriteDmaFuaExt (f : AtaFis) (data : List HostBlock) (x : Xfer) (s : State) : Host.Outcome State Fault Refusal :=
  .next (s.ataWrite 0x3D (fisExt f) 0xFFFF true data x)
/-- WRITE_FPDMA_QUEUED (R610), with its FUA bit. -/
def execWriteFpdmaQueued (f : AtaFis) (data : List HostBlock) (x : Xfer) (s : State) : Host.Outcome State Fault Refusal :=
  .next (s.ataWrite 0x61 (fisExt f) (f.tag % 32) f.fua data x)

/-- WRITE_UNCORRECTABLE_EXT (R563, R608): the pseudo (0x55) and the flagged (0xAA) form. -/
def execWriteUncorrectableExt (f : AtaFis) (s : State) : Host.Outcome State Fault Refusal :=
  .next <| s.ataTake (s.ataCommand 0x45 (f.features % 256) opWriteUnc (fisExt f).1 (fisExt f).2 0xFFFF false) fun s c =>
    if f.features % 256 ≠ 0x55 ∧ f.features % 256 ≠ 0xAA then s.finish c.seq 0x002 0
    else s.inRange c fun s => (s.mapCmd c.seq fun d => { d with transferred := true }).tryCommit c.seq

/-! ## Flush, cache, features, diagnostics -/

/-- A command without sectors: FEATURES, LBA and COUNT as they came; it works as no NVMe command. -/
def State.ataPlain (s : State) (op feat lba count : Nat) (run : State → Command → State) : State :=
  s.ataTake (s.ataCommand op feat 0xFF lba (count + 1) 0xFFFF false) run

/-- FLUSH_CACHE (R28, R608). -/
def execFlushCache (s : State) : Host.Outcome State Fault Refusal :=
  .next (s.ataPlain 0xE7 0 0 0 fun s c => s.flushWait c.seq 1)
/-- FLUSH_CACHE_EXT (R28, R608). -/
def execFlushCacheExt (s : State) : Host.Outcome State Fault Refusal :=
  .next (s.ataPlain 0xEA 0 0 0 fun s c => s.flushWait c.seq 1)

/-- SET_FEATURES_ENABLE_WRITE_CACHE (R608). -/
def execSetFeaturesEnableWriteCache (s : State) : Host.Outcome State Fault Refusal :=
  .next (s.ataPlain 0xEF 0x02 0 0 fun s c => s.setWce c.seq true false)
/-- SET_FEATURES_DISABLE_WRITE_CACHE (R544, R608): every dirty extent is destaged first. -/
def execSetFeaturesDisableWriteCache (s : State) : Host.Outcome State Fault Refusal :=
  .next (s.ataPlain 0xEF 0x82 0 0 fun s c => s.setWce c.seq false false)

/-- Transfer modes a device may be set to: PIO default and flow control, multiword DMA 0 to 2, Ultra DMA 0 to 6. -/
def transferMode (m : Nat) : Bool :=
  decide (m ≤ 1) || (decide (8 ≤ m) && decide (m ≤ 12)) || (decide (0x20 ≤ m) && decide (m ≤ 0x22)) ||
    (decide (0x40 ≤ m) && decide (m ≤ 0x46))

/-- SET_FEATURES_SET_TRANSFER_MODE (R608). -/
def execSetFeaturesSetTransferMode (mode : Nat) (s : State) : Host.Outcome State Fault Refusal :=
  .next <| s.ataPlain 0xEF 0x03 0 0 fun s c =>
    if transferMode mode then (s.setSata { s.hif.sata with mode := mode }).finish c.seq 0 0 else s.finish c.seq 0x002 0

/-- SATA features that can be enabled: device-initiated interface power and software settings preservation (R606). -/
def sataFeature (k : Nat) : Bool := k == 3 || k == 6

/-- SET_FEATURES_ENABLE_SATA_FEATURE (R606, R608). -/
def execSetFeaturesEnableSataFeature (k : Nat) (s : State) : Host.Outcome State Fault Refusal :=
  .next <| s.ataPlain 0xEF 0x10 0 0 fun s c =>
    if sataFeature k then (s.setSata { s.hif.sata with features := insertRising k s.hif.sata.features }).finish c.seq 0 0
    else s.finish c.seq 0x002 0
/-- SET_FEATURES_DISABLE_SATA_FEATURE (R606, R608). -/
def execSetFeaturesDisableSataFeature (k : Nat) (s : State) : Host.Outcome State Fault Refusal :=
  .next <| s.ataPlain 0xEF 0x90 0 0 fun s c =>
    if sataFeature k then (s.setSata { s.hif.sata with features := s.hif.sata.features.filter (· != k) }).finish c.seq 0 0
    else s.finish c.seq 0x002 0
/-- SET_FEATURES_ENABLE_READ_LOOK_AHEAD (R608): recorded for IDENTIFY word 85. -/
def execSetFeaturesEnableReadLookAhead (s : State) : Host.Outcome State Fault Refusal :=
  .next <| s.ataPlain 0xEF 0xAA 0 0 fun s c => (s.setSata { s.hif.sata with lookAhead := true }).finish c.seq 0 0
/-- SET_FEATURES_DISABLE_READ_LOOK_AHEAD (R608). -/
def execSetFeaturesDisableReadLookAhead (s : State) : Host.Outcome State Fault Refusal :=
  .next <| s.ataPlain 0xEF 0x55 0 0 fun s c => (s.setSata { s.hif.sata with lookAhead := false }).finish c.seq 0 0

/-- EXECUTE_DEVICE_DIAGNOSTIC (R608): the diagnostic code is 0x01, and the signature follows in the same FIS. -/
def execExecuteDeviceDiagnostic (s : State) : Host.Outcome State Fault Refusal :=
  .next <| s.ataPlain 0x90 0 0 0 fun s c => (s.dropCmd c.seq).emit (.registerFis 0x50 0x01 1 1)

/-! ## Power (R608) -/

/-- The spindle is to stop once every dirty extent is on media and lane 0 is parked; Cairn flushes (R684). -/
def State.standbyStart (s : State) : State :=
  let s1 := ((s.setSata { s.hif.sata with stopDue := true, idle := false }).destageAll false).startFlush
  ({ s1 with sbd := { s1.sbd with shutdown := true } }).destageChecks

/-- The standby timer period of a COUNT in ms: 5 s steps to 240, then 30 min steps to 251; 0 is off; none where reserved. -/
def standbyPeriod (k : Nat) : Option Nat :=
  if k ≤ 240 then some (k * 5000)
  else if k ≤ 251 then some ((k - 240) * 1800000)
  else if k = 252 then some 1260000
  else if k = 253 then some 28800000
  else if k = 255 then some 1275000
  else none

/-- STANDBY_IMMEDIATE (R432, R608). -/
def execStandbyImmediate (s : State) : Host.Outcome State Fault Refusal :=
  .next (s.ataPlain 0xE0 0 0 0 fun s _ => s.standbyStart)

/-- IDLE_IMMEDIATE (R608). -/
def execIdleImmediate (s : State) : Host.Outcome State Fault Refusal :=
  .next (s.ataPlain 0xE1 0 0 0 fun s c => (s.setSata { s.hif.sata with idle := true }).finish c.seq 0 0)

/-- STANDBY (R608): the timer is set, and the spindle stops. -/
def execStandby (count : Nat) (s : State) : Host.Outcome State Fault Refusal :=
  .next <| s.ataPlain 0xE2 0 0 0 fun s c =>
    match standbyPeriod count with
    | some t => (s.setSata { s.hif.sata with standbyMs := t }).standbyStart
    | none => s.finish c.seq 0x002 0

/-- IDLE (R608): the timer is set. -/
def execIdle (count : Nat) (s : State) : Host.Outcome State Fault Refusal :=
  .next <| s.ataPlain 0xE3 0 0 0 fun s c =>
    match standbyPeriod count with
    | some t => (s.setSata { s.hif.sata with standbyMs := t, idle := true }).finish c.seq 0 0
    | none => s.finish c.seq 0x002 0

/-- CHECK_POWER_MODE (R608): COUNT is 0x00 while the spindle is stopped or starting, else 0xFF. -/
def execCheckPowerMode (s : State) : Host.Outcome State Fault Refusal :=
  .next (s.ataPlain 0xE5 0 0 0 fun s c => s.finish c.seq 0 (if s.whlState ∈ [0, 1, 2, 3, 8] then 0 else 0xFF))

/-- SLEEP (R608): as STANDBY, and only a reset is heeded afterwards. -/
def execSleep (s : State) : Host.Outcome State Fault Refusal :=
  .next <| s.ataPlain 0xE6 0 0 0 fun s _ => (s.standbyStart).setSata { s.standbyStart.hif.sata with asleep := true }

/-- STANDBY_TIMER_EXPIRY (R608): the timer of STANDBY or IDLE runs out with no command at work. -/
def execStandbyTimerExpiry (s : State) : Host.Outcome State Fault Refusal :=
  .next <|
    if s.boot.compat ∧ s.powered ∧ s.hif.sata.standbyMs ≠ 0 ∧ !(s.hif.cmds.any (·.isAta)) ∧ s.get Reg.HIF_SATA_STANDBY = 0 then
      s.standbyStart
    else s

/-! ## Vendor commands (R618) -/

/-- A DV-40 vendor command: LBA bits [47:32] hold 0x4456, else ABRT; SATA_VENDOR tells whether it was refused. -/
def State.vendor (s : State) (sub : Nat) (f : AtaFis) (run : State → Command → State × Nat) : State :=
  s.ataPlain 0xFA sub (f.lba % 2 ^ 48) (f.count % 65536) fun s c =>
    if bits f.lba 47 32 ≠ 0x4456 then (s.raise 0x523 (sub + 2 ^ 8)).finish c.seq 0x002 0
    else
      let (t, bad) := run s c
      if bad ≠ 0 then (t.raise 0x523 (sub + flag (ataResult bad == (0x51, 0x04)) * 2 ^ 8)).finish c.seq bad 0
      else t.raise 0x523 sub

/-- A vendor command that sends sectors and completes. -/
def State.vendorIn (s : State) (c : Command) (sectors : Nat) (l : List Byte) (x : Xfer) : State × Nat :=
  if x ≠ .ok then (s.crcCount x, 0x004)
  else ((s.emit (.sataData (padTo (512 * sectors) l))).finish c.seq 0 0, 0)

/-- Sectors asked for in COUNT. -/
def fisSectors (f : AtaFis) : Nat := (fisExt f).2

/-- READ_COUNTERS (R618, R547). -/
def execReadCounters (f : AtaFis) (x : Xfer) (s : State) : Host.Outcome State Fault Refusal :=
  .next (s.vendor 0x01 f fun s c => s.vendorIn c 1 (s.laneHealth 0) x)

/-- READ_GROWN_DEFECTS (R618). -/
def execReadGrownDefects (f : AtaFis) (x : Xfer) (s : State) : Host.Outcome State Fault Refusal :=
  .next <| s.vendor 0x02 f fun s c =>
    let l := (s.lane 0).rcv.grown
    s.vendorIn c (fisSectors f) (leBytes 4 l.length ++ zeros 12 ++ l.flatMap (leBytes 8)) x

/-- READ_PENDING (R618, R548). -/
def execReadPending (f : AtaFis) (x : Xfer) (s : State) : Host.Outcome State Fault Refusal :=
  .next (s.vendor 0x03 f fun s c => s.vendorIn c (fisSectors f) (s.pendingLog 0) x)

/-- SET_SECTOR_FORMAT (R613, R618): COUNT 0 512e, 1 4Kn; every dirty extent is destaged, then the size applies. -/
def execSetSectorFormat (f : AtaFis) (s : State) : Host.Outcome State Fault Refusal :=
  .next <| s.vendor 0x10 f fun s c =>
    let l := s.dirtyVersions 1
    let s1 := s.mapCmd c.seq fun d => { d with dw0 := f.count }
    if 1 < f.count then (s, 0x002)
    else if l.isEmpty then (s1.finish c.seq 0 f.count, 0)
    else if s.stuckStatus l ≠ 0 then (s, s.stuckStatus l)
    else ((s1.mapCmd c.seq fun d => { d with toMedia := l }).destageAll false, 0)

/-- READ_BUFFER_HEALTH (R618, R548): 33 sectors. -/
def execReadBufferHealth (f : AtaFis) (x : Xfer) (s : State) : Host.Outcome State Fault Refusal :=
  .next (s.vendor 0x80 f fun s c => s.vendorIn c 33 s.bufferHealthLog x)

/-- DV40_RETIRE_BUFFER_PAGE (R618, R469): it completes when BUF.RETIRE_REQ.GO clears. -/
def execDv40RetireBufferPage (f : AtaFis) (s : State) : Host.Outcome State Fault Refusal :=
  .next <| s.ataPlain 0xFA 0x81 (f.lba % 2 ^ 48) (f.count % 65536) fun s c =>
    if bits f.lba 47 32 ≠ 0x4456 then (s.raise 0x523 0x181).finish c.seq 0x002 0
    else
      let (t, refused) := s.writeRetireReq (f.lba % 2 ^ 23 + 2 ^ 31)
      if refused then (t.raise 0x523 0x181).finish c.seq 0x7C6 0 else t

/-- DV40_DECLARE_BUFFER_CHIP_DEAD (R618, R455). -/
def execDv40DeclareBufferChipDead (f : AtaFis) (s : State) : Host.Outcome State Fault Refusal :=
  .next <| s.vendor 0x82 f fun s c =>
    let (t, refused) := s.writeDeadReq (f.lba % 8 + bits f.lba 5 4 * 16 + 2 ^ 31)
    if refused then (t, 0x7C6) else (t.finish c.seq 0 0, 0)

/-- DV40_CAIRN_CLEAR (R691, R692): 59 sectors, the token and zeros. -/
def execDv40CairnClear (f : AtaFis) (data : List Byte) (x : Xfer) (s : State) : Host.Outcome State Fault Refusal :=
  .next <| s.vendor 0x83 f fun s c =>
    if (fisSectors f) ≠ 59 then (s, 0x002)
    else if x ≠ .ok then (s.crcCount x, 0x004)
    else if s.crn.clearing ∨ !s.crn.scanned ∨ !s.tokenOk (data.take 29920) ∨ !((padTo 30208 data).drop 29920).all (· == 0) then
      (s, 0x7C5)
    else (s.clearStart c.seq (data.take 29920), 0)

end Sys2Proof.Machine
end

