-- ==== Sys2Proof/Machine/SataLogs.lean ====
section
/-! DEFINITION. What the SATA personality reports (chapter 17): IDENTIFY DEVICE, SMART, the general-purpose and SMART logs with
the DV-40 event records, and SCT Error Recovery Control. Bytes whose content the manual does not give are free values (log
entry 1). -/

namespace Sys2Proof.Machine

/-! ## Structures -/

/-- Fields put into a structure of 512 bytes whose other bytes are free. -/
def State.freePage (s : State) (l : List (Nat × List Byte)) : List Byte × State :=
  let (b, t) := s.freeBytes 512
  (l.foldl (fun b x => patch b x.1 x.2) b, t)

/-- A 512-byte structure with its checksum at offset 511: all bytes add up to 0. -/
def summed (l : List Byte) : List Byte := l.take 511 ++ [0 - (l.take 511).foldl (· + ·) 0]

/-- Bits of a 16-bit word of a structure. -/
def putWord (l : List Byte) (w hi lo v : Nat) : List Byte := patch l (2 * w) (leBytes 2 (setBits (u16 l (2 * w)) hi lo v))

/-- Whole words from `w` on. -/
def putWords (l : List Byte) (w n v : Nat) : List Byte := patch l (2 * w) (leBytes (2 * n) v)

/-- ATA text: the bytes of each word change places. -/
def ataText : List Byte → List Byte
  | a :: b :: t => b :: a :: ataText t
  | l => l

/-- A PIO or DMA data-in command ends: its data goes out, then its status. -/
def State.sataGive (s : State) (c : Command) (x : Xfer) (l : List Byte) : State :=
  if x ≠ .ok then (s.crcCount x).finish c.seq 0x004 0 else (s.emit (.sataData l)).finish c.seq 0 0

/-! ## IDENTIFY DEVICE (R606, R608, R613) -/

/-- The bit of a transfer mode within its group: the mode selected, in bits [10:8] or [14:8]. -/
def modeBits (mode base : Nat) : Nat := if base ≤ mode ∧ mode < base + 8 then 2 ^ (mode - base) else 0

/-- IDENTIFY DEVICE data: the words the manual gives, the others free. -/
def State.identifyDevice (s : State) : List Byte × State :=
  let (b, t) := s.freeBytes 512
  let x := s.hif.sata
  let n := s.sataSectors
  let f := fun k => flag (x.features.contains k)
  let b1 := patch (patch (patch b 20 (ataText s.serial)) 46 (ataText s.firmware)) 54 (ataText s.model)
  let b2 := putWords (putWords b1 60 2 (min n 0xFFFFFFF)) 75 1 31
  let b3 := putWord (putWord (putWord (putWord b2 76 3 1 7) 76 8 8 1) 76 9 9 1) 76 12 12 1
  let b4 := putWord (putWord (putWord (putWord b3 78 3 3 1) 78 6 6 1) 79 3 3 (f 3)) 79 6 6 (f 6)
  let b5 := putWord (putWord (putWord (putWord b4 82 0 0 1) 82 5 5 1) 82 6 6 1) 83 10 10 1
  let b6 := putWord (putWord (putWord b5 85 0 0 (flag x.smart)) 85 5 5 (flag s.cache.wce)) 85 6 6 (flag x.lookAhead)
  let b7 := putWords (putWord (putWord b6 63 10 8 (modeBits x.mode 0x20)) 88 14 8 (modeBits x.mode 0x40)) 100 4 n
  let b8 := putWord (putWord (putWords b7 108 4 0) 206 0 0 1) 206 3 3 1
  let b9 := patch b8 216 (ataText s.eui)
  let b10 := putWords b9 217 1 (s.sec16 secSpindle 0)
  let b11 := if s.lbaUnit = 8 then putWords (putWords b10 106 1 0x6003) 209 1 0x4000
    else putWords (putWords b10 106 1 0x5000) 117 2 0x0800
  (summed (patch b11 510 [0xA5]), t)

/-- IDENTIFY_DEVICE (R608). -/
def execIdentifyDevice (x : Xfer) (s : State) : Host.Outcome State Fault Refusal :=
  .next <| s.ataPlain 0xEC 0 0 0 fun s c =>
    let (l, t) := s.identifyDevice
    t.sataGive c x l

/-! ## SMART attributes (R615, R616) -/

/-- Attribute IDs, in order. -/
def smartIds : List Nat := [0x01, 0x03, 0x04, 0x05, 0x09, 0x0C, 0xBB, 0xC1, 0xC2, 0xC5, 0xC7]

/-- The media channel of THERMAL (R629). -/
def State.mediaChannel (s : State) : Nat := s.sec8 secThermal 0

/-- A reading in whole degrees, as one byte. -/
def degrees (t : Nat) : Int := Int.fdiv (signed 16 t) 10

/-- The raw value of an attribute. -/
def State.smartRaw (s : State) (k : Nat) : Nat :=
  let x := s.hif.sata
  let c := s.mediaChannel
  match k with
  | 0x01 => (List.range 17).foldl (fun n i => n + s.total (0x100140 + 4 * i)) 0
  | 0x03 => x.spinUpMs
  | 0x04 => x.starts
  | 0x05 => (s.lane 0).rcv.sparesUsed
  | 0x09 => s.crn.opTime / 3600000
  | 0x0C => s.crn.pcyc
  | 0xBB => s.total 0x100180
  | 0xC1 => x.loads
  | 0xC2 => twos 8 (degrees (s.get (Reg.KLN_TEMP_READING c))) + twos 8 (degrees (s.get (Reg.KLN_PEAK_MIN c))) * 2 ^ 16 +
      twos 8 (degrees (s.get (Reg.KLN_PEAK_MAX c))) * 2 ^ 32
  | 0xC5 => (s.lane 0).rcv.pending.length
  | _ => s.get Reg.HIF_SATA_CRC_COUNT

/-- The limit of a limit attribute. -/
def State.smartLimit (s : State) (k : Nat) : Option Nat :=
  match k with
  | 0x05 => some (s.laneSpares 0)
  | 0xC1 => some 600000
  | 0xC5 => some 16384
  | _ => none

/-- The value of a limit attribute with a raw value; a limit of 0 leaves nothing, so it gives 1. -/
def limitValue (limit raw : Nat) : Nat := if limit = 0 then 1 else max 1 (100 - 100 * raw / limit)

/-- 100 less a temperature, floored at 1; one byte. -/
def heatValue (t : Int) : Nat := (max 1 (100 - t)).toNat

/-- The value of an attribute and its worst. -/
def State.smartValue (s : State) (k : Nat) : Nat × Nat :=
  match s.smartLimit k with
  | some l => (limitValue l (s.smartRaw k), limitValue l (if k = 0xC5 then s.hif.sata.pendingPeak else s.smartRaw k))
  | none =>
    if k = 0xC2 then (heatValue (degrees (s.get (Reg.KLN_TEMP_READING s.mediaChannel))),
                      heatValue (degrees (s.get (Reg.KLN_PEAK_MAX s.mediaChannel))))
    else (100, 100)

/-- The threshold of an attribute: of a limit attribute from the DV-40 image's SMRT block, else the value shown. -/
def State.smartThreshold (s : State) (k : Nat) : Nat :=
  if (s.smartLimit k).isNone then 0
  else
    let l := ((s.boot.image.bind fun i => i.sections.find? (·.1 == 0x10000)).map (·.2)).getD []
    let ids := (List.range 16).takeWhile fun i => u8 l (2 * i) != 0
    match ids.find? fun i => u8 l (2 * i) == k with
    | some i => u8 l (2 * i + 1)
    | none => if k = 0x05 then 10 else 0

/-- Byte 363 (R617): while a test runs, the tens of percent still to do are a free value. -/
def State.testByte (s : State) : Nat × State :=
  if s.cache.selfTest.isSome then (0xF0 + s.freeNat % 10, s.drew) else (s.hif.sata.selfTestStatus, s)

/-- SMART READ DATA; the two flag bytes of an attribute are free. -/
def State.smartData (s : State) : List Byte × State :=
  let (b, t) := s.freePage []
  let (st, u) := t.testByte
  let entry := fun (k i : Nat) =>
    leBytes 1 k ++ ((b.drop (4 + 12 * i)).take 2 : List Byte) ++ leBytes 1 (s.smartValue k).1 ++ leBytes 1 (s.smartValue k).2 ++
      leBytes 6 (min (2 ^ 48 - 1) (s.smartRaw k)) ++ zeros 1
  let l := smartIds.zipIdx.flatMap fun (k, i) => entry k i
  (summed (patch (patch b 0 (leBytes 2 0x10 ++ padTo 360 l)) 363 (leBytes 1 st)), u)

/-- SMART READ THRESHOLDS. -/
def State.smartThresholds (s : State) : List Byte × State :=
  let (b, t) := s.freePage []
  let l := smartIds.flatMap fun k => leBytes 1 k ++ leBytes 1 (s.smartThreshold k) ++ zeros 10
  (summed (patch b 0 (leBytes 2 0x10 ++ padTo 360 l)), t)

/-- A SMART command (ACS-3): LBA bits [23:8] hold 0xC24F, and SMART is enabled, or it aborts. -/
def State.smartCmd (s : State) (sub : Nat) (f : AtaFis) (run : State → Command → State) : State :=
  s.ataPlain 0xB0 sub (f.lba % 2 ^ 28) (f.count % 256) fun s c =>
    if bits f.lba 23 8 ≠ 0xC24F ∨ (sub ≠ 0xD8 ∧ !s.hif.sata.smart) then s.finish c.seq 0x002 0 else run s c

/-- SMART_READ_DATA (R615, R616). -/
def execSmartReadData (f : AtaFis) (x : Xfer) (s : State) : Host.Outcome State Fault Refusal :=
  .next <| s.smartCmd 0xD0 f fun s c =>
    let (l, t) := s.smartData
    t.sataGive c x l

/-- SMART_READ_THRESHOLDS (R615, R616). -/
def execSmartReadThresholds (f : AtaFis) (x : Xfer) (s : State) : Host.Outcome State Fault Refusal :=
  .next <| s.smartCmd 0xD1 f fun s c =>
    let (l, t) := s.smartThresholds
    t.sataGive c x l

/-- SMART_ATTRIBUTE_AUTOSAVE (R608): COUNT 0xF1 enables, 0x00 disables. -/
def execSmartAttributeAutosave (f : AtaFis) (s : State) : Host.Outcome State Fault Refusal :=
  .next <| s.smartCmd 0xD2 f fun s c =>
    if f.count % 256 = 0 ∨ f.count % 256 = 0xF1 then
      (s.setSata { s.hif.sata with autosave := f.count % 256 != 0 }).finish c.seq 0 0
    else s.finish c.seq 0x002 0

/-- The result LBA of a SMART command: 0xC24F00 as it came, 0x2CF400 for a threshold exceeded or a failed captive test. -/
def State.smartLba (s : State) (c : Command) (lba : Nat) : State :=
  s.mapCmd c.seq fun d => { d with cdw := lba :: d.cdw.drop 1 }

/-- SMART_EXECUTE_OFF_LINE_IMMEDIATE (R617): LBA bits [7:0] name the test; `checkFail` is the outcome of segment 1. -/
def execSmartExecuteOffLineImmediate (f : AtaFis) (checkFail : Bool) (s : State) : Host.Outcome State Fault Refusal :=
  .next <| s.smartCmd 0xD4 f fun s c =>
    let k := f.lba % 256
    let u := s.smartLba c 0xC24F00
    if k = 0x7F then (u.endTest 1 ((s.cache.selfTest.map (·.segment)).getD 0) none).finish c.seq 0 0
    else if (k ≠ 1 ∧ k ≠ 2 ∧ k ≠ 0x81 ∧ k ≠ 0x82) ∨ s.cache.selfTest.isSome then s.finish c.seq 0x002 0
    else if k < 0x80 then (u.finish c.seq 0 0).startTest (k == 2) 0xFFFFFFFF false none checkFail
    else (u.mapCmd c.seq fun d => { d with errLba := 0x2CF400 }).startTest (k == 0x82) 0xFFFFFFFF true (some c.seq) checkFail

/-- SMART_ENABLE_OPERATIONS (R608). -/
def execSmartEnableOperations (f : AtaFis) (s : State) : Host.Outcome State Fault Refusal :=
  .next (s.smartCmd 0xD8 f fun s c => (s.setSata { s.hif.sata with smart := true }).finish c.seq 0 0)
/-- SMART_DISABLE_OPERATIONS (R608). -/
def execSmartDisableOperations (f : AtaFis) (s : State) : Host.Outcome State Fault Refusal :=
  .next (s.smartCmd 0xD9 f fun s c => (s.setSata { s.hif.sata with smart := false }).finish c.seq 0 0)

/-- SMART_RETURN_STATUS (R616): exceeded when a limit attribute's value is at or below its threshold that is not 0. -/
def execSmartReturnStatus (f : AtaFis) (s : State) : Host.Outcome State Fault Refusal :=
  .next <| s.smartCmd 0xDA f fun s c =>
    let bad := smartIds.any fun k =>
      (s.smartLimit k).isSome && s.smartThreshold k != 0 && decide ((s.smartValue k).1 ≤ s.smartThreshold k)
    (s.smartLba c (if bad then 0x2CF400 else 0xC24F00)).finish c.seq 0 0

/-! ## DV-40 event records (R619 to R621) -/

/-- The 16 DATA bytes and CODE of a Cairn record's event (R620). -/
def State.dvEvent (s : State) (id payload : Nat) : Nat × List Byte :=
  let o := if 0x100 ≤ id ∧ id < 0x500 then id % 0x100 else 0
  let lba := match s.lbaAt (bits payload 40 0) with
    | some (_, x) => x * s.lbaUnit
    | none => 0xFFFFFFFFFFFF
  let head := pbaHead (bits payload 40 0)
  if o = 0x41 then (0x0101, padTo 16 (leBytes 6 lba ++ leBytes 1 head ++ leBytes 1 (bits payload 46 45)))
  else if o = 0x44 then (0x0102, padTo 16 (leBytes 6 lba ++ leBytes 1 head))
  else if o = 0x22 then (0x0201, padTo 16 (leBytes 2 payload))
  else if id = 0x7C1 then (0x0301, padTo 16 (leBytes 1 (bits payload 2 0) ++ leBytes 1 (bits payload 9 8)))
  else if id = 0x7D5 then (0x0401, padTo 16 (leBytes 1 (bits payload 7 4) ++ zeros 1 ++ leBytes 2 (bits payload 31 16)))
  else if id = 0x7F7 then (0x0501, padTo 16 (leBytes 4 payload))
  else (0xFFFF, padTo 16 (leBytes 2 id ++ leBytes 6 payload))

/-- A DV-40 event record of a Cairn record's 64 bytes (R619). -/
def State.dvRecord (s : State) (b : List Byte) : List Byte :=
  let (code, data) := s.dvEvent (slotId b) (field b 0x18 6)
  leBytes 4 (slotSeq b) ++ leBytes 4 (field b 8 5 / 1000) ++ leBytes 2 (field b 0xD 3) ++ leBytes 2 code ++
    leBytes 2 (flag (bit (u16 b 0x16) 1) + flag (code == 0xFFFF) * 2) ++ zeros 2 ++ data

/-- A list cut into records of 64 bytes. -/
def records64 : Nat → List Byte → List (List Byte)
  | 0, _ => []
  | fuel + 1, l => if l.isEmpty then [] else l.take 64 :: records64 fuel (l.drop 64)

/-- The committed records of the log with a good CRC, newest first. -/
def State.committed (s : State) : List (List Byte) :=
  ((records64 16384 s.logRecords).filter fun b => slotCrcOk b && decide (slotSeq b ≤ s.crn.commit)).reverse

/-- Pages of log 0xA0. -/
def dvPages (l : List (List Byte)) : Nat := ceilDiv l.length 16

/-! ## Logs (R608) -/

/-- Pages of the general-purpose logs; 0: not supported. -/
def State.gplPages (s : State) (k : Nat) : Nat :=
  if k = 0xA0 then dvPages s.committed else flag ([0x00, 0x03, 0x07, 0x10, 0xE0, 0xE1].contains k)
/-- Pages of the SMART logs. -/
def State.smartPages (s : State) (k : Nat) : Nat :=
  if k = 0xA0 then dvPages s.committed else flag ([0x00, 0x01, 0x06, 0xE0, 0xE1].contains k)

/-- Log 0x00: version 1, then the pages of each log. -/
def directory (pages : Nat → Nat) : List Byte :=
  leBytes 2 1 ++ (List.range 255).flatMap fun i => leBytes 2 (pages (i + 1))

/-- Log 0x01 and log 0x03: error count, and of each error its error register, status and operating hours. -/
def State.errorPage (s : State) (ext : Bool) : List Byte × State :=
  let x := s.hif.sata
  let l := x.errorLog.take (if ext then 4 else 5)
  let size := if ext then 124 else 90
  let first := if ext then 4 else 2
  let one := fun (e : List Byte) (i : Nat) =>
    let o := first + size * i + size - (if ext then 34 else 30)
    [(o + 1, [e.getD 2 0]), (o + (if ext then 12 else 7), [e.getD 1 0]), (o + (if ext then 32 else 28), leBytes 2 (u32 e 9))]
  let index := if l.isEmpty then 0 else 1
  let (b, t) := s.freePage ((0, leBytes 1 1) :: (if ext then (2, leBytes 2 index) else (1, leBytes 1 index)) ::
    ((if ext then 500 else 452), leBytes 2 x.errorCount) :: l.zipIdx.flatMap fun (e, i) => one e i)
  (summed b, t)

/-- Log 0x06 and log 0x07: of each test its subcommand, result, operating hours and the LBA of the first failing sector. -/
def State.testPage (s : State) (ext : Bool) : List Byte × State :=
  let l := s.cache.results.take (if ext then 19 else 21)
  let size := if ext then 26 else 24
  let first := if ext then 4 else 2
  let one := fun (e : List Byte) (i : Nat) =>
    let o := first + size * i
    let seg := u8 e 1
    let lba := if u8 e 2 = 0 then (if ext then 0xFFFFFFFFFFFF else 0xFFFFFFFF) else u64 e 16 * s.lbaUnit
    [(o, leBytes 1 (u8 e 0 / 16 + u8 e 28 * 0x80)), (o + 1, leBytes 1 (ataTestCode (u8 e 0 % 16) seg * 16)),
     (o + 2, leBytes 2 (u64 e 4)), (o + 5, leBytes (if ext then 6 else 4) lba)]
  let index := if l.isEmpty then 0 else 1
  let (b, t) := s.freePage ((0, leBytes 2 1) :: (if ext then (2, leBytes 2 index) else (508, leBytes 1 index)) ::
    l.zipIdx.flatMap fun (e, i) => one e i)
  (summed b, t)

/-- Log 0x10 (R610): the failed tag, status, error and LBA. -/
def State.ncqPage (s : State) : List Byte × State :=
  let (b, t) := s.freePage (match s.hif.sata.ncqError with
    | some (tag, st, err, lba) =>
      [(0, leBytes 1 tag), (2, leBytes 1 st ++ leBytes 1 err), (4, leBytes 3 lba), (8, leBytes 3 (lba / 2 ^ 24))]
    | none => [(0, leBytes 1 0x80)])
  (summed b, t)

/-- Log 0xE0: SCT status; before any action the last action and function are free. -/
def State.sctPage (s : State) : List Byte × State :=
  let x := s.hif.sata
  s.freePage ([(0, leBytes 2 3), (14, leBytes 2 x.sctStatus)] ++
    (match x.sctData with
     | a :: f :: _ => [(16, leBytes 2 a ++ leBytes 2 f)]
     | _ => []))

/-- `n` pages of log `k` from page `p`: `ext` for the general-purpose logs. -/
def State.ataLog (s : State) (ext : Bool) (k p n : Nat) : Option (List Byte × State) :=
  let pages := if ext then s.gplPages k else s.smartPages k
  if k = 0xA0 then
    let s1 := if p = 0 then s.setSata { s.hif.sata with snapshot := s.committed.map s.dvRecord } else s
    let l := s1.hif.sata.snapshot
    if n = 0 ∨ dvPages l < p + n then none
    else
      let (b, t) := s1.freeBytes (512 * n)
      some (patch b 0 (((l.drop (16 * p)).take (16 * n)).flatten), t)
  else if p ≠ 0 ∨ n ≠ 1 ∨ pages = 0 ∨ k = 0xE1 then none
  else
    match k with
    | 0x00 => some (directory (if ext then s.gplPages else s.smartPages), s)
    | 0x01 => some (s.errorPage false)
    | 0x03 => some (s.errorPage true)
    | 0x06 => some (s.testPage false)
    | 0x07 => some (s.testPage true)
    | 0x10 => some s.ncqPage
    | _ => some s.sctPage

/-- Reading log 0x10 lifts the lock (R610). -/
def State.ncqRead (s : State) : State := (s.setSata { s.hif.sata with ncqError := none }).put Reg.HIF_SATA_NCQ_LOCK 0

/-- A general-purpose log read: LBA bits [7:0] the log, [39:32] and [15:8] the page (ACS-3). -/
def State.readLog (s : State) (op : Nat) (f : AtaFis) (x : Xfer) : State :=
  s.ataPlain op 0 (f.lba % 2 ^ 48) (f.count % 65536) fun s c =>
    match s.ataLog true (f.lba % 256) (bits f.lba 15 8 + bits f.lba 39 32 * 256) (f.count % 65536) with
    | none => s.finish c.seq 0x002 0
    | some (l, t) => (if f.lba % 256 = 0x10 ∧ x = .ok then t.ncqRead else t).sataGive c x l

/-- READ_LOG_EXT (R608, R610, R621). -/
def execReadLogExt (f : AtaFis) (x : Xfer) (s : State) : Host.Outcome State Fault Refusal := .next (s.readLog 0x2F f x)
/-- READ_LOG_DMA_EXT (R608, R610, R621). -/
def execReadLogDmaExt (f : AtaFis) (x : Xfer) (s : State) : Host.Outcome State Fault Refusal := .next (s.readLog 0x47 f x)

/-- SMART_READ_LOG (R608). -/
def execSmartReadLog (f : AtaFis) (x : Xfer) (s : State) : Host.Outcome State Fault Refusal :=
  .next <| s.smartCmd 0xD5 f fun s c =>
    match s.ataLog false (f.lba % 256) 0 (f.count % 256) with
    | none => s.finish c.seq 0x002 0
    | some (l, t) => t.sataGive c x l

/-! ## SCT Error Recovery Control (R608, R612) -/

/-- An SCT action ends with an extended status code, its action and function recorded. -/
def State.sctEnd (s : State) (c : Command) (code action function : Nat) : State :=
  (s.setSata { s.hif.sata with sctStatus := code, sctData := [action, function] }).finish c.seq
    (if code = 0 then 0 else 0x002) 0

/-- A write of the SCT command page: action, function, selection, value. -/
def State.sctCommand (s : State) (c : Command) (d : List Byte) : State :=
  let action := u16 d 0
  let function := u16 d 2
  let sel := u16 d 4
  let v := u16 d 6
  let x := s.hif.sata
  if action ≠ 3 then s.sctEnd c 0x0001 action function
  else if function ≠ 1 ∧ function ≠ 2 then s.sctEnd c 0x0004 action function
  else if sel ≠ 1 ∧ sel ≠ 2 then s.sctEnd c 0x0005 action function
  else if function = 1 then
    (s.setSata (if sel = 1 then { x with readTimer := v } else { x with writeTimer := v })).sctEnd c 0 action function
  else
    let t := if sel = 1 then x.readTimer else x.writeTimer
    let s1 := s.setSata { x with sctStatus := 0, sctData := [action, function] }
    (s1.mapCmd c.seq fun d => { d with cdw := (t / 256) :: d.cdw.drop 1 }).finish c.seq 0 (t % 256)

/-- A log is written: only SCT commands in log 0xE0 are taken. -/
def State.writeLog (s : State) (c : Command) (k p n : Nat) (d : List Byte) (x : Xfer) : State :=
  if k ≠ 0xE0 ∨ p ≠ 0 ∨ n ≠ 1 then s.finish c.seq 0x002 0
  else if x ≠ .ok then (s.crcCount x).finish c.seq 0x004 0
  else s.sctCommand c d

/-- WRITE_LOG_EXT (R608). -/
def execWriteLogExt (f : AtaFis) (data : List Byte) (x : Xfer) (s : State) : Host.Outcome State Fault Refusal :=
  .next <| s.ataPlain 0x3F 0 (f.lba % 2 ^ 48) (f.count % 65536) fun s c =>
    s.writeLog c (f.lba % 256) (bits f.lba 15 8 + bits f.lba 39 32 * 256) (f.count % 65536) data x
/-- WRITE_LOG_DMA_EXT (R608). -/
def execWriteLogDmaExt (f : AtaFis) (data : List Byte) (x : Xfer) (s : State) : Host.Outcome State Fault Refusal :=
  .next <| s.ataPlain 0x57 0 (f.lba % 2 ^ 48) (f.count % 65536) fun s c =>
    s.writeLog c (f.lba % 256) (bits f.lba 15 8 + bits f.lba 39 32 * 256) (f.count % 65536) data x
/-- SMART_WRITE_LOG (R608). -/
def execSmartWriteLog (f : AtaFis) (data : List Byte) (x : Xfer) (s : State) : Host.Outcome State Fault Refusal :=
  .next <| s.smartCmd 0xD6 f fun s c => s.writeLog c (f.lba % 256) 0 (f.count % 256) data x

end Sys2Proof.Machine
end

