-- ==== Sys2Proof/Machine/Mover.lean ====
section
/-! DEFINITION. The block mover's registers (chapter 14): what writes to a channel do (R485, R502 to R514). -/

namespace Sys2Proof.Machine

/-- First register of a channel. -/
def chanBase (c : Nat) : Nat := 0x50000 + 0x100 * c

/-- A channel halts (R503, R504). -/
def State.chanHalt (s : State) (c : ChanIx) : State :=
  (s.put (Reg.BMV_CH_STATUS_HALTED c) 1).setMover c { s.chan c with run := .idle, abort := false }

/-- ABORT (R504): a running descriptor stops at a line boundary; a channel without one simply halts. -/
def State.chanAbort (s : State) (c : ChanIx) : State :=
  match (s.chan c).run with
  | .running _ => s.setMover c { s.chan c with abort := true }
  | _ => s.chanHalt c

/-- EN after a write of CH_CTRL (R505, R506): set, a ring channel begins its loop; cleared, it stops there. -/
def State.chanEnable (s : State) (c : ChanIx) (was : Nat) : State :=
  let now := s.get (Reg.BMV_CH_CTRL_EN c)
  let halted := s.get (Reg.BMV_CH_STATUS_HALTED c)
  if was = 0 ∧ now = 1 ∧ halted = 0 ∧ (s.chan c).run = .idle then
    if s.get (Reg.BMV_CH_CTRL_MODE c) = 0 then s.setMover c { s.chan c with run := .fetch } else s.moverNext c
  else if now = 0 ∧ (s.chan c).run = .fetch then s.setMover c { s.chan c with run := .idle }
  else s

/-- A write of BMV.CH_CTRL (R506, R510): MODE and RING_SIZE are ignored while EN is 1. -/
def State.writeChCtrl (s : State) (c : ChanIx) (v : Nat) : State :=
  let was := s.get (Reg.BMV_CH_CTRL_EN c)
  let s1 := if was = 1 then s
    else (s.put (Reg.BMV_CH_CTRL_MODE c) (bits v 25 25)).put (Reg.BMV_CH_CTRL_RING_SIZE c) (bits v 11 0)
  let s2 := (s1.put (Reg.BMV_CH_CTRL_WAIT_TRIG c) (bits v 26 26)).put (Reg.BMV_CH_CTRL_EN c) (bits v 24 24)
  let s3 := s2.chanEnable c was
  let s4 := if bit v 30 then s3.trigger c else s3
  if bit v 31 then s4.chanAbort c else s4

/-- A write of BMV.CH_STATUS (R502, R506): 1 in HALTED resumes a halted channel, which is a trigger. -/
def State.writeChStatus (s : State) (c : ChanIx) (v : Nat) : State :=
  if bit v 28 ∧ s.get (Reg.BMV_CH_STATUS_HALTED c) = 1 then (s.put (Reg.BMV_CH_STATUS_HALTED c) 0).trigger c |>.moverNext c
  else s

/-- A write of BMV.CH_RING_LO (R506, R512): HEAD becomes 0; ignored while EN is 1. -/
def State.writeRingLo (s : State) (c : ChanIx) (v : Nat) : State :=
  if s.get (Reg.BMV_CH_CTRL_EN c) = 1 then s
  else (s.put (Reg.BMV_CH_RING_LO_BASE_LO c) (v / 32)).put (Reg.BMV_CH_STATUS_HEAD c) 0

/-- A write of BMV.CH_RING_HI (R506, R512): only spaces 0x0 and 0x1. -/
def State.writeRingHi (s : State) (c : ChanIx) (v : Nat) : State :=
  if s.get (Reg.BMV_CH_CTRL_EN c) = 1 ∨ 1 < bits v 15 12 then s else s.put (Reg.BMV_CH_RING_HI_BASE_HI c) (bits v 15 0)

/-- A write of shadow register `k` (R508, R514): ignored while ARM is 1; ARM, written last, may start the descriptor. -/
def State.writeShadow (s : State) (c : ChanIx) (k v : Nat) : State :=
  if s.get (Reg.BMV_SH_CTL_ARM c) = 1 then s
  else
    let s1 := s.storeRw (chanBase c + 0x40 + 4 * k) v
    if k = 0 ∧ bit v 31 then (s1.put (Reg.BMV_SH_CTL_ARM c) 1).moverNext c else s1

/-- Whether a port or the sideband may write the registers of a channel, and the SRAM at an offset (R485, R490). -/
def chanOpen (c : Nat) : Bool := decide (12 ≤ c)
/-- The half of the SRAM that is not the ROM routines'. -/
def sramOpen (o : Nat) : Bool := decide (0x4000 ≤ o)

/-- Store bytes in the SRAM. -/
def State.sramWrite (s : State) (o : Nat) (l : List Byte) : State :=
  { s with mover := { s.mover with sram := Memory.write bufDefault s.mover.sram o l } }

end Sys2Proof.Machine
end

