-- ==== Sys2Proof/Machine/Window.lean ====
section
/-! DEFINITION. The register window as its requesters see it (chapters 1 and 22): absent units (R37 to R40, R721, R722), reads
with their side effects and captures (R8, R12), writes with the rules of each register (R8 to R10), and the gate of R99. -/

namespace Sys2Proof.Machine

/-! ## Requesters -/

/-- Who makes a register access: a requester of R719, or the block mover (R489), numbered 10 for captures. -/
inductive Master where
  | req (r : Requester)
  | mover
  deriving DecidableEq, Repr

/-- The number of a master. -/
def Master.index : Master → Nat
  | .req r => reqIndex r
  | .mover => 10

/-- Whether it is a port or the sideband, whom R485, R490 and R716 hold off. -/
def Master.outside : Master → Bool
  | .req (.port _) => true
  | .req .sideband => true
  | _ => false

/-- SOURCE of an absent access (R39). -/
def Master.source : Master → Nat
  | .req (.port p) => p.val
  | .req .sideband => 2
  | _ => 3

/-! ## Absent units (R37, R721, R722) -/

/-- Whether an offset lies inside an absent unit's window, or is a register of one. -/
def State.absentAt (s : State) (off : Nat) : Bool :=
  if 0x100000 ≤ off ∧ off < 0x200000 then
    let n := (off - 0x100000) / 0x40000
    let o := (off - 0x100000) % 0x40000
    !s.present n || (decide (s.fuses.variant = .s) && (o == 0x38 || o == 0x48))
  else
    match locate off with
    | none => false
    | some r =>
      match r.row.name with
      | .EVT_ROUTE => s.absentEvent r.ix
      | .EVT_Q_STATUS => decide (r.ix < 7) && !s.seqPresent r.ix
      | .EVT_Q_CTRL => decide (r.ix < 7) && !s.seqPresent r.ix
      | .EVT_Q_DROPS => decide (r.ix < 7) && !s.seqPresent r.ix
      | .SEQ_PC => !s.seqPresent r.ix
      | .SEQ_SAFEPT => !s.seqPresent r.ix
      | .SEQ_FAULT => !s.seqPresent r.ix
      | .SEQ_PRIV_LOST => !s.present r.ix
      | .SEQ_MATCH => !s.seqPresent (r.ix / 32)
      | .CACHE_SCHED => !s.present r.ix
      | .HIF_PORT => !s.portPresent r.ix
      | .LKO_LANE => !s.present r.ix
      | .LKO_CNT_WG_CUT => !s.present r.ix
      | _ => false

/-- An absent access (R38 to R40, R726): counted, shown and reported. -/
def State.absentAccess (s : State) (m : Master) (write : Bool) (off : Nat) : State :=
  let p := off % 2 ^ 22 + flag write * 2 ^ 22 + m.source * 2 ^ 24
  ((s.bump Reg.GLB_ABSENT_CNT_COUNT 1).setReg 0x24 (BitVec.ofNat 32 p)).raise 0x00F p

/-! ## Reading -/

/-- The registers that show the upper half of a value captured by their LO register (R12, R204). -/
def RegName.isHi : RegName → Bool
  | .IMG_SEQ_HI => true
  | .EVT_TQ_POP_HI => true
  | .BMV_CH_CRC_HI => true
  | .HIF_FETCH_SEQ_HI => true
  | .CRN_LAST_SEQ_HI => true
  | .CRN_COMMIT_HI => true
  | .CRN_BREAK_HI => true
  | .CRN_OPTIME_HI => true
  | .CRN_NONCE_HI => true
  | .CHN_MARGIN_BITS_HI => true
  | .SEK_POS_HI => true
  | _ => false

/-- The LO registers of the pairs that software or a take-over writes (R512, R514). -/
def RegName.isRwLo : RegName → Bool
  | .BMV_CH_RING_LO => true
  | .BMV_SH_SRC_LO => true
  | .BMV_SH_DST_LO => true
  | .BMV_SH_SEED_LO => true
  | .BMV_ACT_SRC_LO => true
  | .BMV_ACT_DST_LO => true
  | .BMV_ACT_SEED_LO => true
  | _ => false

/-- Their HI registers. -/
def RegName.isRwHi : RegName → Bool
  | .BMV_CH_RING_HI => true
  | .BMV_SH_SRC_HI => true
  | .BMV_SH_DST_HI => true
  | .BMV_SH_SEED_HI => true
  | .BMV_ACT_SRC_HI => true
  | .BMV_ACT_DST_HI => true
  | .BMV_ACT_SEED_HI => true
  | _ => false

/-- The other LO registers, but for the telemetry alias. -/
def RegName.isLo : RegName → Bool
  | .IMG_SEQ_LO => true
  | .BMV_CH_CRC_LO => true
  | .HIF_FETCH_SEQ_LO => true
  | .CRN_LAST_SEQ_LO => true
  | .CRN_COMMIT_LO => true
  | .CRN_BREAK_LO => true
  | .CRN_OPTIME_LO => true
  | .CRN_NONCE_LO => true
  | .CHN_MARGIN_BITS_LO => true
  | .SEK_POS_LO => true
  | _ => false

/-- The capture of a pair of R512 or R514, with the mark that there is one: its HI register shows its own content to a requester that
has not read the LO register yet (log entry 165). -/
def State.captureRw (s : State) (m : Master) (off v : Nat) : State :=
  (s.capture m.index off v).capture m.index (off + 1) (2 ^ 32)

/-- The whole value of a LO and HI pair. -/
def State.pair (s : State) (name : RegName) (off : Nat) : Nat :=
  (s.wide name).getD ((s.reg off).toNat + (s.reg (off + 4)).toNat * 2 ^ 32)

/-- An access reaches a block that may be gated, and wakes it (R126). -/
def State.wakeAt (s : State) (off : Nat) : State :=
  if 0x100000 ≤ off ∧ off < 0x200000 then
    let n : Lane := ⟨(off - 0x100000) / 0x40000 % 4, Nat.mod_lt _ (by decide)⟩
    match (off - 0x100000) % 0x40000 / 0x10000 with
    | 0 => s.wake (.chn n)
    | 1 => s.wake (.fmt n)
    | _ => s
  else if 0x50000 ≤ off ∧ off < 0x60000 then s.wake .bmv
  else if off = 0x70000 ∨ off = 0x70200 ∨ off = 0x70204 then s.wake (.hif 0)
  else if off = 0x70100 then s.wake (.hif 1)
  else s

/-- Clear the RC fields of a register that was read (R8); counters that KS totals (R547, R548) add to their totals. -/
def State.clearRead (s : State) (r : Located) (off : Nat) : State :=
  if r.row.fields.any (·.ty == .rc) then
    let total := Sparse.get (fun _ => 0) s.hif.totals off + (s.reg off).toNat
    let s1 := if r.row.lane ∨ (0x40100 ≤ off ∧ off < 0x4011C) then
        s.setHif { s.hif with totals := Sparse.set (fun _ => 0) s.hif.totals off total } else s
    r.row.fields.foldl (fun s f => if f.ty = .rc then s.put ⟨off, f.hi, f.lo⟩ 0 else s) s1
  else s

/-- The empty marker of the telemetry alias (R203). -/
def emptyMarker : Nat := 0x8000

/-- One register read at a dword offset: the value and the state after it. A telemetry read that finds the queue empty
returns the empty marker. -/
def State.readReg (s : State) (m : Master) (off : Nat) : Nat × State :=
  if s.absentAt off then (0, s.absentAccess m false off)
  else
    match locate off with
    | none => (0, s)
    | some r =>
      let s1 := s.wakeAt off
      match r.row.name with
      | .EVT_TQ_POP_LO =>
        match s1.popQueue 7 with
        | some (i, s2) => (i.word % 2 ^ 32, s2.capture m.index off i.word)
        | none => (emptyMarker, s1.capture m.index off emptyMarker)
      | .HIF_SATA => if s.boot.compat then (s1.show r off, s1) else (0, s1)
      | .HIF_SATA_CRC => if s.boot.compat then (s1.show r off, s1) else (0, s1)
      | name =>
        if name.isHi then (s1.captured m.index (off - 4), s1)
        else if name.isLo then (s1.pair name off % 2 ^ 32, s1.capture m.index off (s1.pair name off))
        else if name.isRwLo then (s1.pair name off % 2 ^ 32, s1.captureRw m off (s1.pair name off))
        else if name.isRwHi ∧ s1.captured m.index (off - 3) = 1 then (s1.captured m.index (off - 4), s1)
        else (s1.show r off, s1.clearRead r off)

/-! ## Writing -/

/-- Whether R182 and R183 reserve a routing word on this die. -/
def State.routeReserved (s : State) (w : Nat) : Bool :=
  match bits w 13 12 with
  | 0 => bits w 11 0 != 0
  | 1 => bits w 9 3 != 0 || (decide (bits w 2 0 < 7) && !s.seqPresent (bits w 2 0))
  | 2 => !s.portPresent (bits w 11 11)
  | _ => bits w 11 4 != 0

/-- A write of EVT.ROUTE_i (R188, R209). -/
def State.writeRoute (s : State) (i v : Nat) : State :=
  if bit (s.reg (0x10000 + 4 * i)).toNat 16 ∨ s.routeReserved (v % 65536) then s else s.put (Reg.EVT_ROUTE_WORD i) (v % 65536)

/-- The plain effect of R8 on the fields of a register: RW fields store what R10 accepts, RW1C bits clear; RWL fields take
nothing from a write, which the gate of R99 keeps out before the lock. -/
def State.writePlain (s : State) (r : Located) (off v : Nat) : State :=
  r.row.fields.foldl (fun s f =>
    if f.ty = .rw1c then s.put ⟨off, f.hi, f.lo⟩ (bits (s.reg off).toNat f.hi f.lo - (bits (s.reg off).toNat f.hi f.lo).land (bits v f.hi f.lo))
    else s) (s.storeRw off v)

/-- A write of PWR.AVS_CTRL (R133): VMIN not above VMAX. -/
def State.writeAvs (s : State) (v : Nat) : State :=
  let s1 := if 600 ≤ bits v 25 16 ∧ bits v 25 16 ≤ 800 then s.put Reg.PWR_AVS_CTRL_VMAX (bits v 25 16) else s
  if 600 ≤ bits v 9 0 ∧ bits v 9 0 ≤ s1.get Reg.PWR_AVS_CTRL_VMAX then s1.put Reg.PWR_AVS_CTRL_VMIN (bits v 9 0) else s1

/-- A write of CHN.MARGIN_CTRL (R252, R264). SECTORS is stored also while RUN is 1, and the running measurement ends at the new number (log
entry 175). -/
def State.writeMargin (s : State) (n : Lane) (off v : Nat) : State :=
  let s1 := s.storeRw off v
  let s2 := if bit v 31 then s1.marginStart n else s1
  if bit v 30 then s2.put (Reg.CHN_MARGIN_CTRL_RUN n) 0 else s2

/-- A write of FMT.WRITE_CTRL (R297): it is ignored where WG_LEAD and WG_TRAIL, as written or as they would then stand, exceed 64. -/
def State.writeWriteCtrl (s : State) (r : Located) (off v : Nat) : State :=
  let t := s.writePlain r off v
  if 64 < bits v 13 8 + bits v 5 0 ∨ 64 < t.get ⟨off, 13, 8⟩ + t.get ⟨off, 5, 0⟩ then s else t

/-- A write of SVE.CTRL (R357, R366): ARM counts only where AUTO was 0 already. -/
def State.writeServoCtrl (s : State) (n : Lane) (off v : Nat) : State :=
  (if bit v 0 then s.writeArm n else s).storeRw off v

/-- The bits of byte `o` of a law block that are not reserved (R351, R352). -/
def lawByteMask (o : Nat) : Nat :=
  if o = 1 then 3
  else if (0xC ≤ o ∧ o < 0x10) ∨ (0x10 ≤ o ∧ (o - 0x10) % 12 = 11) then 0
  else 0xFF

/-- The bits of byte `k` of a servo bank that are not reserved (R350 to R352). -/
def servoByteMask (k : Nat) : Nat :=
  if k < 0xA0 then lawByteMask k
  else if k < 0x140 then lawByteMask (k - 0xA0)
  else if k = 0x151 then 1
  else if (0x147 ≤ k ∧ k < 0x150) ∨ (0x152 ≤ k ∧ k < 0x158) ∨ (0x158 ≤ k ∧ k < 0x170 ∧ (k - 0x158) % 12 = 11) ∨
      (0x175 ≤ k ∧ k < 0x180) ∨ 0x18D ≤ k then 0
  else 0xFF

/-- Four bytes of a servo bank from byte `4k` on, with the reserved bits 0 (R9). -/
def servoBytes (k v : Nat) : List Byte :=
  (leBytes 4 v).zipIdx.map fun (b, i) => b &&& BitVec.ofNat 8 (servoByteMask (4 * k + i))

/-- A write of SVE.SHADOW_k (R357): ignored while AUTO is 1. Reserved bits are ignored (R9); a value outside the ranges of R350 to R352 is
stored as it is written, since the spec has only the image checked for them (R353; log entry 174). -/
def State.writeServoShadow (s : State) (n : Lane) (k v : Nat) : State :=
  if s.get (Reg.SVE_CTRL_AUTO n) = 1 then s
  else
    let x := (s.lane n).sve
    s.setSve n { x with shadow := x.shadow.take (4 * k) ++ servoBytes k v ++ x.shadow.drop (4 * k + 4) }

/-- A write of SEK.CMD by LSn (R390, R398): the command is queued and GO clears when SEK takes it. With GO 1 and a reserved ACTION, the old
ACTION stays (R10), GO is not set and no command starts (log entry 148). -/
def State.writeSekCmd (s : State) (n : Lane) (off v : Nat) : State :=
  let s1 := s.storeRw off v
  if bit v 31 ∧ 1 ≤ bits v 30 28 ∧ bits v 30 28 ≤ 3 ∧ s.used n.val then
    s1.sekCommand n ⟨bits v 30 28, bits v 26 24, bits v 21 0⟩
  else s1

/-- A write of SBD.GATE (R712, R716): not from the sideband; BAR2 writes that open or close the gate raise SBD_GATE. The
time-out counts from here. -/
def State.writeGate (s : State) (m : Master) (off v : Nat) : State :=
  match m with
  | .req .sideband => s
  | _ =>
    let was := s.get Reg.SBD_GATE_OPEN
    let s1 := s.storeRw off v
    match m with
    | .req (.port p) => if was = bits v 31 31 then s1 else s1.raise 0x7FC (bits v 31 31 + p.val * 2)
    | _ => s1

/-- What the preamp would answer to a frame that no command describes: a free value (log entry 1). -/
def State.freeAnswer (s : State) : PspAnswer × State :=
  let f := s.freeNat
  (⟨bits f 15 0, bits f 39 32, bits f 31 16, bits f 47 40⟩, s.drew)

/-- One register write at a dword offset; `answers` are the preamp's, where the write runs a frame to it. -/
def State.writeReg (s : State) (m : Master) (off v : Nat) (answers : Option (PspAnswer × PspAnswer)) : State :=
  if s.absentAt off then s.absentAccess m true off
  else
    match locate off with
    | none => s
    | some r =>
      let s1 := s.wakeAt off
      let n : Lane := ⟨r.lane % 4, Nat.mod_lt _ (by decide)⟩
      let c : ChanIx := ⟨r.ix % 16, Nat.mod_lt _ (by decide)⟩
      let chan := fun (t : State) => if m.outside ∧ !chanOpen r.ix then s1 else t
      match r.row.name with
      | .EVT_ROUTE => s1.writeRoute r.ix v
      | .EVT_Q_STATUS => (s1.writePlain r off v).rearm ⟨r.ix % 8, Nat.mod_lt _ (by decide)⟩
      | .EVT_Q_CTRL => (s1.writePlain r off v).rearm ⟨r.ix % 8, Nat.mod_lt _ (by decide)⟩
      | .BUF_DEAD_REQ => (s1.writeDeadReq v).1
      | .BUF_RETIRE_REQ => (s1.writeRetireReq v).1
      | .BUF_INJECT => s1.writeInject v
      | .BMV_CH_CTRL => chan (s1.writeChCtrl c v)
      | .BMV_CH_STATUS => chan (s1.writeChStatus c v)
      | .BMV_CH_RING_LO => chan (s1.writeRingLo c v)
      | .BMV_CH_RING_HI => chan (s1.writeRingHi c v)
      | .BMV_SH_CTL => chan (s1.writeShadow c 0 v)
      | .BMV_SH_LEN => chan (s1.writeShadow c 1 v)
      | .BMV_SH_SRC_LO => chan (s1.writeShadow c 2 v)
      | .BMV_SH_SRC_HI => chan (s1.writeShadow c 3 v)
      | .BMV_SH_DST_LO => chan (s1.writeShadow c 4 v)
      | .BMV_SH_DST_HI => chan (s1.writeShadow c 5 v)
      | .BMV_SH_SEED_LO => chan (s1.writeShadow c 6 v)
      | .BMV_SH_SEED_HI => chan (s1.writeShadow c 7 v)
      | .BMV_SRAM => if m.outside ∧ !sramOpen (4 * r.ix) then s1 else s1.sramWrite (4 * r.ix) (leBytes 4 v)
      | .WHL_OVERRIDE => s1.writeOverride v
      | .WHL_REG_ACCESS => s1.writeRegAccess v
      | .CRN_FLUSH => s1.writeFlush v
      | .SBD_GATE => s1.writeGate m off v
      | .PWR_AVS_CTRL => s1.writeAvs v
      | .CHN_MARGIN_CTRL => s1.writeMargin n off v
      | .FMT_WRITE_CTRL => s1.writeWriteCtrl r off v
      | .FMT_PSP_ACCESS =>
        match answers with
        | some (a, b) => s1.pspAccess n v a b
        | none => (s1.freeAnswer).2.pspAccess n v (s1.freeAnswer).1 (s1.freeAnswer).1
      | .SVE_CTRL => s1.writeServoCtrl n off v
      | .SVE_TF_OFFSET => s1.writeOffset n v
      | .SVE_INJ_CTRL => s1.writeInjCtrl n v
      | .SVE_CAP_CTRL => s1.writeCapCtrl n v
      | .SVE_INJ_FREQ => if s.get (Reg.SVE_INJ_CTRL_RUN n) = 1 then s1 else s1.writePlain r off v
      | .SVE_INJ_SWEEP => if s.get (Reg.SVE_INJ_CTRL_RUN n) = 1 then s1 else s1.writePlain r off v
      | .SVE_SHADOW => s1.writeServoShadow n r.ix v
      | .SEK_CMD => if m = .req (.seq (laneSeq n)) then s1.writeSekCmd n off v else s1
      | _ => s1.writePlain r off v

/-! ## Reaching the window (R99, R712, R718, R719) -/

/-- Whether BAR2 of a port reaches the chip at all: native mode, a port on the die, its function in D0. -/
def State.barOpen (s : State) (p : Port) : Bool := s.powered && s.portPresent p && !s.boot.compat && !s.hif.ports[p].d3hot

/-- Whether the sideband may read a register (R712). -/
def State.sidebandReads (s : State) (off : Nat) : Bool :=
  s.get Reg.SBD_GATE_OPEN == 1 || s.held || s.boot.compat || off == 0xC0000 || off == 0xC0004 ||
    (decide (0x12000 ≤ off) && decide (off < 0x12100))

/-- Whether the sideband may write. -/
def State.sidebandWrites (s : State) : Bool := s.get Reg.SBD_GATE_OPEN == 1 && !s.held && !s.boot.compat

/-- A dword offset of the window. -/
def dword (off : Nat) : Nat := off % 2 ^ 22 / 4 * 4

/-- A register write by a requester; one that the lock or the gate keeps out changes nothing. -/
def State.busWrite (s : State) (r : Requester) (off v : Nat) (answers : Option (PspAnswer × PspAnswer)) : State :=
  let go : Bool := match r with
    | .port p => s.barOpen p && s.locked
    | .sideband => s.powered && s.locked && s.sidebandWrites
    | .seq q => s.powered && decide ((s.seq q).run ≠ .off)
  if go then s.writeReg (.req r) (dword off) v answers else s

/-- A register read by a requester: the value goes back to it. Before the lock BAR2 reads 0 (R99); a telemetry read that finds the
queue empty waits (R203). -/
def State.busRead (s : State) (r : Requester) (off : Nat) : State :=
  let read := fun (s : State) =>
    if dword off = tqPopLo ∧ (s.queue 7).depth = 0 then { s with tqWait := s.tqWait ++ [r] }
    else
      let (v, t) := s.readReg (.req r) (dword off)
      t.emit (.readData r (BitVec.ofNat 32 v))
  match r with
  | .port p =>
    if !s.barOpen p then s
    else if !s.locked then s.emit (.readData r 0)
    else read s
  | .sideband =>
    if s.powered ∧ s.locked ∧ s.sidebandReads (dword off) then read s else s
  | .seq q => if s.powered ∧ (s.seq q).run ≠ .off then read s else s

end Sys2Proof.Machine
end

