-- ==== Sys2Proof/Machine/Access.lean ====
section
/-! DEFINITION. The commands that are one register access: writes of registers with an action of their own, counters and wide
values read, and the malformed requests of R718. -/

namespace Sys2Proof.Machine

/-- Base of a lane's window (R717). -/
def laneBase (n : Lane) : Nat := 0x100000 + 0x40000 * n.val

/-- A register's value with some of its bits given. -/
def State.regWith (s : State) (off hi lo v : Nat) : Nat := setBits (s.reg off).toNat hi lo v

/-! ## Writes -/

/-- REGISTER_WINDOW_WRITE (R8 to R10, R98, R99). -/
def execRegisterWindowWrite (r : Requester) (off : Nat) (v : Word) (s : State) : Host.Outcome State Fault Refusal :=
  .next (s.busWrite r off v.toNat none)

/-- Q_STATUS_WRITE (R206, R211). -/
def execQStatusWrite (r : Requester) (q : QIx) (v : Word) (s : State) : Host.Outcome State Fault Refusal :=
  .next (s.busWrite r (0x13000 + 0x20 * q.val) v.toNat none)

/-- MARGIN_RUN (R251, R264): CHN.MARGIN_CTRL written with RUN. -/
def execMarginRun (n : Lane) (r : Requester) (v : Word) (s : State) : Host.Outcome State Fault Refusal :=
  .next (s.busWrite r (laneBase n + 0xC0) (setBits v.toNat 31 30 2) none)

/-- MARGIN_ABORT (R252, R264): CHN.MARGIN_CTRL written with ABORT, SECTORS as it stands. -/
def execMarginAbort (n : Lane) (r : Requester) (s : State) : Host.Outcome State Fault Refusal :=
  .next (s.busWrite r (laneBase n + 0xC0) (s.regWith (laneBase n + 0xC0) 31 30 1) none)

/-- PSP_ACCESS_GO (R299): FMT.PSP_ACCESS written with GO; `a` and `retry` are what the preamp answers. -/
def execPspAccessGo (n : Lane) (r : Requester) (v : Word) (a retry : PspAnswer) (s : State) :
    Host.Outcome State Fault Refusal :=
  .next (s.busWrite r (laneBase n + 0x10020) (setBits v.toNat 31 31 1) (some (a, retry)))

/-- SVE_ARM (R356, R357): SVE.CTRL written with ARM, AUTO as it stands. -/
def execSveArm (n : Lane) (r : Requester) (s : State) : Host.Outcome State Fault Refusal :=
  .next (s.busWrite r (laneBase n + 0x20000) (s.regWith (laneBase n + 0x20000) 0 0 1) none)

/-- TF_OFFSET_WRITE (R348, R370). -/
def execTfOffsetWrite (n : Lane) (r : Requester) (v : Word) (s : State) : Host.Outcome State Fault Refusal :=
  .next (s.busWrite r (Reg.SVE_TF_OFFSET_OFFSET n).off v.toNat none)

/-- INJ_RUN (R362, R373): SVE.INJ_CTRL written with RUN. -/
def execInjRun (n : Lane) (r : Requester) (v : Word) (s : State) : Host.Outcome State Fault Refusal :=
  .next (s.busWrite r (laneBase n + 0x20040) (setBits v.toNat 31 30 2) none)

/-- INJ_STOP (R362, R373): SVE.INJ_CTRL written with STOP; the generator ends at the next sample boundary. -/
def execInjStop (n : Lane) (r : Requester) (s : State) : Host.Outcome State Fault Refusal :=
  .next (s.busWrite r (laneBase n + 0x20040) (s.regWith (laneBase n + 0x20040) 31 30 1) none)

/-- CAP_GO (R363, R375): SVE.CAP_CTRL written with GO. -/
def execCapGo (n : Lane) (r : Requester) (v : Word) (s : State) : Host.Outcome State Fault Refusal :=
  .next (s.busWrite r (laneBase n + 0x20060) (setBits v.toNat 31 30 2) none)

/-- CAP_ABORT (R363, R375): SVE.CAP_CTRL written with ABORT. -/
def execCapAbort (n : Lane) (r : Requester) (s : State) : Host.Outcome State Fault Refusal :=
  .next (s.busWrite r (laneBase n + 0x20060) (s.regWith (laneBase n + 0x20060) 31 30 1) none)

/-- REG_ACCESS_GO (R441): WHL.REG_ACCESS written with GO. -/
def execRegAccessGo (r : Requester) (v : Word) (s : State) : Host.Outcome State Fault Refusal :=
  .next (s.busWrite r 0x80030 (setBits v.toNat 31 31 1) none)

/-- WHL_OVERRIDE_WRITE (R430, R438). -/
def execWhlOverrideWrite (r : Requester) (v : Word) (s : State) : Host.Outcome State Fault Refusal :=
  .next (s.busWrite r 0x8000C v.toNat none)

/-- DEAD_REQ (R455, R477): BUF.DEAD_REQ written with GO. -/
def execDeadReq (r : Requester) (v : Word) (s : State) : Host.Outcome State Fault Refusal :=
  .next (s.busWrite r 0x40008 (setBits v.toNat 31 31 1) none)

/-- RETIRE_REQ (R469, R481): BUF.RETIRE_REQ written with GO. -/
def execRetireReq (r : Requester) (v : Word) (s : State) : Host.Outcome State Fault Refusal :=
  .next (s.busWrite r 0x40134 (setBits v.toNat 31 31 1) none)

/-- BUF_INJECT_ARM (R484): BUF.INJECT written with ARM. -/
def execBufInjectArm (r : Requester) (v : Word) (s : State) : Host.Outcome State Fault Refusal :=
  .next (s.busWrite r 0x40160 (setBits v.toNat 31 31 1) none)

/-- CRN_FLUSH_GO (R684, R700): CRN.FLUSH written with GO. -/
def execCrnFlushGo (r : Requester) (s : State) : Host.Outcome State Fault Refusal := .next (s.busWrite r 0xB0038 (2 ^ 31) none)

/-- SBD_GATE_WRITE (R712, R716): a BAR2 write of SBD.GATE. -/
def execSbdGateWrite (p : Port) (v : Word) (s : State) : Host.Outcome State Fault Refusal :=
  .next (s.busWrite (.port p) 0xC0008 v.toNat none)

/-- GATE_TIMEOUT (R714, R716): TIMEOUT_S passed without a sideband register command; 0 never closes. -/
def execGateTimeout (s : State) : Host.Outcome State Fault Refusal :=
  .next <|
    if s.powered ∧ s.get Reg.SBD_GATE_OPEN = 1 ∧ s.get Reg.SBD_GATE_TIMEOUT_S ≠ 0 then
      (s.put Reg.SBD_GATE_OPEN 0).raise 0x7FC 4
    else s

/-- BMV_KICK (R506, R510): CH_CTRL written with KICK, its other fields as they stand. -/
def execBmvKick (c : ChanIx) (r : Requester) (s : State) : Host.Outcome State Fault Refusal :=
  .next (s.busWrite r (chanBase c) (s.regWith (chanBase c) 31 30 1) none)

/-- BMV_ABORT (R504, R510): CH_CTRL written with ABORT, its other fields as they stand. -/
def execBmvAbort (c : ChanIx) (r : Requester) (s : State) : Host.Outcome State Fault Refusal :=
  .next (s.busWrite r (chanBase c) (s.regWith (chanBase c) 31 30 2) none)

/-- BMV_ENABLE_WRITE (R505, R506, R510): CH_CTRL written without KICK and ABORT. -/
def execBmvEnableWrite (c : ChanIx) (r : Requester) (v : Word) (s : State) : Host.Outcome State Fault Refusal :=
  .next (s.busWrite r (chanBase c) (setBits v.toNat 31 30 0) none)

/-- BMV_RESUME (R502, R511): CH_STATUS written with 1 in HALTED. -/
def execBmvResume (c : ChanIx) (r : Requester) (s : State) : Host.Outcome State Fault Refusal :=
  .next (s.busWrite r (chanBase c + 4) (2 ^ 28) none)

/-- BMV_RING_LO_WRITE (R506, R512). -/
def execBmvRingLoWrite (c : ChanIx) (r : Requester) (v : Word) (s : State) : Host.Outcome State Fault Refusal :=
  .next (s.busWrite r (chanBase c + 8) v.toNat none)

/-- BMV_SHADOW_ARM (R507, R508, R514): SH_CTL written with ARM. -/
def execBmvShadowArm (c : ChanIx) (r : Requester) (v : Word) (s : State) : Host.Outcome State Fault Refusal :=
  .next (s.busWrite r (chanBase c + 0x40) (setBits v.toNat 31 31 1) none)

/-! ## Reads -/

/-- TQ_POP_LO_READ (R203, R204). -/
def execTqPopLoRead (r : Requester) (s : State) : Host.Outcome State Fault Refusal := .next (s.busRead r tqPopLo)

/-- TQ_POP_TIMEOUT (R203): a telemetry read that waited 10 µs returns the empty marker. -/
def execTqPopTimeout (r : Requester) (s : State) : Host.Outcome State Fault Refusal :=
  .next <|
    if s.tqWait.contains r then ({ s with tqWait := s.tqWait.erase r }).answerTelemetry r emptyMarker else s

/-- LO_REGISTER_READ (R12): only offsets of LO registers. -/
def execLoRegisterRead (r : Requester) (off : Nat) (s : State) : Host.Outcome State Fault Refusal :=
  .next <|
    match locate (dword off) with
    | some l => if l.row.name.isLo || l.row.name.isRwLo then s.busRead r off else s
    | none => s

/-- ABSENT_ACCESS (R37 to R40, R721, R722): only absent addresses. -/
def execAbsentAccess (r : Requester) (off : Nat) (write : Bool) (v : Word) (s : State) : Host.Outcome State Fault Refusal :=
  .next <|
    if !s.absentAt (dword off) then s
    else if write then s.busWrite r off v.toNat none
    else s.busRead r off

/-- ABSENT_CNT_READ (R40). -/
def execAbsentCntRead (r : Requester) (s : State) : Host.Outcome State Fault Refusal := .next (s.busRead r 0x20)
/-- PRIV_LOST_READ (R175). -/
def execPrivLostRead (r : Requester) (n : Lane) (s : State) : Host.Outcome State Fault Refusal :=
  .next (s.busRead r (0x2000C + 0x40 * n.val))
/-- Q_DROPS_READ (R213). -/
def execQDropsRead (r : Requester) (q : QIx) (s : State) : Host.Outcome State Fault Refusal :=
  .next (s.busRead r (0x13008 + 0x20 * q.val))

/-- Where counter `k` of CHN lies: the counters of R250 in order, then the margin results of R265, which reading does not
clear. -/
def chnCounter (k : Nat) : Nat :=
  if k < 6 then 0x60 + 4 * k else if k < 22 then 0x80 + 4 * (k - 6) else 0xC4 + 4 * (k - 22)

/-- CHN_COUNTER_READ (R250, R263, R265). -/
def execChnCounterRead (r : Requester) (n : Lane) (k : Fin 26) (s : State) : Host.Outcome State Fault Refusal :=
  .next (s.busRead r (laneBase n + chnCounter k))
/-- FMT_COUNTER_READ (R298). -/
def execFmtCounterRead (r : Requester) (n : Lane) (k : Fin 4) (s : State) : Host.Outcome State Fault Refusal :=
  .next (s.busRead r (laneBase n + 0x10010 + 4 * k.val))
/-- RCV_COUNTER_READ (R325). -/
def execRcvCounterRead (r : Requester) (n : Lane) (k : Fin 18) (s : State) : Host.Outcome State Fault Refusal :=
  .next (s.busRead r (laneBase n + 0x140 + 4 * k.val))
/-- SVE_COUNTER_READ (R372). -/
def execSveCounterRead (r : Requester) (n : Lane) (k : Fin 4) (s : State) : Host.Outcome State Fault Refusal :=
  .next (s.busRead r (laneBase n + 0x20020 + 4 * k.val))
/-- SEK_COUNTER_READ (R403). -/
def execSekCounterRead (r : Requester) (n : Lane) (k : Fin 5) (s : State) : Host.Outcome State Fault Refusal :=
  .next (s.busRead r (laneBase n + 0x30020 + 4 * k.val))
/-- WHL_COUNTER_READ (R440). -/
def execWhlCounterRead (r : Requester) (k : Fin 4) (s : State) : Host.Outcome State Fault Refusal :=
  .next (s.busRead r (0x80020 + 4 * k.val))
/-- BUF_COUNTER_READ (R479). -/
def execBufCounterRead (r : Requester) (k : Fin 7) (s : State) : Host.Outcome State Fault Refusal :=
  .next (s.busRead r (0x40100 + 4 * k.val))
/-- SLOT_PEAK_READ (R554). -/
def execSlotPeakRead (r : Requester) (s : State) : Host.Outcome State Fault Refusal := .next (s.busRead r 0x71004)
/-- CNT_WG_CUT_READ (R673). -/
def execCntWgCutRead (r : Requester) (n : Lane) (s : State) : Host.Outcome State Fault Refusal :=
  .next (s.busRead r (0xA0040 + 4 * n.val))
/-- CNT_MCTP_ERR_READ (R716). -/
def execCntMctpErrRead (r : Requester) (s : State) : Host.Outcome State Fault Refusal := .next (s.busRead r 0xC0010)

/-! ## Malformed requests (R718, R728) -/

/-- PARTIAL_WRITE: a dword with some but not all of its bytes enabled is ignored and reported. -/
def execPartialWrite (p : Port) (off : Nat) (s : State) : Host.Outcome State Fault Refusal :=
  .next (if s.barOpen p ∧ s.locked then s.raise 0x00E (dword off + 2 ^ 22 + p.val * 2 ^ 24) else s)
/-- BOUNDARY_CROSSING_REQUEST: Completer Abort, and nothing is accessed. -/
def execBoundaryCrossingRequest (p : Port) (s : State) : Host.Outcome State Fault Refusal :=
  .next (if s.barOpen p then s.emit .completerAbort else s)
/-- ATOMICOP_REQUEST: Unsupported Request. -/
def execAtomicopRequest (p : Port) (s : State) : Host.Outcome State Fault Refusal :=
  .next (if s.barOpen p then s.emit .unsupportedRequest else s)

/-! ## Events -/

/-- EVENT_RAISE (R178, R180, R184, R194): a source raises an event with one payload, or delivers a packet of up to 8. -/
def execEventRaise (id : Fin 2048) (payloads : List Nat) (s : State) : Host.Outcome State Fault Refusal :=
  .next (if s.powered ∧ !payloads.isEmpty then s.raisePacket id.val (payloads.map (· % 2 ^ 48)) else s)

end Sys2Proof.Machine
end

