-- ==== Sys2Proof/Machine/MoverRun.lean ====
section
/-! DEFINITION. The block mover's descriptors (chapter 14): fetching, checking, moving lines with the running CRC, completing
(R486 to R501, R505). -/

namespace Sys2Proof.Machine

/-! ## Addresses (R487) -/

/-- Space of a block-mover address. -/
def bmvSpace (a : Nat) : Nat := a / 2 ^ 44
/-- Offset within its space. -/
def bmvOffset (a : Nat) : Nat := a % 2 ^ 44

/-- Whether `n` bytes from `a` lie wholly within one space. -/
def State.bmvInside (s : State) (a n : Nat) : Bool :=
  let o := bmvOffset a
  match bmvSpace a with
  | 0 => decide (o + n ≤ s.spareBase * 4096)
  | 1 => decide (o + n ≤ 0x8000)
  | 2 => decide (o + n ≤ 0x400000) && (decide (o + n ≤ 0x50000) || decide (0x60000 ≤ o))
  | _ => false

/-- Whether a byte of them lies in the window of an absent unit (R42, R494). -/
def State.bmvAbsent (s : State) (a n : Nat) : Bool :=
  bmvSpace a == 2 && (List.range (ceilDiv n 4)).any fun i => s.absentAt (bmvOffset a + 4 * i)

/-! ## Descriptors (R491, R492) -/

/-- EVT of a control word. -/
def Descriptor.evt (d : Descriptor) : Bool := bit d.control 30
/-- NOAPP. -/
def Descriptor.noapp (d : Descriptor) : Bool := bit d.control 29
/-- TAG. -/
def Descriptor.tag (d : Descriptor) : Nat := d.control % 256
/-- Bytes of the destination range, the CRC block included. -/
def Descriptor.dstLen (d : Descriptor) : Nat := d.length + (if d.noapp then 0 else 64)

/-- The checks of R495, in order; 0 where all pass. -/
def State.checkDescriptor (s : State) (d : Descriptor) : Nat :=
  if d.src % 64 ≠ 0 ∨ d.dst % 64 ≠ 0 ∨ d.length % 64 ≠ 0 ∨ d.length < 64 ∨ 16777216 < d.length then 0x01
  else if !s.bmvInside d.src d.length ∨ !s.bmvInside d.dst d.dstLen then 0x02
  else if s.bmvAbsent d.src d.length ∨ s.bmvAbsent d.dst d.dstLen then 0x03
  else if d.src < d.dst + d.dstLen ∧ d.dst < d.src + d.length then 0x04
  else 0x00

/-- The poison pattern of a beat (R500). -/
def poisonBeat : List Byte := (List.replicate 4 (leBytes 4 0xBAD00BAD)).flatten

/-! ## Lines (R486, R488 to R490, R500) -/

/-- Read the 64 bytes of a source line: none where its page is poisoned. Register-window lines are sixteen accesses. -/
def State.readLine (s : State) (a : Nat) : Option (List Byte) × State :=
  let o := bmvOffset a
  match bmvSpace a with
  | 0 => s.bufLines o 64
  | 1 => (some (Memory.read bufDefault s.mover.sram o 64), s)
  | _ =>
    let (l, t) := (List.range 16).foldl (fun (r : List Byte × State) i =>
      let (v, t) := r.2.readReg .mover (o + 4 * i)
      (r.1 ++ leBytes 4 v, t)) ([], s)
    (some l, t)

/-- Write a destination line; in the register window only the registers of its first `good` beats are written. `whole`: the descriptor
writes the line's whole page of the buffer (R463). -/
def State.writeLine (s : State) (a : Nat) (l : List Byte) (good : Nat) (whole : Bool) : State :=
  let o := bmvOffset a
  match bmvSpace a with
  | 0 => if whole then s.bufPut o l else s.bufWrite o l
  | 1 => s.sramWrite o l
  | _ => (List.range (4 * good)).foldl (fun s i => s.writeReg .mover (o + 4 * i) (u32 l (4 * i)) none) s

/-- Whether a descriptor writes the whole buffer page of a destination line. -/
def Descriptor.wholePage (d : Descriptor) (a : Nat) : Bool :=
  let p := bmvOffset a / 4096
  decide (bmvOffset d.dst ≤ 4096 * p) && decide (4096 * p + 4096 ≤ bmvOffset d.dst + d.dstLen)

/-- What moving has come to: the code, lines written, the CRC over the bytes received, their number, and the line of a
destination page that received the pattern. -/
structure Moved where
  code : Nat
  lines : Nat
  crc : Nat
  received : Nat
  pattern : Option Nat
  deriving DecidableEq, Repr

/-- Move line `i` and those after it, `todo` in all. -/
def State.moveLines (d : Descriptor) (e : MoveEnv) : Nat → Nat → State → Moved → State × Moved
  | 0, _, s, m => (s, m)
  | todo + 1, i, s, m =>
    if e.stopped = some i then (s, { m with code := 0x0B })
    else
      let (got, t) := s.readLine (d.src + 64 * i)
      let bad := match e.srcError with
        | some b => if b / 4 = i then some (b % 4) else none
        | none => none
      let (line, good, code) := match got, bad with
        | none, _ => ((List.replicate 4 poisonBeat).flatten, 0, 0x09)
        | some l, some k => (l.take (16 * k) ++ (List.replicate (4 - k) poisonBeat).flatten, k, 0x08)
        | some l, none => (l, 4, 0)
      let m1 : Moved := { m with code := code, crc := crc64 m.crc (line.take (16 * good)), received := m.received + 16 * good }
      if e.dstError = some i then (t, { m1 with code := 0x0A })
      else
        let u := t.writeLine (d.dst + 64 * i) line good (d.wholePage (d.dst + 64 * i))
        let m2 : Moved := { m1 with lines := i + 1, pattern := if code = 0 then none else some i }
        if code = 0 then State.moveLines d e todo (i + 1) u m2 else (u, m2)

/-- The CRC block (R498). -/
def crcBlock (m : Moved) (invalid : Bool) : List Byte := padTo 64 (leBytes 8 m.crc ++ leBytes 1 (flag invalid))

/-- Pages of the buffer written whole end their poison, but for one that received the pattern (R465, R500). -/
def State.endPoison (s : State) (d : Descriptor) (m : Moved) (block : Bool) : State :=
  if bmvSpace d.dst ≠ 0 then s
  else
    let o := bmvOffset d.dst
    let n := 64 * m.lines + (if block ∧ 64 * m.lines = d.length then 64 else 0)
    let first := ceilDiv o 4096
    let s1 := (List.range ((o + n) / 4096 - first)).foldl (fun s i => s.unpoison (first + i)) s
    match m.pattern with
    | some i => s1.poisonPage ((o + 64 * i) / 4096) 2
    | none => s1

/-- A descriptor that passed its checks: its data and CRC block are moved. -/
def State.moveAll (s : State) (d : Descriptor) (e : MoveEnv) : State × Moved :=
  let s1 := if bmvSpace d.src = 0 then s.checkPages (bmvOffset d.src) d.length else s
  let (t, m) := State.moveLines d e (d.length / 64) 0 s1 ⟨0, 0, d.seed, 0, none⟩
  let block : Bool := !d.noapp && m.lines != 0 && (m.code == 0 || m.code == 8 || m.code == 9)
  if block ∧ e.dstError = some (d.length / 64) then (t.endPoison d m false, { m with code := 0x0A })
  else
    let u := if block then t.writeLine (d.dst + d.length) (crcBlock m (m.received != d.length)) 4 (d.wholePage (d.dst + d.length)) else t
    (u.endPoison d m block, m)

/-! ## Completion (R493, R499, R503, R513) -/

/-- The status word. -/
def statusWord (m : Moved) (invalid : Bool) : Nat := m.lines % 2 ^ 19 + flag invalid * 2 ^ 23 + m.code * 2 ^ 24

/-- The byte store of a descriptor's space. -/
def State.writeDescriptor (s : State) (a : Nat) (l : List Byte) : State :=
  if bmvSpace a = 0 then s.bufWrite (bmvOffset a) l else s.sramWrite (bmvOffset a) l

/-- STATUS and CRC in one write, then the control word with OWN cleared; direct descriptors write nothing to memory. -/
def State.writeBack (s : State) (d : Descriptor) (status crc : Nat) (began : Bool) : State :=
  if d.direct then s
  else
    (s.writeDescriptor (d.addr + 0x14) (leBytes 4 status ++ (if began then leBytes 8 crc else []))).writeDescriptor d.addr
      (leBytes 4 (setBits d.control 31 31 0))

/-- The result registers of the channel. -/
def State.showResult (s : State) (c : ChanIx) (status crc : Nat) : State :=
  ((s.setReg (chanBase c + 0x10) (BitVec.ofNat 32 status)).setReg (chanBase c + 0x18) (BitVec.ofNat 32 crc)).setReg
    (chanBase c + 0x1C) (BitVec.ofNat 32 (crc / 2 ^ 32))

/-- Payload of BMV_DONE and BMV_ERROR (R509). -/
def donePayload (d : Descriptor) : Nat := d.tag + d.head % 2 ^ 12 * 2 ^ 8 + flag d.direct * 2 ^ 20

/-- Entries of the ring (R510). -/
def State.ringSize (s : State) (c : ChanIx) : Nat :=
  let n := s.get (Reg.BMV_CH_CTRL_RING_SIZE c)
  if n = 0 then 4096 else n

/-- The channel after its descriptor: HEAD moves on, and it halts, or goes on at the boundary. -/
def State.afterDescriptor (s : State) (c : ChanIx) (d : Descriptor) (halt : Bool) : State :=
  let s1 := if d.direct then s
    else s.put (Reg.BMV_CH_STATUS_HEAD c) ((s.get (Reg.BMV_CH_STATUS_HEAD c) + 1) % s.ringSize c)
  if halt then s1.chanHalt c
  else
    let on : Bool := s1.get (Reg.BMV_CH_CTRL_EN c) == 1
    let s2 := s1.setMover c { s1.chan c with run := if on ∧ !d.direct then .fetch else .idle, abort := false }
    if d.direct then s2.moverNext c else s2

/-- BMV_DESCRIPTOR_COMPLETE (R495 to R504): the running descriptor is checked, moved and completed. -/
def execBmvDescriptorComplete (c : ChanIx) (e : MoveEnv) (s : State) : Host.Outcome State Fault Refusal :=
  .next <|
    match (s.chan c).run with
    | .running d =>
      let aborting := (s.chan c).abort
      let s := s.wake .bmv
      let code := s.checkDescriptor d
      let s1 := s.replays e.replays
      let env : MoveEnv := if aborting then e else { e with stopped := none }
      let (t, m) := if code ≠ 0 then (s1, (⟨code, 0, d.seed, d.length, none⟩ : Moved)) else s1.moveAll d env
      let invalid : Bool := m.received != d.length
      let status := statusWord m invalid
      let u := (t.writeBack d status m.crc (code == 0)).showResult c status m.crc
      let v :=
        if m.code = 0 then (if d.evt then u.raise (0x780 + c.val) (donePayload d) else u)
        else u.raise (0x790 + c.val)
          (donePayload d + bits m.lines 18 16 * 2 ^ 21 + m.code * 2 ^ 24 + m.lines % 2 ^ 16 * 2 ^ 32)
      v.afterDescriptor c d (m.code ≠ 0 || aborting)
    | _ => s

/-! ## Fetching (R501, R505, R512) -/

/-- A descriptor from its 32 bytes. -/
def descriptorOf (l : List Byte) (addr head : Nat) : Descriptor :=
  { control := u32 l 0, length := u32 l 4, src := field l 8 6, dst := field l 0xE 6, seed := u64 l 0x18, addr := addr,
    direct := false, head := head }

/-- The 32 bytes of the descriptor at an address; none where they cannot be read. -/
def State.fetchBytes (s : State) (a : Nat) : Option (List Byte) × State :=
  if bmvSpace a = 0 then s.bufRead (bmvOffset a) 32 else (some (Memory.read bufDefault s.mover.sram (bmvOffset a) 32), s)

/-- BMV_DESCRIPTOR_FETCH (R501, R505, R506, R512): the descriptor at HEAD is read and run, or the channel idles. `error`: the
read fails in parity or finds its page uncorrectable. -/
def execBmvDescriptorFetch (c : ChanIx) (error : Bool) (s : State) : Host.Outcome State Fault Refusal :=
  .next <|
    if (s.chan c).run ≠ .fetch ∨ s.get (Reg.BMV_CH_CTRL_EN c) = 0 ∨ s.get (Reg.BMV_CH_STATUS_HALTED c) = 1 then s
    else
      let s1 := (s.wake .bmv).put (Reg.BMV_CH_STATUS_TRIG_PEND c) 0
      let base := s.get (Reg.BMV_CH_RING_LO_BASE_LO c) * 32 + s.get (Reg.BMV_CH_RING_HI_BASE_HI c) * 2 ^ 32
      let head := s.get (Reg.BMV_CH_STATUS_HEAD c)
      let addr := base + 32 * head
      let (bytes, s1) := if error ∨ 1 < bmvSpace base ∨ !s.bmvInside base (32 * s.ringSize c) then (none, s1) else s1.fetchBytes addr
      match bytes with
      | none => (s1.setReg (chanBase c + 0x10) (BitVec.ofNat 32 (0x0C * 2 ^ 24))).chanHalt c
      | some l =>
        if bit (u32 l 0) 31 then s1.setMover c { s1.chan c with run := .running (descriptorOf l addr head), abort := false }
        else s1.setMover c { s1.chan c with run := .idle }

end Sys2Proof.Machine
end

