-- ==== Sys2Proof/Machine/Operands.lean ====
section
/-! DEFINITION. The control word of the micro-sequencers (R144 to R147): its fields, the registers it reads and writes, and its
conditions. -/

namespace Sys2Proof.Machine

/-- Field `[hi:lo]` of a control word. -/
def ctl (w : BitVec 128) (hi lo : Nat) : Nat := bits w.toNat hi lo

/-- SP. -/
def wSp (w : BitVec 128) : Bool := ctl w 123 123 == 1
/-- SEQ. -/
def wSeq (w : BitVec 128) : Nat := ctl w 122 119
/-- TARGET. -/
def wTarget (w : BitVec 128) : Nat := ctl w 118 103
/-- COND. -/
def wCond (w : BitVec 128) : Nat := ctl w 102 97
/-- ALU_OP. -/
def wAlu (w : BitVec 128) : Nat := ctl w 96 91
/-- DST. -/
def wDst (w : BitVec 128) : Nat := ctl w 90 86
/-- SRCA. -/
def wSrcA (w : BitVec 128) : Nat := ctl w 85 81
/-- SRCB. -/
def wSrcB (w : BitVec 128) : Nat := ctl w 80 76
/-- BIMM. -/
def wBimm (w : BitVec 128) : Bool := ctl w 75 75 == 1
/-- IMM. -/
def wImm (w : BitVec 128) : Nat := ctl w 74 43
/-- PORT. -/
def wPort (w : BitVec 128) : Nat := ctl w 42 41
/-- PADDR. -/
def wPaddr (w : BitVec 128) : Nat := ctl w 40 19
/-- PREG. -/
def wPreg (w : BitVec 128) : Nat := ctl w 18 14
/-- PIND. -/
def wPind (w : BitVec 128) : Bool := ctl w 13 13 == 1
/-- EMIT. -/
def wEmit (w : BitVec 128) : Bool := ctl w 12 12 == 1
/-- EVID. -/
def wEvid (w : BitVec 128) : Nat := ctl w 11 1

/-- Whether a ROM word passes its parity check (R144): each PAR bit is even parity over its 31 bits. -/
def romParityOk (w : BitVec 128) : Bool :=
  (List.range 4).all fun i =>
    (List.range 31).foldl (fun p k => p ^^ w.getLsbD (31 * i + k)) false == w.getLsbD (124 + i)

/-- A register as read (R142): G0 reads 0. -/
def SeqCtx.read (x : SeqCtx) (r : Nat) : Nat := if r = 0 then 0 else (x.g.toList.getD r 0).toNat

/-- A register written (R142, R143): G0 ignores it, G29 stores bits [13:0], G31 bits [15:0]. -/
def SeqCtx.write (x : SeqCtx) (r v : Nat) : SeqCtx :=
  if h : r < 32 then
    if r = 0 then x
    else { x with g := x.g.set r (BitVec.ofNat 32 (if r = 29 then v % 2 ^ 14 else if r = 31 then v % 2 ^ 16 else v)) }
  else x

/-- Operand A. -/
def SeqCtx.opA (x : SeqCtx) (w : BitVec 128) : Nat := x.read (wSrcA w)
/-- Operand B: IMM or the SRCB register. -/
def SeqCtx.opB (x : SeqCtx) (w : BitVec 128) : Nat := if wBimm w then wImm w else x.read (wSrcB w)

/-- The register-window address of a word (R144, R150), within the 4 MiB window. -/
def SeqCtx.portAddr (x : SeqCtx) (w : BitVec 128) : Nat := dword (wPaddr w + (if wPind w then x.opA w else 0))

/-- COND of R147, on the state before the word executes; `packets` and `lastErr` are the conditions outside it. -/
def SeqCtx.cond (x : SeqCtx) (w : BitVec 128) (packets lastErr : Bool) : Bool :=
  let k := wCond w
  if k = 0 then true
  else if k = 1 then x.z
  else if k = 2 then x.n
  else if k = 3 then x.c
  else if k = 4 then x.v
  else if k = 5 then x.lc == 0
  else if k = 6 then packets
  else if k = 7 then lastErr
  else if k = 8 then bit (x.read 29) 13
  else bit (x.opA w) (k - 0x10)

/-- Whether COND is reserved. -/
def condReserved (k : Nat) : Bool := (decide (9 ≤ k) && decide (k ≤ 0xF)) || decide (0x30 ≤ k)

/-- Whether a word tests COND 0x07. -/
def testsError (w : BitVec 128) : Bool := (wSeq w == 2 || wSeq w == 3) && wCond w == 7

end Sys2Proof.Machine
end

