-- ==== Sys2Proof/Machine/Flags.lean ====
section
/-! DEFINITION. The ALU of the micro-sequencers and its flags (R148). C after a subtraction is 1 where nothing was borrowed, as
SUBB takes it. -/

namespace Sys2Proof.Machine

/-- 2^32. -/
def w32 : Nat := 2 ^ 32

/-- Z and N of a result. -/
def SeqCtx.zn (x : SeqCtx) (r : Nat) : SeqCtx := { x with z := r % w32 == 0, n := bit r 31 }

/-- The flags of A + B + carry. -/
def SeqCtx.addFlags (x : SeqCtx) (a b c : Nat) : SeqCtx :=
  let r := (a + b + c) % w32
  let i := signed 32 a + signed 32 b + (c : Int)
  { x.zn r with c := decide (w32 ≤ a + b + c), v := decide (i < -2147483648 ∨ 2147483647 < i) }

/-- The flags of A − B − borrow. -/
def SeqCtx.subFlags (x : SeqCtx) (a b borrow : Nat) : SeqCtx :=
  let r := (a + 2 * w32 - b - borrow) % w32
  let i := signed 32 a - signed 32 b - (borrow : Int)
  { x.zn r with c := decide (b + borrow ≤ a), v := decide (i < -2147483648 ∨ 2147483647 < i) }

/-- The flags of a bitwise operation. -/
def SeqCtx.logicFlags (x : SeqCtx) (r : Nat) : SeqCtx := { x.zn r with c := false, v := false }

/-- Leading zeros of 32 bits. -/
def clz (a : Nat) : Nat := ((List.range 32).takeWhile fun i => !bit a (31 - i)).length
/-- Ones of 32 bits. -/
def popc (a : Nat) : Nat := ((List.range 32).filter fun i => bit a i).length

/-- Signed sum saturated to 32 bits. -/
def satSum (a b : Nat) : Int := clamp (-2147483648) 2147483647 (signed 32 a + signed 32 b)

/-- An ALU operation: the result for DST, if it has one, and the context with LC and the flags. -/
def SeqCtx.alu (x : SeqCtx) (op a b : Nat) : Option Nat × SeqCtx :=
  let k := b % 32
  match op with
  | 0x01 => (some b, x)
  | 0x02 => (some ((a + b) % w32), x.addFlags a b 0)
  | 0x03 => (some ((a + b + flag x.c) % w32), x.addFlags a b (flag x.c))
  | 0x04 => (some ((a + w32 - b) % w32), x.subFlags a b 0)
  | 0x05 => (some ((a + 2 * w32 - b - flag !x.c) % w32), x.subFlags a b (flag !x.c))
  | 0x06 => (some (a.land b), x.logicFlags (a.land b))
  | 0x07 => (some (a.lor b), x.logicFlags (a.lor b))
  | 0x08 => (some (a.xor b), x.logicFlags (a.xor b))
  | 0x09 => (some (a * 2 ^ k % w32), x)
  | 0x0A => (some (a / 2 ^ k), x)
  | 0x0B => (some (twos 32 (signed 32 a / (2 ^ k : Nat))), x)
  | 0x0C => (some ((a * 2 ^ k % w32 + a / 2 ^ (32 - k)) % w32), x)
  | 0x0D => (none, x.subFlags a b 0)
  | 0x0E => (none, x.logicFlags (a.land b))
  | 0x0F => (some (min a b), x)
  | 0x10 => (some (max a b), x)
  | 0x11 =>
    let r := twos 32 (satSum a b)
    (some r, { x.zn r with c := false, v := decide (satSum a b ≠ signed 32 a + signed 32 b) })
  | 0x12 => (some (clz a), x)
  | 0x13 => (some (popc a), x)
  | 0x14 => (none, { x with lc := b % 65536 })
  | 0x15 => (some (a * b % w32), x)
  | 0x16 => (some (twos 64 (signed 32 a * signed 32 b) / w32), x)
  | _ => (none, x)

/-- The context after the ALU operation of a word and the write of its result to DST (R149 steps 1 to 3). -/
def SeqCtx.results (x : SeqCtx) (w : BitVec 128) : SeqCtx :=
  let (res, c) := x.alu (wAlu w) (x.opA w) (x.opB w)
  match res with
  | some v => c.write (wDst w) v
  | none => c

end Sys2Proof.Machine
end

