-- ==== Sys2Proof/Machine/Seq.lean ====
section
/-! DEFINITION. The micro-sequencers (chapter 5): fetching with the match registers, executing a control word, safe points and
dispatch, privileged events, faults and restarts. -/

namespace Sys2Proof.Machine

/-! ## Address space (R137, R139 to R142) -/

/-- Segment base of a sequencer's class. -/
def segBase (q : Nat) : Nat := if q < 4 then 0x0000 else if q = 4 then 0x4000 else if q = 5 then 0x6800 else 0x9000
/-- End of that segment. -/
def segEnd (q : Nat) : Nat := if q < 4 then 0x4000 else if q = 4 then 0x6800 else if q = 5 then 0x9000 else 0xB800

/-- Whether a sequencer may fetch a ROM word at an address. -/
def romOk (q a : Nat) : Bool := (decide (segBase q ≤ a) && decide (a < segEnd q)) || (decide (0xB800 ≤ a) && decide (a < 0xC000))

/-- The Mend address that a sequencer's match registers put in place of a ROM address (R152, R155). -/
def State.matchOf (s : State) (q a : Nat) : Option Nat :=
  (List.range 32).findSome? fun i =>
    let w := (s.reg (0x21000 + 0x80 * q + 4 * i)).toNat
    if bit w 31 ∧ bits w 15 0 = a then some (0xC000 + bits w 26 16) else none

/-- A Mend word; its PAR bits read 0 (R145). -/
def State.mendWord (s : State) (a : Nat) : BitVec 128 :=
  BitVec.ofNat 128 ((Sparse.get (fun _ => 0) s.mend (a - 0xC000)).toNat % 2 ^ 124)

/-- What a fetch gives: the word, or a fault's cause, and the address execution continues from. -/
inductive Fetched where
  | word (w : BitVec 128) (at_ : Nat)
  | fault (cause : Nat)
  deriving DecidableEq, Repr

/-- Fetch at an address; `rom` is what the ROM holds there. -/
def State.fetchWord (s : State) (q a : Nat) (rom : BitVec 128) : Fetched :=
  if romOk q a then
    match s.matchOf q a with
    | some m => .word (s.mendWord m) m
    | none => if romParityOk rom then .word rom a else .fault 1
  else if 0xC000 ≤ a ∧ a < 0xC800 then .word (s.mendWord a) a
  else .fault 3

/-! ## Faults (R165 to R169, R171, R174) -/

/-- FMT of a lane whose sequencer faults finishes its sector and drops the gate; the replay writes the whole step again. -/
def State.faultWrite (s : State) (n : Lane) : State :=
  if (s.lane n).fmt.wgate then
    match (s.lane n).fmt.write with
    | none => s
    | some w =>
      let s1 := s.writeProgress n (w.done + 1)
      let f := (s1.lane n).fmt
      (s1.setFmt n { f with wgate := false, write := f.write.map fun (x : WriteStep) => { x with done := 0 } }).stepEnded n
  else s

/-- SEQ.FAULT_s. -/
def seqFaultReg (q : Nat) : Nat := 0x20008 + 0x40 * q

/-- A fault at an address with a cause: the sequencer stops until its restart, or is hung at FAULT_LIMIT. -/
def State.seqFault (s : State) (q : SeqIx) (pc cause : Nat) : State :=
  let w := (s.reg (seqFaultReg q)).toNat
  let consec := min 15 (bits w 27 24 + 1)
  let s1 := s.setReg (seqFaultReg q)
    (BitVec.ofNat 32 (cause * 2 ^ 28 + consec * 2 ^ 24 + satAdd 0xFFFF (bits w 15 0) 1))
  let s2 := s1.setSeq q { s1.seq q with run := .restarting, errPending := none, held := none, fresh := false }
  let resume := (s.seq q).chk.pc
  let s3 := s2.raise (0x080 + q.val) (pc % 2 ^ 16 + resume % 2 ^ 16 * 2 ^ 16 + cause * 2 ^ 32 + consec % 8 * 2 ^ 36)
  let s4 := if h : q.val < 4 then s3.faultWrite ⟨q.val, h⟩ else s3
  if s.sec8 secSeqParams 0 ≤ consec then (s4.raise (0x088 + q.val) (resume % 2 ^ 16 + cause * 2 ^ 16)).seqHung q else s4

/-- A deferral of R163 lasts while a handler that delayed the dispatch runs. -/
def Seq.deferredIn (x : Seq) (ranks : List Nat) : Option Nat :=
  match x.deferred with
  | some d => if d < ranks.length then some d else none
  | none => none

/-- SEQ_RESTART_RESUME (R166): the checkpoint is restored, and execution resumes at its address; latches and queue stay. -/
def execSeqRestartResume (q : SeqIx) (s : State) : Host.Outcome State Fault Refusal :=
  .next (if (s.seq q).run = .restarting then
    s.setSeq q { s.seq q with ctx := (s.seq q).chk, run := .running, since := 0
                              deferred := (s.seq q).deferredIn (s.seq q).chk.ranks } else s)

/-- WATCHDOG_TRIP (R164): the 4,096th instruction since the last safe point has completed and was none. -/
def execWatchdogTrip (q : SeqIx) (s : State) : Host.Outcome State Fault Refusal :=
  .next (if 4096 ≤ (s.seq q).since ∧ ((s.seq q).run = .running ∨ (s.seq q).run = .stalled) then
    s.seqFault q (s.seq q).lastPc 2 else s)

/-! ## The return stack and privileged events (R161, R162) -/

/-- A push; none on a full stack. -/
def SeqCtx.push (x : SeqCtx) (a : Nat) : Option SeqCtx :=
  if 8 ≤ x.stack.length then none else some { x with stack := a % 65536 :: x.stack }

/-- The vector of a rank (R142, R161). -/
def vectorOf (rank : Nat) : Nat := segBase 0 + 0x40 + 4 * (rank - 1)

/-- At an instruction boundary a lane sequencer takes the highest-ranked pending source; none where the stack is full: the fault
leaves the latch pending (log entry 171). A source that arrived at the boundary of a safe point that dispatched is taken from the
checkpoint, and the dispatch is deferred (R163). A stall in WAIT is abandoned (R162). -/
def Seq.takePriv (x : Seq) (lane : Bool) : Option Seq :=
  match x.pendingRank with
  | none => some x
  | some r =>
    if !lane then some x
    else
      let x0 := if x.fresh then x.chk else x.ctx
      (x0.push x0.pc).map fun c =>
        { x with
          latches := Vector.ofFn fun (i : Fin 5) => if i.val = r - 1 then false else x.latches[i]
          ctx := { c with rank := r, ranks := c.rank :: c.ranks, pc := vectorOf r }, run := .running
          held := none, fresh := false, deferred := if x.fresh then some x0.ranks.length else x.deferred }

/-- PRIVILEGED_SOURCE_ASSERT (R161, R163). -/
def execPrivilegedSourceAssert (n : Lane) (src : PrivSource) (s : State) : Host.Outcome State Fault Refusal :=
  .next (if s.powered then s.assertPriv n src else s)

/-! ## Executing a word (R146 to R151) -/

/-- Whether a word is illegal (R151). -/
def wordIllegal (w : BitVec 128) (rank : Nat) : Bool :=
  decide (0xA ≤ wSeq w) || condReserved (wCond w) || decide (0x17 ≤ wAlu w) || wPort w == 3 || (wSeq w == 7 && !wSp w) ||
    (wSeq w == 9 && rank == 0) || (wEmit w && decide (0x7C0 ≤ wEvid w))

/-- The register-window access of a word (R149 step 2, R150): what is read, if it reads, and the state. -/
def State.portAccess (s : State) (q : SeqIx) (x : SeqCtx) (w : BitVec 128) (error : Bool) : Option Nat × State :=
  if wPort w = 1 then
    if error then (some (s.freeNat % w32), s.drew)
    else
      let (v, t) := s.readReg (.req (.seq q)) (x.portAddr w)
      (some v, t)
  else if wPort w = 2 then
    (none, if error then s else s.writeReg (.req (.seq q)) (x.portAddr w) (x.read (wPreg w)) none)
  else (none, s)

/-- The next address and stack of a word (R146, R149 step 5), from the context after its results were written; none where the
stack overflows or is empty. `taken` is COND as it stood before. -/
def SeqCtx.nextAddress (x : SeqCtx) (w : BitVec 128) (pc : Nat) (taken : Bool) : Option SeqCtx :=
  let on := (pc + 1) % 65536
  match wSeq w with
  | 0x1 => some { x with pc := wTarget w }
  | 0x2 => some { x with pc := if taken then wTarget w else on }
  | 0x3 => some { x with pc := if taken then on else wTarget w }
  | 0x4 => (x.push on).map fun c => { c with pc := wTarget w }
  | 0x5 =>
    match x.stack with
    | a :: t => some { x with pc := a, stack := t }
    | [] => none
  | 0x6 => some { x with lc := x.lc - 1, pc := if 1 < x.lc then wTarget w else on }
  | 0x8 =>
    match x.stack with
    | a :: t => some { x with pc := a, stack := t, inDisp := false }
    | [] => none
  | 0x9 =>
    match x.stack with
    | a :: t => some { x with pc := a, stack := t, rank := x.ranks.headD 0, ranks := x.ranks.drop 1 }
    | [] => none
  | _ => some { x with pc := on }

/-- An item as a WAIT loads it (R143). -/
def SeqCtx.loadItem (x : SeqCtx) (i : Item) : SeqCtx :=
  ((x.write 29 (i.id % 2 ^ 11 + i.prio % 4 * 2 ^ 11 + flag i.last * 2 ^ 13)).write 30 (i.payload % 2 ^ 32)).write 31
    (i.payload / 2 ^ 32)

/-- The event queue of a sequencer (R182). -/
def seqQueue (q : SeqIx) : QIx := ⟨q.val, by omega⟩

/-- What follows a word (R149 step 6, R158, R159, R164): the checkpoint of a safe point, and the dispatch where a packet waits;
none where the dispatch finds the stack full. Where a privileged source is due the dispatch is deferred to the first safe point after
the word that returns from its handler (R163; that word itself is no such safe point: log entry 171). `ranks` are the handler ranks
saved before the word. -/
def Seq.afterWord (x : Seq) (q : SeqIx) (w : BitVec 128) (packets : Bool) (ranks : List Nat) : Option Seq :=
  let open_ := x.deferredIn ranks
  let x1 : Seq := { x with fresh := false, deferred := x.deferredIn x.ctx.ranks }
  if !wSp w then some { x1 with since := x.since + 1 }
  else
    let y : Seq := { x1 with chk := x.ctx, since := 0 }
    let priv : Bool := decide (q.val < 4) && y.pendingRank.isSome
    if wSeq w ≠ 7 ∧ !y.ctx.inDisp ∧ packets ∧ open_.isNone then
      if priv then some { y with deferred := some y.ctx.ranks.length }
      else (y.ctx.push y.ctx.pc).map fun c => { y with ctx := { c with inDisp := true, pc := segBase q.val + 0x20 }, fresh := true }
    else some y

/-- A word that the fetch gave executes (R149): steps 1 to 6, with the faults of R151 and R165. A WAIT stalls where no item is held for
it and its queue is empty: it then stands at the address it was fetched from (R162, R172). Its item is loaded after the ALU result and
the read data (log entry 171). An access to an absent address is no error (R37). After an access with an error, the next word that
executes must test COND 0x07, also where it is a privileged handler's first (log entry 171). -/
def State.runWord (s : State) (q : SeqIx) (w : BitVec 128) (pc : Nat) (fails : Bool) : State :=
  let x := s.seq q
  let error := fails && !s.absentAt (x.ctx.portAddr w)
  match x.errPending, testsError w with
  | some a, false => s.seqFault q a 5
  | _, _ =>
    if wordIllegal w x.ctx.rank then s.seqFault q pc 3
    else if wSeq w = 7 ∧ x.item.isNone ∧ (s.queue (seqQueue q)).depth = 0 then
      s.setSeq q { x with run := .stalled, errPending := none, held := some w, fresh := false, ctx := { x.ctx with pc := pc } }
    else
      let taken := x.ctx.cond w (decide (0 < (s.queue (seqQueue q)).pkts)) x.lastErr
      let (data, s1) := s.portAccess q x.ctx w error
      let c3 := match data with
        | some v => (x.ctx.results w).write (wPreg w) v
        | none => x.ctx.results w
      let s2 := if wEmit w then s1.raise (wEvid w) (x.ctx.read (wSrcB w)) else s1
      let (c4, s3) := if wSeq w = 7 then
          match x.item with
          | some i => (c3.loadItem i, s2)
          | none =>
            match s2.popQueue (seqQueue q) with
            | some (i, t) => (c3.loadItem i, t)
            | none => (c3, s2)
        else (c3, s2)
      let pending := if error ∧ (wPort w = 2 ∨ (wPort w = 1 ∧ wPreg w ≠ 0)) then some pc else none
      let err := if wPort w = 1 ∨ wPort w = 2 then error else x.lastErr
      let y : Seq := { s3.seq q with run := .running, lastErr := err, errPending := pending, lastPc := pc, held := none, item := none }
      match c4.nextAddress w pc taken with
      | none => (s3.setSeq q y).seqFault q pc 4
      | some c5 =>
        match ({ y with ctx := c5 } : Seq).afterWord q w (decide (0 < (s3.queue (seqQueue q)).pkts)) x.ctx.ranks with
        | none => ((s3.setSeq q { y with ctx := c5, chk := c5 }).put ⟨seqFaultReg q, 27, 24⟩ 0).seqFault q pc 4
        | some z =>
          let s4 := s3.setSeq q z
          if wSp w then s4.put ⟨seqFaultReg q, 27, 24⟩ 0 else s4

/-- One instruction of a sequencer whose word has SEQ `k` (words with a reserved SEQ come with 0). Nothing happens where the
sequencer does not execute, the watchdog is due, or the word fetched is another. A WAIT that stalled is not fetched again: with its
item it ends, and without one it goes on stalling unless a privileged source ends the stall. A ROM word that fails parity, and an
address that may not be fetched, fault. -/
def State.instruction (s : State) (q : SeqIx) (f : Fetch) (k : Nat) : State :=
  let x := s.seq q
  if !s.powered ∨ !(x.run = .running ∨ x.run = .stalled) ∨ 4096 ≤ x.since then s
  else
    match x.item, x.held with
    | some _, some w => if k = 7 then s.runWord q w x.ctx.pc f.portError else s
    | _, _ =>
      match x.takePriv (decide (q.val < 4)) with
      | none => s.seqFault q x.ctx.pc 4
      | some y =>
        match y.held with
        | some w => if k = 7 then (s.setSeq q y).runWord q w y.ctx.pc f.portError else s
        | none =>
          match s.fetchWord q.val y.ctx.pc f.rom with
          | .fault c => (s.setSeq q y).seqFault q y.ctx.pc c
          | .word w pc => if wSeq w = k ∨ (k = 0 ∧ 0xA ≤ wSeq w) then (s.setSeq q y).runWord q w pc f.portError else s

/-- NEXT (R146, R149). -/
def execNext (q : SeqIx) (f : Fetch) (s : State) : Host.Outcome State Fault Refusal := .next (s.instruction q f 0)
/-- JUMP (R146). -/
def execJump (q : SeqIx) (f : Fetch) (s : State) : Host.Outcome State Fault Refusal := .next (s.instruction q f 1)
/-- JT (R146, R147). -/
def execJt (q : SeqIx) (f : Fetch) (s : State) : Host.Outcome State Fault Refusal := .next (s.instruction q f 2)
/-- JF (R146, R147). -/
def execJf (q : SeqIx) (f : Fetch) (s : State) : Host.Outcome State Fault Refusal := .next (s.instruction q f 3)
/-- CALL (R146). -/
def execCall (q : SeqIx) (f : Fetch) (s : State) : Host.Outcome State Fault Refusal := .next (s.instruction q f 4)
/-- RET (R146). -/
def execRet (q : SeqIx) (f : Fetch) (s : State) : Host.Outcome State Fault Refusal := .next (s.instruction q f 5)
/-- LOOP (R146). -/
def execLoop (q : SeqIx) (f : Fetch) (s : State) : Host.Outcome State Fault Refusal := .next (s.instruction q f 6)
/-- WAIT (R158, R202): it stalls on an empty queue, and executes again when its row comes again. -/
def execWait (q : SeqIx) (f : Fetch) (s : State) : Host.Outcome State Fault Refusal := .next (s.instruction q f 7)
/-- RETD (R146). -/
def execRetd (q : SeqIx) (f : Fetch) (s : State) : Host.Outcome State Fault Refusal := .next (s.instruction q f 8)
/-- RETP (R146, R162). -/
def execRetp (q : SeqIx) (f : Fetch) (s : State) : Host.Outcome State Fault Refusal := .next (s.instruction q f 9)

end Sys2Proof.Machine
end

