-- ==== Sys2Proof/Machine/Sideband.lean ====
section
/-! DEFINITION. The management sideband (chapter 21): chain addressing, bus addresses, MCTP control messages, NVMe-MI with its
register access and tunnelled commands, alerts, and the loss of the host link. -/

namespace Sys2Proof.Machine

/-- The sideband's record replaced. -/
def State.setSbd (s : State) (x : Sideband) : State := { s with sbd := x }

/-! ## Chain position (R703, R704, R707, R708, R714) -/

/-- The position as identities carry it: 0x3FF in the error state (R705). -/
def State.chainId (s : State) : Nat := if s.sbd.chain = 3 then 0x3FF else s.sbd.position % 1024

/-- Whether the chip uses I3C (R701). -/
def State.i3c (s : State) : Bool := s.boot.straps.sbSel
/-- Whether a bus address has been assigned. -/
def State.hasAddr (s : State) : Bool := s.get Reg.SBD_STATUS_ADDR_VALID == 1

/-- The ten bits of a chain value, most significant first. -/
def chainBits (v : Nat) : List Bool := (List.range 10).map fun i => bit v (9 - i)
/-- A frame (R703): start bit, value, even parity, stop bit. -/
def chainFrameOf (v : Nat) : List Bool :=
  [true] ++ chainBits v ++ [(chainBits v).foldl (· ^^ ·) false] ++ [false]

/-- CHAIN_FRAME_SEND (R703, R704): every 1 ms from the end of FUSE; a unit in error or at position 1,023 holds CHN_OUT high. -/
def execChainFrameSend (s : State) : Host.Outcome State Fault Refusal :=
  .next <|
    if !s.powered ∨ !s.boot.fuseEnded ∨ s.pins.chnOut then s
    else s.emit (.chainFrame (chainFrameOf (if s.sbd.chain = 0 then 0 else s.sbd.position + 1)))

/-- The position is decided: SBD_CHAIN, CHN_OUT held high where nothing follows, and a unit without an address sends Notify ARP
Master, or requests Hot-Join, once (R707, R708). -/
def State.chainFix (s : State) (state position : Nat) : State :=
  let s1 := s.setSbd { s.sbd with chain := state, position := position, lastFrame := none }
  let s2 := if state = 3 ∨ position = 1023 then { s1 with pins := { s1.pins with chnOut := true } } else s1
  let s3 := s2.raise 0x7F9 (s2.chainId + state * 2 ^ 16)
  if s3.sbd.joined ∨ s3.hasAddr then s3
  else
    (s3.setSbd { s3.sbd with joined := true }).emit
      (if s3.i3c then .i3c [0x02] else .smbus [0x10, 0xC2, 0x00, 0x00])

/-- CHAIN_FRAME_RECEIVED (R704): a valid frame with value `v` on CHN_IN. -/
def execChainFrameReceived (v : Nat) (s : State) : Host.Outcome State Fault Refusal :=
  .next <|
    let v := v % 1024
    let same : Bool := decide (s.sbd.lastFrame = some v) && v != 0
    if !s.powered then s
    else if s.sbd.chain = 0 then
      if same then s.chainFix 1 v else s.setSbd { s.sbd with lastFrame := some v }
    else if same then
      let s1 := s.setSbd { s.sbd with lastFrame := none }
      if s.sbd.chain ≠ 3 ∧ v = s.sbd.position then s1 else s1.raise 0x7FA v
    else s.setSbd { s.sbd with lastFrame := some v }

/-- CHAIN_STEADY_LOW (R704). -/
def execChainSteadyLow (s : State) : Host.Outcome State Fault Refusal :=
  .next (if s.powered ∧ s.sbd.chain = 0 then s.chainFix 2 0 else s)

/-- CHAIN_ERROR_TIMEOUT (R704, R705). -/
def execChainErrorTimeout (s : State) : Host.Outcome State Fault Refusal :=
  .next (if s.powered ∧ s.sbd.chain = 0 then s.chainFix 3 0 else s)

/-! ## SMBus (R701, R707, R711, R740) -/

/-- Device ID of the die (R1). -/
def State.deviceId (s : State) : Nat := variantDevice s.fuses.variant

/-- The SMBus UDID, most significant byte first (R707). -/
def State.udid (s : State) : List Byte :=
  [0x81, 0x08] ++ beBytes 2 0x1F5D ++ beBytes 2 s.deviceId ++ beBytes 2 0x0004 ++ beBytes 2 0x1F5D ++ beBytes 2 s.deviceId ++
    beBytes 4 s.chainId

/-- An assigned bus address. -/
def State.takeAddr (s : State) (a : Nat) : State :=
  (s.put Reg.SBD_ADDR_ADDR a).put Reg.SBD_STATUS_ADDR_VALID 1

/-- ARP_ASSIGN_ADDRESS (R707, R708): by UDID, once the identity is complete. -/
def execArpAssignAddress (udid : List Byte) (a : Nat) (s : State) : Host.Outcome State Fault Refusal :=
  .next (if s.powered ∧ !s.i3c ∧ s.sbd.chain ≠ 0 ∧ udid = s.udid then s.takeAddr (a % 128) else s)

/-- The SMBus address the unit answers at: the assigned one, or 0x1D at chain position 0 from steady low until ARP assigns one. -/
def State.smbusAddr (s : State) : Option Nat :=
  if s.hasAddr then some (s.get Reg.SBD_ADDR_ADDR) else if s.sbd.chain = 2 then some 0x1D else none

/-- ALERT_N is released and ALERT_PEND clears (R711). -/
def State.releaseAlert (s : State) : State :=
  { (s.setSbd { s.sbd with alertPend := false }) with pins := { s.pins with alertLow := false } }

/-- ALERT_RESPONSE_ADDRESS_READ (R711): a read this unit wins returns its address; the bit below it is a free value. -/
def execAlertResponseAddressRead (s : State) : Host.Outcome State Fault Refusal :=
  .next <|
    match s.smbusAddr with
    | some a =>
      if s.powered ∧ !s.i3c ∧ s.sbd.alertPend then
        ((s.drew).emit (.smbus (leBytes 1 (a * 2 + s.freeNat % 2)))).releaseAlert
      else s
    | none => s

/-- SCL_LOW_TIMEOUT (R740): SCL low for 25 ms; the PX84 releases the bus. -/
def execSclLowTimeout (s : State) : Host.Outcome State Fault Refusal :=
  .next (if s.powered ∧ !s.i3c then s.emit .busRelease else s)

/-! ## I3C (R701, R708, R711) -/

/-- A CCC, in I3C mode. -/
def State.ccc (s : State) (run : State → State) : Host.Outcome State Fault Refusal :=
  .next (if s.powered ∧ s.i3c then run s else s)

/-- A CCC to the dynamic address. -/
def State.directCcc (s : State) (run : State → State) : Host.Outcome State Fault Refusal :=
  .next (if s.powered ∧ s.i3c ∧ s.hasAddr then run s else s)

/-- The PID, most significant byte first (R708). -/
def State.pid (s : State) : List Byte := beBytes 6 (0x02C5 * 2 ^ 33 + s.deviceId * 2 ^ 16 + s.chainId)

/-- ENTDAA: a unit without a dynamic address whose identity is complete sends PID, BCR and DCR, and wins the address. -/
def execEntdaa (a : Nat) (s : State) : Host.Outcome State Fault Refusal :=
  s.ccc fun s =>
    if s.hasAddr ∨ s.sbd.chain = 0 then s else (s.emit (.i3c (s.pid ++ [0x06, 0x00]))).takeAddr (a % 128)
/-- RSTDAA: the dynamic address is dropped. -/
def execRstdaa (s : State) : Host.Outcome State Fault Refusal :=
  s.ccc fun s => (s.put Reg.SBD_ADDR_ADDR 0).put Reg.SBD_STATUS_ADDR_VALID 0
/-- SETNEWDA: the dynamic address changes. -/
def execSetnewda (a : Nat) (s : State) : Host.Outcome State Fault Refusal := s.directCcc fun s => s.takeAddr (a % 128)
/-- GETPID. -/
def execGetpid (s : State) : Host.Outcome State Fault Refusal := s.directCcc fun s => s.emit (.i3c s.pid)
/-- GETBCR: 0x06. -/
def execGetbcr (s : State) : Host.Outcome State Fault Refusal := s.directCcc fun s => s.emit (.i3c [0x06])
/-- GETDCR: 0x00. -/
def execGetdcr (s : State) : Host.Outcome State Fault Refusal := s.directCcc fun s => s.emit (.i3c [0x00])
/-- GETSTATUS: the pending interrupts in bits [3:0] (I3C Basic); the other bits are free. -/
def execGetstatus (s : State) : Host.Outcome State Fault Refusal :=
  s.directCcc fun s => (s.drew).emit (.i3c (beBytes 2 (setBits (s.freeNat % 65536) 3 0 (flag s.sbd.alertPend))))
/-- GETMRL: the maximum read length, and a byte for the interrupt's payload, which the spec leaves open. -/
def execGetmrl (s : State) : Host.Outcome State Fault Refusal :=
  s.directCcc fun s => (s.drew).emit (.i3c (beBytes 2 s.sbd.mrl ++ leBytes 1 s.freeNat))
/-- GETMWL. -/
def execGetmwl (s : State) : Host.Outcome State Fault Refusal := s.directCcc fun s => s.emit (.i3c (beBytes 2 s.sbd.mwl))
/-- SETMRL: up to 256 bytes. -/
def execSetmrl (v : Nat) (s : State) : Host.Outcome State Fault Refusal :=
  s.ccc fun s => s.setSbd { s.sbd with mrl := min 256 v }
/-- SETMWL: up to 256 bytes. -/
def execSetmwl (v : Nat) (s : State) : Host.Outcome State Fault Refusal :=
  s.ccc fun s => s.setSbd { s.sbd with mwl := min 256 v }
/-- ENEC: bit 0 enables in-band interrupts. -/
def execEnec (events : Nat) (s : State) : Host.Outcome State Fault Refusal :=
  s.ccc fun s => s.setSbd { s.sbd with ibi := s.sbd.ibi || bit events 0 }
/-- DISEC: bit 0 disables in-band interrupts. -/
def execDisec (events : Nat) (s : State) : Host.Outcome State Fault Refusal :=
  s.ccc fun s => s.setSbd { s.sbd with ibi := s.sbd.ibi && !bit events 0 }
/-- IBI_ACKNOWLEDGE (R711). -/
def execIbiAcknowledge (s : State) : Host.Outcome State Fault Refusal :=
  s.ccc fun s => if s.sbd.alertPend then s.releaseAlert else s

/-! ## MCTP control (R702) -/

/-- Whether the endpoint answers a control message addressed to an EID: the null EID, or its own once set. -/
def State.answers (s : State) (dest : Nat) : Bool :=
  s.powered && (dest == 0 || (s.get Reg.SBD_STATUS_EID_VALID == 1 && dest == s.get Reg.SBD_ADDR_EID))

/-- A control response: message type, instance, command, completion code, data (DSP0236). -/
def State.mctpReply (s : State) (inst cmd code : Nat) (l : List Byte) : State :=
  s.emit (.mctp ([0x00] ++ leBytes 1 (inst % 32) ++ leBytes 1 cmd ++ leBytes 1 code ++ l))

/-- SET_ENDPOINT_ID (R702, R714): 0x00 and 0xFF are no EIDs (DSP0236). -/
def execSetEndpointId (dest inst eid : Nat) (s : State) : Host.Outcome State Fault Refusal :=
  .next <|
    if !s.answers dest then s
    else if eid % 256 = 0 ∨ eid % 256 = 0xFF then s.mctpReply inst 0x01 0x02 []
    else
      let s1 := (s.put Reg.SBD_ADDR_EID (eid % 256)).put Reg.SBD_STATUS_EID_VALID 1
      (s1.mctpReply inst 0x01 0x00 ([0x00] ++ leBytes 1 eid ++ [0x00])).raise 0x7F8
        (eid % 256 + ((s.smbusAddr.getD (s.get Reg.SBD_ADDR_ADDR)) % 128) * 2 ^ 8 + flag s.i3c * 2 ^ 15)

/-- GET_ENDPOINT_ID: the EID; the endpoint type and medium bytes are free. -/
def execGetEndpointId (dest inst : Nat) (s : State) : Host.Outcome State Fault Refusal :=
  .next (if s.answers dest then
    (s.drew).mctpReply inst 0x02 0x00 (leBytes 1 (s.get Reg.SBD_ADDR_EID) ++ leBytes 2 s.freeNat) else s)

/-- GET_ENDPOINT_UUID: EUI64, the chain position, and bytes that are free. -/
def execGetEndpointUuid (dest inst : Nat) (s : State) : Host.Outcome State Fault Refusal :=
  .next (if s.answers dest then
    (s.drew).mctpReply inst 0x03 0x00 (s.eui ++ beBytes 2 s.chainId ++ leBytes 6 s.freeNat) else s)

/-- GET_MCTP_VERSION_SUPPORT: one version, whose number the spec leaves open, for the base and the supported types; another type
is not supported (DSP0236: 0x80). -/
def execGetMctpVersionSupport (dest inst ty : Nat) (s : State) : Host.Outcome State Fault Refusal :=
  .next <|
    if !s.answers dest then s
    else if ty = 0xFF ∨ ty = 0x00 ∨ ty = 0x04 then (s.drew).mctpReply inst 0x04 0x00 ([0x01] ++ leBytes 4 s.freeNat)
    else s.mctpReply inst 0x04 0x80 []

/-- GET_MESSAGE_TYPE_SUPPORT: 0x00 and 0x04. -/
def execGetMessageTypeSupport (dest inst : Nat) (s : State) : Host.Outcome State Fault Refusal :=
  .next (if s.answers dest then s.mctpReply inst 0x05 0x00 [0x02, 0x00, 0x04] else s)

/-- MCTP_MESSAGE_DROP (R702, R714): 0 PEC, 1 integrity check, 2 header, 3 reassembly. -/
def execMctpMessageDrop (reason : Fin 4) (s : State) : Host.Outcome State Fault Refusal :=
  .next (if s.powered then (s.bump Reg.SBD_CNT_MCTP_ERR_COUNT 1).raise 0x7FE reason.val else s)

/-! ## NVMe-MI (R709, R710) -/

/-- What an MI command answers: status, NMRESP and data. -/
structure MiAnswer where
  status : Nat
  resp : Nat
  data : List Byte
  deriving DecidableEq, Repr

/-- The composite temperature as NVMe-MI codes it: whole degrees, 127 and above as 0x7F, −60 and below as 0xC4. -/
def miTemp (t : Int) : Nat :=
  let d := Int.fdiv t 10
  if 127 ≤ d then 0x7F else if d ≤ -60 then 0xC4 else twos 8 d

/-- Controllers that exist: those of the ports on the die, in native mode (R710). -/
def State.miControllers (s : State) : List Port :=
  (List.finRange 2).filter fun p => s.portPresent p && !s.boot.compat

/-- Read NVMe-MI Data Structure: subsystem information, port information, controller list, controller information, optional
commands; what R709 leaves open is free. -/
def State.miStructure (s : State) (nmd0 : Nat) : MiAnswer × State :=
  let ports := (s.miControllers).length + 1
  let (f, t) := s.freeBytes 32
  match bits nmd0 31 24 with
  | 0 => (⟨0, 32, padTo 32 (leBytes 1 (ports - 1) ++ [0x02, 0x00])⟩, s)
  | 1 =>
    let k := bits nmd0 23 16
    if ports ≤ k then (⟨0x04, 0, []⟩, s) else (⟨0, 32, leBytes 1 (if k + 1 = ports then 2 else 1) ++ f.drop 1⟩, t)
  | 2 =>
    let l := (s.miControllers).filter fun p => decide (bits nmd0 15 0 ≤ p.val + 1)
    (⟨0, 2 + 2 * l.length, leBytes 2 l.length ++ l.flatMap fun p => leBytes 2 (p.val + 1)⟩, s)
  | 3 =>
    if (s.miControllers).any fun p => p.val + 1 == bits nmd0 15 0 then
      (⟨0, 32, f.take 6 ++ leBytes 2 0x1F5D ++ leBytes 2 s.deviceId ++ leBytes 2 0x1F5D ++ f.drop 12⟩, t)
    else (⟨0x04, 0, []⟩, s)
  | 4 =>
    let l : List (Nat × Nat) := [(1, 0xC0), (1, 0xC1)] ++ [0x02, 0x06, 0x09, 0x0A, 0x14, 0x80, 0x84, 0xC1].map fun o => (2, o)
    (⟨0, 2 + 2 * l.length, leBytes 2 l.length ++ l.flatMap fun (k, o) => leBytes 1 (k * 8) ++ leBytes 1 o⟩, s)
  | _ => (⟨0x04, 0, []⟩, s)

/-- NVM Subsystem Health Status Poll: status, the Critical Warning conditions (inverted), temperature; the life used and the
composite change flags are free. -/
def State.miSubsystemHealth (s : State) : MiAnswer × State :=
  let up := fun (p : Port) => flag (s.port p).linkUp
  let nss := flag (!s.lko.fatal) * 32 + 16 + up 0 * 8 + up 1 * 4
  let warn := (255 - s.criticalWarning 0) % 256
  (⟨0, 0, leBytes 1 nss ++ leBytes 1 warn ++ leBytes 1 (miTemp s.compositeTemp) ++ leBytes 1 s.freeNat ++
    leBytes 2 (s.freeNat / 256) ++ zeros 2⟩, s.drew)

/-- Controller Health Status Poll: from a controller identifier on, up to a number of entries. -/
def State.miControllerHealth (s : State) (nmd0 : Nat) : MiAnswer × State :=
  let l := ((s.miControllers).filter fun p => decide (bits nmd0 15 0 ≤ p.val + 1)).take (bits nmd0 23 16 + 1)
  (⟨0, l.length * 2 ^ 16, l.flatMap fun p =>
    leBytes 2 (p.val + 1) ++ leBytes 2 (s.csts p) ++ leBytes 2 (kelvin s.compositeTemp) ++ leBytes 1 s.freeNat ++
      leBytes 1 s.availableSpare ++ leBytes 1 (s.criticalWarning p) ++ zeros 7⟩, s.drew)

/-- Configuration Set: 0x01 SMBus frequency 1 to 3, 0x02 health status change (its flags are free in this model), 0x03
transmission unit size, 64 bytes, or up to 256 in I3C mode as SETMRL and SETMWL allow. -/
def State.miConfigSet (s : State) (nmd0 nmd1 : Nat) : MiAnswer × State :=
  match nmd0 % 256 with
  | 0x01 =>
    let k := bits nmd0 11 8
    if s.i3c ∨ k < 1 ∨ 3 < k then (⟨0x04, 0, []⟩, s) else (⟨0, 0, []⟩, s.setSbd { s.sbd with miFreq := k })
  | 0x02 => (⟨0, 0, []⟩, s)
  | 0x03 =>
    let m := nmd1 % 65536
    if m = 64 ∨ (s.i3c ∧ 64 ≤ m ∧ m ≤ min s.sbd.mrl s.sbd.mwl) then (⟨0, 0, []⟩, s.setSbd { s.sbd with miMtu := m })
    else (⟨0x04, 0, []⟩, s)
  | _ => (⟨0x04, 0, []⟩, s)

/-- Configuration Get. -/
def State.miConfigGet (s : State) (nmd0 : Nat) : MiAnswer × State :=
  match nmd0 % 256 with
  | 0x01 => (⟨0, s.sbd.miFreq, []⟩, s)
  | 0x02 => (⟨0, 0, []⟩, s)
  | 0x03 => (⟨0, s.sbd.miMtu, []⟩, s)
  | _ => (⟨0x04, 0, []⟩, s)

/-- Reset: type 0 acts as NSSR (R519). -/
def State.miReset (s : State) (nmd0 : Nat) : MiAnswer × State :=
  if bits nmd0 31 24 = 0 then (⟨0, 0, []⟩, s.nssr) else (⟨0x04, 0, []⟩, s)

/-- An MI command by opcode. -/
def State.miCommand (s : State) (op nmd0 nmd1 : Nat) : MiAnswer × State :=
  match op with
  | 0x00 => s.miStructure nmd0
  | 0x01 => s.miSubsystemHealth
  | 0x02 => s.miControllerHealth nmd0
  | 0x03 => s.miConfigSet nmd0 nmd1
  | 0x04 => s.miConfigGet nmd0
  | 0x07 => s.miReset nmd0
  | _ => (⟨0x03, 0, []⟩, s)

/-- Whether the endpoint takes an NVMe-MI message: its EID is set and addressed (R702). -/
def State.miOpen (s : State) (dest : Nat) : Bool := s.answers dest && dest != 0

/-- An NVMe-MI request over the sideband, answered. -/
def State.miServe (s : State) (dest : Nat) (run : State → MiAnswer × State) : Host.Outcome State Fault Refusal :=
  .next <|
    if !s.miOpen dest then s
    else
      let (a, t) := run s
      t.emit (.miResponse a.status (leBytes 3 a.resp ++ a.data))

/-- READ_NVME_MI_DATA_STRUCTURE (R709). -/
def execReadNvmeMiDataStructure (dest nmd0 nmd1 : Nat) (s : State) : Host.Outcome State Fault Refusal :=
  s.miServe dest fun s => s.miCommand 0x00 nmd0 nmd1
/-- NVM_SUBSYSTEM_HEALTH_STATUS_POLL (R709, R710). -/
def execNvmSubsystemHealthStatusPoll (dest : Nat) (s : State) : Host.Outcome State Fault Refusal :=
  s.miServe dest fun s => s.miCommand 0x01 0 0
/-- CONTROLLER_HEALTH_STATUS_POLL (R709, R710). -/
def execControllerHealthStatusPoll (dest nmd0 : Nat) (s : State) : Host.Outcome State Fault Refusal :=
  s.miServe dest fun s => s.miCommand 0x02 nmd0 0
/-- CONFIGURATION_SET (R709). -/
def execConfigurationSet (dest nmd0 nmd1 : Nat) (s : State) : Host.Outcome State Fault Refusal :=
  s.miServe dest fun s => s.miCommand 0x03 nmd0 nmd1
/-- CONFIGURATION_GET (R709). -/
def execConfigurationGet (dest nmd0 : Nat) (s : State) : Host.Outcome State Fault Refusal :=
  s.miServe dest fun s => s.miCommand 0x04 nmd0 0
/-- MI_RESET (R709, R519). -/
def execMiReset (dest nmd0 : Nat) (s : State) : Host.Outcome State Fault Refusal :=
  s.miServe dest fun s => s.miCommand 0x07 nmd0 0

/-- The words of a Register Read, each read in turn (R12, R712). -/
def State.sidebandRead (s : State) (off : Nat) : Nat → List Byte × State
  | 0 => ([], s)
  | n + 1 =>
    let (v, t) := s.readReg (.req .sideband) (dword off)
    let (l, u) := t.sidebandRead (off + 4) n
    (leBytes 4 v ++ l, u)

/-- Whether a Register Read comes to EVT.TQ_POP_LO while the telemetry queue is empty: after how many registers. -/
def State.readWaits (s : State) (off count : Nat) : Option Nat :=
  if off ≤ tqPopLo ∧ tqPopLo < off + 4 * count ∧ (s.queue 7).depth = 0 then some ((tqPopLo - off) / 4) else none

/-- A Register Read waits at EVT.TQ_POP_LO (R203): the registers before it are read, the response follows with the item or the marker. -/
def State.waitTelemetry (s : State) (off count k : Nat) : State :=
  let (l, t) := s.sidebandRead off k
  (({ t with tqWait := t.tqWait ++ [Requester.sideband] }).setSbd { t.sbd with tqRead := some (l, count - k - 1) }).serveTelemetry

/-- The checks of R712 on a Register Read: the error, if one applies. -/
def State.readRefused (s : State) (off count : Nat) : Option Nat :=
  if !s.locked then some 0xE0
  else if count < 1 ∨ 64 < count ∨ 2 ^ 22 < dword off + 4 * count ∨ 2 ^ 22 ≤ off then some 0x04
  else if !((List.range count).all fun i => s.sidebandReads (dword off + 4 * i)) then some 0x07
  else none

/-- REGISTER_READ (R712). -/
def execRegisterRead (dest off count : Nat) (s : State) : Host.Outcome State Fault Refusal :=
  match s.readRefused off count, s.readWaits (dword off) count with
  | some e, _ => s.miServe dest fun s => (⟨e, 0, []⟩, s)
  | none, some k => .next (if s.miOpen dest then s.waitTelemetry (dword off) count k else s)
  | none, none => s.miServe dest fun s =>
    let (l, t) := s.sidebandRead (dword off) count
    (⟨0, 0, l⟩, t)

/-- REGISTER_WRITE (R712, R714). -/
def execRegisterWrite (dest off : Nat) (v : Word) (s : State) : Host.Outcome State Fault Refusal :=
  s.miServe dest fun s =>
    if !s.locked then (⟨0xE0, 0, []⟩, s)
    else if s.sidebandWrites then
      (⟨0, 0, []⟩, (s.busWrite .sideband off v.toNat none).raise 0x7FB (off % 2 ^ 22))
    else if s.held ∨ s.boot.compat then (⟨0x07, 0, []⟩, s)
    else (⟨0x07, 0, []⟩, s.raise 0x7FB (off % 2 ^ 22 + 2 ^ 22))

/-- Admin commands that may be tunnelled (R709). -/
def tunnelled : List Nat := [0x02, 0x06, 0x09, 0x0A, 0x14, 0x80, 0x84, 0xC1]

/-- TUNNELLED_ADMIN_COMMAND (R709, R710): the command enters the controller's fetch order, or fails with an MI status. -/
def execTunnelledAdminCommand (dest cntlid : Nat) (e : SqEntry) (s : State) : Host.Outcome State Fault Refusal :=
  .next <|
    if !s.miOpen dest then s
    else if s.held ∨ s.boot.compat then s.emit (.miResponse 0x04 [])
    else if !tunnelled.contains (e.opcode % 256) then s.emit (.miResponse 0x03 [])
    else
      match (s.miControllers).find? fun p => p.val + 1 == cntlid with
      | none => s.emit (.miResponse 0x04 [])
      | some p => (s.enterCommand (newCommand s.hif.nextSeq p sqTunnel e false)).pauseCheck

/-- An in-band MI request (R541): opcode in CDW11, NMD0 in CDW12, NMD1 in CDW13; CQE dword 0 holds the status and NMRESP. -/
def State.miInBand (s : State) (c : Command) : MiAnswer × State := s.miCommand (c.dw 11 % 256) (c.dw 12) (c.dw 13)

/-- NVME_MI_SEND (R541). -/
def execNvmeMiSend (seq : Nat) (s : State) : Host.Outcome State Fault Refusal :=
  s.serve seq 0x1D fun s c =>
    let (a, t) := s.miInBand c
    t.finish seq 0 (a.status + a.resp * 2 ^ 8)

/-- NVME_MI_RECEIVE (R541). -/
def execNvmeMiReceive (seq : Nat) (x : Xfer) (s : State) : Host.Outcome State Fault Refusal :=
  s.serve seq 0x1E fun s c =>
    let bad := if c.ptrStatus ≠ 0 then c.ptrStatus else xferStatus x
    let (a, t) := s.miInBand c
    if bad ≠ 0 then s.finish seq bad 0
    else (t.emit (.hostData c.port seq a.data)).finish seq 0 (a.status + a.resp * 2 ^ 8)

/-! ## Loss of the host link (R713) -/

/-- Whether some port's link, or the SATA link, is up. -/
def State.anyLink (s : State) : Bool :=
  if s.boot.compat then s.get Reg.HIF_SATA_LINK_UP == 1 else s.hif.ports.toList.any (·.linkUp)

/-- HOST_LINK_LOSS (R713): a link had trained and none is left, without a shutdown or a loss of supply before. -/
def execHostLinkLoss (s : State) : Host.Outcome State Fault Refusal :=
  .next <|
    if !s.powered ∨ s.hif.trained.isEmpty ∨ s.anyLink ∨ s.sbd.shutdown ∨ s.devState = 3 ∨
        s.get Reg.SBD_STATUS_HOST_LINK_LOST = 1 then s
    else
      let s1 := (s.put Reg.SBD_STATUS_HOST_LINK_LOST 1).raise 0x7FD 1
      ((s1.setSbd { s1.sbd with lossDestage := true }).destageAll false).destageChecks

/-- HOST_LINK_LOSS_TIMEOUT (R713): no link within 10 s of the loss. -/
def execHostLinkLossTimeout (s : State) : Host.Outcome State Fault Refusal :=
  .next (if s.get Reg.SBD_STATUS_HOST_LINK_LOST = 1 ∧ !s.anyLink ∧ s.devState ≠ 3 then s.parkAndStop else s)

end Sys2Proof.Machine
end

