-- ==== Sys2Proof/Machine/Image.lean ====
section
/-! DEFINITION. The configuration image (chapter 3): its header, section table and sections with the ranges their owning
chapters give, the rules that relate sections, authenticity, and the DV-40 image with its mapping (R601 to R605). -/

namespace Sys2Proof.Machine

/-! ## Field rules -/

/-- A condition on a field at an offset with a size in bytes: an unsigned or signed range, or reserved zeros. -/
inductive FieldRule where
  | u (o n lo hi : Nat)
  | s (o n : Nat) (lo hi : Int)
  | z (o n : Nat)
  deriving DecidableEq, Repr

/-- Whether the field of a structure at `b` in `l` meets the condition (R82). -/
def fieldOk (l : List Byte) (b : Nat) : FieldRule → Bool
  | .u o n lo hi => decide (lo ≤ field l (b + o) n) && decide (field l (b + o) n ≤ hi)
  | .s o n lo hi => decide (lo ≤ signed (8 * n) (field l (b + o) n)) && decide (signed (8 * n) (field l (b + o) n) ≤ hi)
  | .z o n => zeroAt l (b + o) n

/-- Whether every condition holds. -/
def fieldsOk (l : List Byte) (b : Nat) (rs : List FieldRule) : Bool := rs.all (fieldOk l b)

/-- A byte whose low nibble and high nibble have their own ranges (R232). -/
def nibbles (v a b c d : Nat) : Bool :=
  decide (a ≤ v % 16) && decide (v % 16 ≤ b) && decide (c ≤ v / 16) && decide (v / 16 ≤ d)

/-- 0, or a value in a range. -/
def zeroOr (v lo hi : Nat) : Bool := v == 0 || (decide (lo ≤ v) && decide (v ≤ hi))

/-- Printable ASCII (R77, R85). -/
def asciiAt (l : List Byte) (o n : Nat) : Bool := ((l.drop o).take n).all fun b => decide (0x20 ≤ b.toNat) && decide (b.toNat ≤ 0x7E)

/-- No value twice. -/
def distinct : List Nat → Bool
  | [] => true
  | a :: t => !t.contains a && distinct t

/-- What a check needs to know of the die and the mode (R42, R60, R353, R377): the variant, compatibility mode, and the lanes whose
values are checked. -/
structure Die where
  variant : Variant
  compat : Bool
  lanes : List Nat
  deriving DecidableEq, Repr

/-- Whether a lane is on the die. -/
def laneOn (d : Die) (n : Nat) : Bool := decide (n < variantLanes d.variant)

/-- Whether a reader is used for a READERS field (R216). -/
def readerOn (d : Die) (readers r : Nat) : Bool :=
  bit readers r && bit (variantCap0 d.variant) (4 + r) && (!d.compat || r != 2)

/-! ## GEOMETRY, IDENTITY, PATCHES, FUSE_REQUEST (R83 to R87, R90) -/

/-- GEOMETRY (R83). -/
def geometryOk (l : List Byte) : Bool :=
  l.length == 168 && fieldsOk l 0 [.u 0 2 256 1024, .z 2 6] && u16 l 0 % 2 == 0 &&
    (List.range 32).all fun h =>
      bits (headMap l h) 6 5 == 0 && decide (u32 l (0x28 + 4 * h) < 2 ^ 22) &&
        (headFitted l h || u32 l (0x28 + 4 * h) == 0)

/-- The fitted heads whose lane is present. -/
def liveHeads (d : Die) (geo : List Byte) : List Nat :=
  (List.range 32).filter fun h => headFitted geo h && laneOn d (headLane geo h)

/-- The heads of a lane and their indices (R84). -/
def headsOk (d : Die) (geo : List Byte) : Bool :=
  let live := liveHeads d geo
  distinct (live.map fun h => headMap geo h % 32) && (!d.compat || live.all fun h => headLane geo h == 0)

/-- IDENTITY (R85). -/
def identityOk (l : List Byte) : Bool := l.length == 96 && asciiAt l 0 0x44 && zeroAt l 0x5C 4

/-- Where the words of PATCHES start. -/
def patchWords (l : List Byte) : Nat := ceilDiv (8 + 8 * u16 l 2) 16 * 16

/-- PATCHES (R86, R87). -/
def patchesOk (d : Die) (l : List Byte) : Bool :=
  let ms := (List.range (u16 l 2)).map fun i => 8 + 8 * i
  let live := ms.filter fun b => decide (4 ≤ u8 l b) || laneOn d (u8 l b)
  fieldsOk l 0 [.u 0 2 0 2048, .u 2 2 0 224, .z 4 4] && l.length == patchWords l + 16 * u16 l 0 &&
    ms.all (fun b => decide (u8 l b ≤ 6)) &&
    live.all (fun b => decide (u8 l (b + 1) ≤ 31) && romOk (u8 l b) (u16 l (b + 2)) && decide (u16 l (b + 4) < u16 l 0) &&
      zeroAt l (b + 6) 2) &&
    distinct (live.map fun b => u8 l b * 32 + u8 l (b + 1))

/-- FUSE_REQUEST (R90). -/
def fuseRequestOk (l : List Byte) : Bool :=
  l.length % 40 == 0 && decide (1 ≤ l.length / 40) && decide (l.length / 40 ≤ 4) &&
    (List.range (l.length / 40)).all fun i =>
      let b := 40 * i
      let a := u8 l b
      zeroAt l (b + 2) 6 && (a == 1 || a == 2 || a == 3) && (if a = 3 then u8 l (b + 1) == 0 else u8 l (b + 1) == 1 || u8 l (b + 1) == 2) &&
        (a == 1 || zeroAt l (b + 8) 32)

/-! ## DDR5, SEQ_PARAMS, SAFETY, EVENT_ROUTING, NAMESPACES (R443, R170, R665, R186, R574) -/

/-- Data capacity in GiB of a DDR5 section (R442). -/
def ddrGiB (l : List Byte) : Nat := (if u8 l 3 = 3 then 2 else 1) * 4 * (u8 l 1 + 1) * u8 l 2

/-- DDR5 (R443): for the three latencies the JESD79-5 ranges count. -/
def ddr5Ok (d : Die) (l : List Byte) : Bool :=
  l.length == 32 &&
    fieldsOk l 0 [.u 0 1 0 2, .u 1 1 0 3, .u 2 1 1 2, .u 4 1 0 7, .u 5 1 1 15, .u 6 2 4 4096, .u 8 2 1 65535,
      .u 0x0A 2 4 65535, .u 0x0C 2 1 65535, .u 0x0E 1 1 64, .z 0x0F 1, .z 0x1B 5] &&
    (u8 l 3 == 1 || u8 l 3 == 3) && u8 l 0x18 % 2 == 0 &&
    (List.range 3).all (fun k => Config.jedecTiming (u8 l 0) k (u8 l (0x18 + k))) &&
    decide (ddrGiB l ≤ 2 ^ bits (variantCap0 d.variant) 19 16) &&
    (u32 l 0x14 == 0 || decide (u32 l 0x10 + u32 l 0x14 ≤ ddrGiB l * 1024))

/-- SEQ_PARAMS (R170). -/
def seqParamsOk (l : List Byte) : Bool :=
  l.length == 32 &&
    fieldsOk l 0 [.u 0 1 1 7, .u 1 1 10 95, .u 3 1 0 3, .u 4 2 10 60000, .u 6 2 0 10000, .u 8 4 600 604800, .u 0x0C 2 1 8760,
      .u 0x0E 1 2 40, .u 0x0F 1 1 8, .z 0x10 16] && decide (u8 l 2 + 5 ≤ u8 l 1)

/-- SAFETY (R665). -/
def safetyOk (d : Die) (l : List Byte) : Bool :=
  l.length == 32 &&
    fieldsOk l 0 [.u 0 2 9000 11500, .u 2 2 4000 4750, .u 4 2 20 1000, .u 6 1 0 7, .u 7 1 0 1, .z 0x10 16] &&
    d.lanes.all fun n => fieldOk l 0 (.u (8 + 2 * n) 2 1638 32767)

/-- Whether R182 reserves a routing word on every die. -/
def routeReserved (w : Nat) : Bool :=
  match bits w 13 12 with
  | 0 => bits w 11 0 != 0
  | 1 => bits w 9 3 != 0
  | 2 => false
  | _ => bits w 11 4 != 0

/-- EVENT_ROUTING (R186, R187). -/
def routingOk (l : List Byte) : Bool :=
  let es := (List.range (u16 l 0)).map fun i => 0x10 + 4 * i
  decide (u16 l 0 ≤ 2048) && zeroAt l 2 14 && l.length == 16 + 4 * u16 l 0 &&
    es.all (fun b => bits (u16 l b) 14 11 == 0 && !routeReserved (u16 l (b + 2))) &&
    distinct (es.map fun b => u16 l b % 2 ^ 11)

/-- Whether a number is a power of two from 16 to 65,536. -/
def bandOk (v : Nat) : Bool := (List.range 13).any fun k => v == 2 ^ (4 + k)

/-- NAMESPACES (R574, R575). -/
def namespacesOk (d : Die) (l : List Byte) : Bool :=
  fieldsOk l 0 [.u 0 1 1 (bits (variantCap1 d.variant) 12 8), .u 1 1 2 50, .u 2 2 50 5000, .z 4 12] &&
    l.length == 16 + 32 * u8 l 0 &&
    (List.range (u8 l 0)).all fun i =>
      let b := 16 + 32 * i
      fieldsOk l b [.u 0 1 1 3, .u 1 1 0 15, .u 2 1 0 3, .z 3 1, .z 0x10 16] &&
        (u8 l b != 1 || [1, 2, 4, 8].contains (u8 l (b + 1))) &&
        (if u8 l b = 2 then bandOk (u32 l (b + 4)) else u32 l (b + 4) == 0)

/-! ## THERMAL, SPINDLE, SPIN_POLICY (R377, R415, R426, R629 to R631) -/

/-- One channel entry (R630, R631); the Cones that FLAGS enables have ranges and rise strictly. -/
def channelOk (l : List Byte) (c : Nat) : Bool :=
  let b := 0x20 + 32 * c
  let ty := u8 l b
  let on := (List.range 3).filter fun k => bit (u8 l (b + 1)) k && ty != 0
  let cone := fun k => signed 16 (u16 l (b + 0x10 + 2 * k))
  (if c < 8 then decide (ty ≤ 2) else ty == 3 && bit (u8 l (b + 1)) 2) &&
    fieldsOk l b [.u 1 1 0 7, .s 2 2 (-100) 100, .z 0x0E 2, .z 0x1C 4] &&
    (if ty = 1 then fieldsOk l b [.u 4 2 15565 18022, .u 6 2 0 1000] else zeroAt l (b + 4) 4) &&
    (if ty = 2 then fieldsOk l b [.u 8 4 1000 1000000, .u 0x0C 2 2000 5000] else zeroAt l (b + 8) 6) &&
    on.all (fun k => fieldsOk l b [.s (0x10 + 2 * k) 2 (-400) 1500, .u (0x16 + 2 * k) 2 5 200]) &&
    on.all (fun j => on.all fun k => decide (k ≤ j) || decide (cone j < cone k))

/-- THERMAL (R629 to R631), but for CAP_RPM. -/
def thermalOk (l : List Byte) : Bool :=
  l.length == 416 &&
    fieldsOk l 0 [.u 0 1 0 11, .u 1 1 0 11, .u 2 1 1 31, .u 3 1 1 8, .u 6 2 8192 32767, .u 0x0C 2 5 100, .u 0x12 1 0 15, .z 0x13 1,
      .u 0x14 2 0 10000, .z 0x16 10] &&
    zeroOr (u16 l 0x0E) 100 2000 && zeroOr (u16 l 0x10) 10 3600 && (List.range 12).all (channelOk l) &&
    u8 l (0x20 + 32 * u8 l 0) != 0 && u8 l (0x20 + 32 * u8 l 1) != 0 &&
    decide (signed 16 (u16 l 8) + 2 * u16 l 0x0C ≤ signed 16 (u16 l 0x0A))

/-- An actuator block (R377); fractions are compared exactly, Q1.15 values are two's complement (R327). -/
def actuatorOk (l : List Byte) (n : Nat) : Bool :=
  let b := 0x100 + 64 * n
  fieldsOk l b [.u 0 4 65536 536870912, .u 4 4 167773 2147483648, .u 8 4 268436 4026531840, .u 0x10 2 3000 10800,
      .u 0x12 2 4096 32768, .u 0x14 2 4096 32767, .u 0x16 2 16 1024, .u 0x18 2 17 1228, .u 0x1A 2 16 2048, .u 0x1C 2 256 32767,
      .u 0x1E 2 3277 29491, .u 0x20 2 1 64, .u 0x22 2 328 16384, .u 0x24 2 328 16384, .u 0x26 2 50 2000, .u 0x28 2 1639 32767,
      .u 0x2A 2 10 250, .u 0x2C 2 0 500, .u 0x2E 1 0 3, .u 0x2F 1 1 255, .u 0x30 1 1 255, .z 0x31 15] &&
    decide (u32 l (b + 4) ≤ u32 l (b + 0x0C)) && decide (u16 l (b + 0x16) < u16 l (b + 0x18))

/-- SPINDLE (R415). -/
def spindleOk (d : Die) (l : List Byte) : Bool :=
  l.length == 512 &&
    fieldsOk l 0 [.u 0 1 2 16, .u 1 1 1 8, .u 6 2 3000 10800, .u 8 2 3000 10800, .u 0x0A 2 10 2000, .u 0x0C 2 1638 32767,
      .u 0x0E 2 1 100, .u 0x10 2 2 1000, .u 0x12 2 100 10000, .u 0x14 2 1638 32767, .u 0x16 1 6 96, .u 0x17 1 5 40, .u 0x18 1 0 59,
      .u 0x19 1 1 16, .u 0x1A 2 1638 32767, .u 0x1C 2 164 8192, .z 0x1E 2, .u 0x2C 2 1 200, .u 0x2E 2 1 100, .u 0x30 2 0 3000,
      .z 0x32 206] &&
    zeroOr (u16 l 2) 5 120 && decide (u16 l 6 ≤ u16 l 8) && decide (u16 l 6 ≤ u16 l 4) && decide (u16 l 4 ≤ u16 l 8) &&
    decide (u16 l 0x0E < u16 l 0x10) && d.lanes.all (actuatorOk l)

/-- SPIN_POLICY (R426), but for the band. -/
def spinPolicyOk (l : List Byte) : Bool :=
  l.length == 32 &&
    fieldsOk l 0 [.u 4 2 10 600, .u 6 1 20 95, .u 7 1 0 100, .u 8 2 100 10000, .u 0x0A 2 5 3600, .u 0x0C 2 1 3600, .z 0x0E 18] &&
    decide (u8 l 6 + 5 ≤ u8 l 7)

/-! ## RETRY_LADDER (R305 to R307) -/

/-- The attempts an action allows. -/
def attemptsOk (action n : Nat) : Bool :=
  match action with
  | 0x01 => decide (1 ≤ n ∧ n ≤ 8)
  | 0x02 => decide (1 ≤ n ∧ n ≤ 3)
  | 0x03 => decide (1 ≤ n ∧ n ≤ 8)
  | 0x04 => decide (1 ≤ n ∧ n ≤ 2)
  | 0x05 => decide (2 ≤ n ∧ n ≤ 8)
  | 0x06 => decide (1 ≤ n ∧ n ≤ 2)
  | 0x07 => decide (1 ≤ n ∧ n ≤ 8)
  | 0x08 => n == 1
  | 0x0F => n == 0
  | _ => false

/-- Whether PARAM[i] suits an action with a number of attempts; bytes it does not use are 0. -/
def paramOk (action n i : Nat) (p : Int) : Bool :=
  match action with
  | 0x01 => if i = 0 then decide (1 ≤ p ∧ p ≤ 64) else if i = 1 then decide (1 ≤ p ∧ p ≤ 16) else p == 0
  | 0x02 => if i < n then decide (0 ≤ p ∧ p ≤ 2) else p == 0
  | 0x03 => if i < n then decide (-25 ≤ p ∧ p ≤ 25 ∧ p ≠ 0) else p == 0
  | 0x04 => if i < n then decide (1 ≤ p ∧ p ≤ 2) else p == 0
  | 0x07 => if i < n then decide (-100 ≤ p ∧ p ≤ 100 ∧ p ≠ 0) else p == 0
  | _ => p == 0

/-- RETRY_LADDER (R305 to R307). -/
def ladderOk (l : List Byte) : Bool :=
  fieldsOk l 0 [.u 0 1 1 16, .u 1 1 0 16, .u 2 2 50 30000, .u 4 1 1 64, .u 5 1 1 16, .z 6 10] &&
    l.length == 16 + 16 * u8 l 0 &&
    (List.range (u8 l 0)).all fun i =>
      let b := 16 + 16 * i
      let a := u8 l b
      let n := u8 l (b + 1)
      attemptsOk a n && fieldsOk l b [.u 2 1 0 15, .z 3 1, .z 6 2] &&
        (if a = 0x0F then u16 l (b + 4) == 0 && i + 1 == u8 l 0 else fieldOk l b (.u 4 2 8 64)) &&
        (List.range 8).all fun k => paramOk a n k (signed 8 (u8 l (b + 8 + k)))

/-! ## SERVO_BANKS (R349 to R353) -/

/-- A section entry (R352). -/
def biquadOk (l : List Byte) (b : Nat) : Bool := fieldsOk l b [.u 0x0A 1 0 3, .z 0x0B 1]

/-- A law block (R351). -/
def lawOk (l : List Byte) (b : Nat) : Bool :=
  fieldsOk l b [.u 0 1 0 12, .u 1 1 0 3, .z 0x0C 4] && (List.range (u8 l b)).all fun k => biquadOk l (b + 0x10 + 12 * k)

/-- A bank (R350). -/
def bankOk (l : List Byte) (b : Nat) : Bool :=
  lawOk l b && lawOk l (b + 0xA0) &&
    fieldsOk l b [.s 0x144 2 1 32767, .u 0x146 1 0 3, .z 0x147 9, .u 0x150 1 0 2, .u 0x151 1 0 1, .z 0x152 6, .u 0x170 2 2 32767,
      .u 0x172 2 1 32766, .u 0x174 1 1 255, .z 0x175 11, .u 0x18C 1 0 3, .z 0x18D 3] &&
    decide (u16 l (b + 0x172) < u16 l (b + 0x170)) && (List.range (u8 l (b + 0x150))).all fun k => biquadOk l (b + 0x158 + 12 * k)

/-- SERVO_BANKS (R349, R353), but for EDGE[0] against the spindle's speeds. -/
def servoBanksOk (d : Die) (l : List Byte) : Bool :=
  let n := u8 l 0
  let edge := fun b => u16 l (4 + 2 * b)
  fieldsOk l 0 [.u 0 1 1 8, .u 1 1 0 2, .u 2 2 0 200, .u 0x14 2 10800 13200, .z 0x16 2, .z 0x30 16] &&
    l.length == 64 + 1600 * n && biquadOk l 0x18 && biquadOk l 0x24 &&
    (List.range 8).all (fun b => if b < n then decide (3000 ≤ edge b ∧ edge b ≤ 10800) else edge b == 0) &&
    (List.range (n - 1)).all (fun b => decide (edge b + 2 * u16 l 2 < edge (b + 1))) &&
    d.lanes.all fun k => (List.range n).all fun b => bankOk l (0x40 + 400 * (n * k + b))

/-! ## ZONES and HEADS (R230 to R234, R280) -/

/-- A HEADS entry of a live head, but for READERS (R233, R280); an unused reader's fields are ignored (R234). -/
def headEntryOk (d : Die) (l : List Byte) (b : Nat) : Bool :=
  fieldsOk l b [.u 1 1 1 64, .u 2 1 0 7, .u 3 1 0 2, .z 0x0D 51] &&
    (List.range 3).all fun r => !readerOn d (u8 l (b + 2)) r ||
      fieldsOk l b [.s (4 + 2 * r) 2 (-4096) 4095, .u (0x0A + r) 1 25 150]

/-- A zone entry of a live head whose READERS field is `rd` (R232, R280). -/
def zoneEntryOk (d : Die) (l : List Byte) (b rd : Nat) : Bool :=
  let tp := bit (u8 l (b + 2)) 0
  fieldsOk l b [.u 1 1 0 63, .u 2 1 0 1, .u 4 4 0 4194303, .u 8 4 4096 1048575, .u 0x0C 2 1 16383, .z 0x0F 1, .u 0x16 1 0 63,
      .u 0x17 1 0 31, .u 0x42 1 16 120, .u 0x45 1 6 15, .u 0x4A 1 1 32, .u 0x4B 1 1 8, .u 0x4C 1 1 8, .z 0x4D 3, .u 0x50 2 200 1400,
      .u 0x52 1 0 120, .u 0x53 1 0 200, .u 0x54 2 0 1500, .u 0x56 2 0 1500, .u 0x58 2 0 1000, .z 0x5A 38] &&
    (if tp then fieldsOk l b [.u 3 1 1 2, .u 0x0E 1 16 255] else u8 l (b + 3) == 0 && u8 l (b + 0x0E) == 0) &&
    nibbles (u8 l (b + 0x43)) 2 8 6 14 && nibbles (u8 l (b + 0x44)) 2 8 6 14 && nibbles (u8 l (b + 0x46)) 1 8 4 12 &&
    nibbles (u8 l (b + 0x47)) 3 10 8 15 && zeroOr (u8 l (b + 0x48)) 8 20 && zeroOr (u8 l (b + 0x49)) 8 20 &&
    (List.range 3).all fun r => !readerOn d rd r ||
      fieldsOk l b [.u (0x18 + 2 * r) 2 0 2560, .s (0x1E + 2 * r) 2 (-2048) 2047, .s (0x24 + 2 * r) 2 (-16384) 16383,
        .s (0x2A + 2 * r) 2 (-512) 511]

/-- Offsets of the HEADS entries. -/
def headOffsets (heads : List Byte) : List Nat := (List.range (u16 heads 0)).map fun i => 16 + 64 * i

/-- Offsets of the zone entries. -/
def zoneOffsets (zones : List Byte) : List Nat := (List.range (u16 zones 0)).map fun i => 16 + 144 * u16 zones 2 + 128 * i

/-- READERS of a head; 0 where it has no entry. -/
def readersIn (heads : List Byte) (h : Nat) : Nat := ((headEntry heads h).map fun b => u8 heads (b + 2)).getD 0

/-- HEADS (R233); the entries of heads on absent lanes are ignored. -/
def headsSectionOk (d : Die) (geo l : List Byte) : Bool :=
  fieldsOk l 0 [.u 0 2 1 32, .z 2 14] && l.length == 16 + 64 * u16 l 0 &&
    (headOffsets l).all fun b => decide (u8 l b ≤ 31) && (!(liveHeads d geo).contains (u8 l b) || headEntryOk d l b)

/-- ZONES (R230 to R232), the entries of heads on absent lanes ignored. -/
def zonesSectionOk (d : Die) (geo heads l : List Byte) : Bool :=
  fieldsOk l 0 [.u 0 2 1 2048, .u 2 2 1 256, .z 4 12] && l.length == 16 + 144 * u16 l 2 + 128 * u16 l 0 &&
    (List.range (u16 l 2)).all (fun i => fieldsOk l (16 + 144 * i) [.s 0x60 2 (-16384) 16383, .s 0x62 2 (-16384) 16383, .z 0x64 4,
      .z 0x88 8]) &&
    (zoneOffsets l).all fun b => decide (u8 l b ≤ 31) &&
      (!(liveHeads d geo).contains (u8 l b) || zoneEntryOk d l b (readersIn heads (u8 l b)))

/-! ## Rules over several sections (R84, R121, R234, R272, R353, R427, R576, R629, R666) -/

/-- The zone entries of a head in zone order are exactly Z0 to Z(ZONE_COUNT − 1). -/
def zoneSetOk (heads zones : List Byte) (h : Nat) : Bool :=
  let n := ((headEntry heads h).map fun b => u8 heads (b + 1)).getD 0
  (zonesOfHead zones h).length == n && (List.range n).all fun z => (zoneEntry zones h z).isSome

/-- START_TRACK of a head's zones in zone order. -/
def startTracks (zones : List Byte) (h : Nat) : List Nat :=
  (List.range (zonesOfHead zones h).length).map fun z => ((zoneEntry zones h z).map fun o => u32 zones (o + 4)).getD 0

/-- Strictly rising. -/
def rising : List Nat → Bool
  | a :: b :: t => decide (a < b) && rising (b :: t)
  | _ => true

/-- The delay span of a zone entry (R220). -/
def spanOk (d : Die) (heads zones : List Byte) (o : Nat) : Bool :=
  match headEntry heads (u8 zones o) with
  | none => true
  | some b =>
    let ds := ((List.range 3).filter fun r => readerOn d (u8 heads (b + 2)) r).map fun r =>
      signed 16 (u16 heads (b + 4 + 2 * r)) + signed 16 (u16 zones (o + 0x2A + 2 * r))
    ds.all fun x => ds.all fun y => decide (x - y ≤ 4095)

/-- SECTORS_PER_TRACK of a zone entry (R272). -/
def sectorsFit (wedges : Nat) (zones : List Byte) (o : Nat) : Bool :=
  decide (u16 zones (o + 0x0C) * 37152 ≤ wedges * dataCells (u32 zones (o + 8)))

/-- Track parity of a zone entry (R272). -/
def parityOk (d : Die) (zones : List Byte) (o : Nat) : Bool :=
  !bit (u8 zones (o + 2)) 0 ||
    (bit (variantCap0 d.variant) 8 && !d.compat && u16 zones (o + 0x0C) % (u8 zones (o + 0x0E) + u8 zones (o + 3)) == 0)

/-- The bit rate of a zone over the speeds allowed (R121): 0.40 to 5.60 Gb/s. -/
def rateOk (wedges lo hi : Nat) (zones : List Byte) (o : Nat) : Bool :=
  decide (400000000 * 60 ≤ u32 zones (o + 8) * wedges * lo) && decide (u32 zones (o + 8) * wedges * hi ≤ 5600000000 * 60)

/-- The conditions that relate sections, in the order the model checks them, each with the sections whose fields it uses
(R746). -/
def crossChecks (d : Die) (secs : Sparse (List Byte)) : List (List Nat × Bool) :=
  let geo := sectionOf secs secGeometry
  let heads := sectionOf secs secHeads
  let zones := sectionOf secs secZones
  let spin := sectionOf secs secSpindle
  let pol := sectionOf secs secSpinPolicy
  let safe := sectionOf secs secSafety
  let live := liveHeads d geo
  let hs := headOffsets heads
  let zs := zoneOffsets zones
  let lz := zs.filter fun o => live.contains (u8 zones o)
  let lo := u16 spin 6
  let hi := u16 spin 8
  let w := u16 geo 0
  let ns := nsEntries (sectionOf secs secNamespaces) d.compat false
  let permille := if (sectionOf secs secNamespaces).isEmpty then 10 else u8 (sectionOf secs secNamespaces) 1
  let used := fun n => !(headsOf geo n).isEmpty && laneOn d n
  let space := fun n => laneBlocks (laneZones geo zones (bit (variantCap0 d.variant) 8) permille n) []
  [([secGeometry], headsOk d geo),
   ([secGeometry, secHeads], hs.all fun b => headFitted geo (u8 heads b)),
   ([secGeometry, secHeads], live.all fun h => (hs.filter fun b => u8 heads b == h).length == 1),
   ([secGeometry, secZones], zs.all fun o => headFitted geo (u8 zones o)),
   ([secGeometry, secHeads, secZones], live.all fun h => zoneSetOk heads zones h),
   ([secGeometry, secZones], live.all fun h => (startTracks zones h).headD 1 == 0 && rising (startTracks zones h)),
   ([secGeometry, secZones], live.all fun h => decide ((startTracks zones h).getLastD 0 ≤ lastTrack geo h)),
   ([secZones], lz.all fun o => (List.range 3).all fun k => decide (u16 zones (o + 0x10 + 2 * k) < u16 zones 2)),
   ([secHeads], (hs.filter fun b => live.contains (u8 heads b)).all fun b => readerOn d (u8 heads (b + 2)) (u8 heads (b + 3))),
   ([secHeads, secZones], lz.all (spanOk d heads zones)),
   ([secGeometry, secZones], lz.all (sectorsFit w zones)),
   ([secZones], lz.all (parityOk d zones)),
   ([secGeometry, secZones, secSpindle], lz.all (rateOk w lo hi zones)),
   ([secServoBanks, secSpindle], decide (u16 (sectionOf secs secServoBanks) 4 ≤ lo)),
   ([secSpindle, secSpinPolicy], decide (lo ≤ u16 pol 0 ∧ u16 pol 0 ≤ u16 pol 2 ∧ u16 pol 2 ≤ hi) &&
     (u16 pol 2 - u16 pol 0) % u16 pol 4 == 0),
   ([secThermal, secSpindle], decide (lo ≤ u16 (sectionOf secs secThermal) 4 ∧ u16 (sectionOf secs secThermal) 4 ≤ hi)),
   ([secSafety, secSpindle, secGeometry], decide (660000000 < 6 * u16 safe 4 * lo * w)),
   ([secSafety, secSpindle], d.lanes.all fun n => decide (u16 spin (0x122 + 64 * n) < u16 safe (8 + 2 * n) ∧
     u16 spin (0x124 + 64 * n) < u16 safe (8 + 2 * n))),
   ([secNamespaces, secGeometry, secZones], d.compat || (formAll space used ns fun _ => 0).isSome)]

/-! ## The sections of an image (R80 to R82) -/

/-- Whether a section meets its own chapter's rules; `secs` holds the sections it is read with. -/
def sectionOk (d : Die) (secs : Sparse (List Byte)) (ty : Nat) (l : List Byte) : Bool :=
  let geo := sectionOf secs secGeometry
  match ty with
  | 0x0001 => geometryOk l
  | 0x0002 => ddr5Ok d l
  | 0x0003 => zonesSectionOk d geo (sectionOf secs secHeads) l
  | 0x0004 => headsSectionOk d geo l
  | 0x0005 => servoBanksOk d l
  | 0x0006 => ladderOk l
  | 0x0007 => thermalOk l
  | 0x0008 => spinPolicyOk l
  | 0x0009 => routingOk l
  | 0x000A => namespacesOk d l
  | 0x000B => patchesOk d l
  | 0x000C => fuseRequestOk l
  | 0x000D => seqParamsOk l
  | 0x000E => identityOk l
  | 0x000F => spindleOk d l
  | 0x0010 => safetyOk d l
  | _ => true

/-- The required section types (R81). -/
def requiredSections : List Nat := [1, 2, 3, 4, 5, 7, 0x0E, 0x0F, 0x10]

/-- Whether the PX84 supports a section (R80, R81); in compatibility mode NAMESPACES is ignored (R574). -/
def sectionKnown (compat : Bool) (e : SectionEntry) : Bool :=
  decide (1 ≤ e.ty ∧ e.ty ≤ 0x10) && e.version == 1 && !(compat && e.ty == secNamespaces)

/-! ## The PX84 image (R77 to R80, R89, R106) -/

/-- Whether a header meets R77; its magic is checked before. -/
def headerOk (l : List Byte) : Bool :=
  fieldsOk l 0 [.u 4 2 1 1, .u 6 2 0x80 0x80, .u 0x14 4 0 1, .u 0x18 1 0 7, .u 0x1A 1 0 2, .z 0x1B 1, .u 0x1C 2 1 32, .z 0x1E 2,
      .u 0x20 4 0x80 0x80, .z 0x60 32] &&
    u64 l 8 != 0 && u32 l 0x10 % 16 == 0 && u32 l 0x28 + 29792 == u32 l 0x10 && u32 l 0x24 + 64 == u32 l 0x28 &&
    asciiAt l 0x30 48 && decide (0x80 + 48 * u16 l 0x1C ≤ u32 l 0x24)

/-- The section table (R78). -/
def sectionTable (img : List Byte) : List SectionEntry :=
  (List.range (u16 img 0x1C)).map fun i =>
    let b := 0x80 + 48 * i
    ⟨u16 img b, u16 img (b + 2), bit (u32 img (b + 4)) 0, u32 img (b + 8), u32 img (b + 0x0C), (img.drop (b + 0x10)).take 32⟩

/-- Bytes of a section. -/
def sectionBytes (img : List Byte) (e : SectionEntry) : List Byte := (img.drop e.offset).take e.length

/-- Whether an entry is of an Early section (R81). -/
def isEarly (e : SectionEntry) : Bool := decide (1 ≤ e.ty ∧ e.ty ≤ 0x10) && e.ty != secZones && e.ty != secHeads

/-- R78 and R79 on entry `i`, against the entries before it. -/
def entryOk (img : List Byte) (es : List SectionEntry) (i : Nat) (e : SectionEntry) : Bool :=
  let before := es.take i
  e.offset % 16 == 0 && decide (u32 img (0x80 + 48 * i + 4) ≤ 1) && decide (0x80 + 48 * es.length ≤ e.offset) &&
    decide (e.offset + e.length ≤ u32 img 0x24) &&
    before.all (fun f => f.ty != e.ty && (decide (f.offset + f.length ≤ e.offset) || decide (e.offset + e.length ≤ f.offset))) &&
    (Config.shake256 (sectionBytes img e) 32).take 32 == e.digest &&
    decide ((((before ++ [e]).filter isEarly).map (·.length)).foldl (· + ·) 0 ≤ 1048576)

/-- The supported sections by type. -/
def sectionsOf (compat : Bool) (img : List Byte) (es : List SectionEntry) : Sparse (List Byte) :=
  (es.filter (sectionKnown compat)).foldl (fun m e => Sparse.set (fun _ => []) m e.ty (sectionBytes img e)) []

/-- The place in the table of the last present section among some types (R746). -/
def lastIndex (es : List SectionEntry) (compat : Bool) (tys : List Nat) : Nat :=
  es.zipIdx.foldl (fun r (e, i) => if sectionKnown compat e && tys.contains e.ty then i else r) 0xFF

/-- VARIANT_MASK bit of a variant (R77). -/
def variantBit : Variant → Nat
  | .q => 0
  | .d => 1
  | .s => 2

/-- Whether the image is authentic but for its key (R89). -/
def signatureOk (img : List Byte) : Bool :=
  let ko := u32 img 0x24
  let so := u32 img 0x28
  Config.slhDsaVerify ((img.drop ko).take 64) ((Config.shake256 (img.take so) 64).take 64) ((img.drop so).take 29792)

/-- The mode an image would give (R60). -/
def imageCompat (v : Variant) (modeSel : Bool) (flags : Nat) : Bool := modeSel || !variantNvme v || bit flags 0

/-- Everything the verification pass checks of a PX84 image with a valid header: the error code and SECTION_INDEX of R106, or the
image. The order of the checks is the model's, but that digests come before the signature. -/
def checkImage (v : Variant) (keys : List KeySlot) (modeSel slotB : Bool) (slotSize : Nat) (img : List Byte) :
    Except (Nat × Nat) Image :=
  let compat := imageCompat v modeSel (u32 img 0x14)
  let key := keys.getD (u8 img 0x1A) (.blank false)
  let es := sectionTable img
  let secs := sectionsOf compat img es
  let d : Die := ⟨v, compat, List.range (variantLanes v)⟩
  if ¬ bit (u8 img 0x18) (variantBit v) ∨ 0x11 < u8 img 0x19 then .error (0x12, 0xFF)
  else if slotSize < u32 img 0x10 then .error (0x13, 0xFF)
  else if !key.programmed ∨ key.revoked ∨ key.eccFail ∨
      (Config.shake256 ((img.drop (u32 img 0x24)).take 64) 32).take 32 ≠ key.hash.toList then .error (0x14, 0xFF)
  else
    match es.zipIdx.find? fun (e, i) => !entryOk img es i e with
    | some (_, i) => .error (0x16, i)
    | none =>
      if !signatureOk img then .error (0x15, 0xFF)
      else
        match es.zipIdx.find? fun (e, _) =>
            if sectionKnown compat e then !sectionOk d secs e.ty (sectionBytes img e)
            else e.critical && !(compat && e.ty == secNamespaces) with
        | some (_, i) => .error (0x16, i)
        | none =>
          if requiredSections.any fun t => !(secs.any (·.1 == t)) then .error (0x17, 0xFF)
          else
            match (crossChecks d secs).find? fun c => !c.2 with
            | some (tys, _) => .error (0x16, lastIndex es compat tys)
            | none => .ok
              { dv40 := false, slotB := slotB, seq := u64 img 8, keySlot := u8 img 0x1A, buildId := u32 img 0x2C,
                label := (img.drop 0x30).take 48, entries := es, sections := secs }

/-! ## The DV-40 image (R95, R602 to R604) -/

/-- A block of the directory: tag, offset, length, version. -/
def dvBlocks (img : List Byte) : List (Nat × Nat × Nat × Nat) :=
  (List.range (u16 img 0x10)).map fun i =>
    let b := 0x40 + 16 * i
    (u32 img b, u32 img (b + 4), u32 img (b + 8), u16 img (b + 12))

/-- A tag's four characters as the little-endian number the directory holds. -/
def dvTag (t : String) : Nat := leVal (ascii t)

/-- The bytes of the block with a tag. -/
def dvBlock (img : List Byte) (t : String) : Option (List Byte) :=
  ((dvBlocks img).find? fun b => b.1 == dvTag t).map fun (_, o, n, _) => (img.drop o).take n

/-- The same, empty where it is absent. -/
def dvBytes (img : List Byte) (t : String) : List Byte := (dvBlock img t).getD []

/-- The directory (R603): blocks inside the image, not overlapping header, directory or each other, no tag twice. -/
def dvDirectoryOk (img : List Byte) : Bool :=
  let n := u16 img 0x10
  let bs := dvBlocks img
  let stop := u32 img 0x0C - 4
  decide (1 ≤ n ∧ n ≤ 32) && u32 img 0x14 == 0x40 && decide (0x40 + 16 * n ≤ stop) && distinct (bs.map (·.1)) &&
    bs.zipIdx.all fun ((_, o, len, _), i) => o % 4 == 0 && decide (0x40 + 16 * n ≤ o) && decide (o + len ≤ stop) &&
      (bs.take i).all fun (_, p, m, _) => decide (p + m ≤ o) || decide (o + len ≤ p)

/-- VERSION 1 and the LENGTH of R604 of a block, where it is present. -/
def dvShape (img : List Byte) (t : String) (required : Bool) (len : Nat) : Bool :=
  match (dvBlocks img).find? fun b => b.1 == dvTag t with
  | none => !required
  | some (_, _, n, ver) => ver == 1 && n == len

/-- The fields of the blocks that have no PX84 counterpart, and the reserved bytes (R604). -/
def dvFieldsOk (img : List Byte) : Bool :=
  let drv := dvBytes img "DRIV"
  let geo := dvBytes img "GEOM"
  let zon := dvBytes img "ZONE"
  let hd := dvBytes img "HEAD"
  let srv := dvBytes img "SRVO"
  let mot := dvBytes img "MOTR"
  let presets := u16 zon 2
  let smart := dvBytes img "SMRT"
  let ids := ((List.range 16).map fun i => u8 smart (2 * i)).takeWhile (· != 0)
  fieldsOk drv 0 [.u 0x4C 2 3000 10800, .u 0x4E 1 0 1, .z 0x4F 17] &&
    fieldsOk geo 0 [.u 2 1 1 8, .z 3 5] && (List.range 8).all (fun h => decide (h < u8 geo 2) || u32 geo (8 + 4 * h) == 0) &&
    fieldsOk zon 0 [.u 0 2 1 512, .u 2 2 1 64, .z 4 12] && (List.range presets).all (fun i => zeroAt zon (16 + 64 * i + 0x3C) 4) &&
    (List.range (u16 zon 0)).all (fun i =>
      fieldsOk zon (16 + 64 * presets + 80 * i) [.u 0 1 0 7, .z 2 2, .z 0x0E 2, .z 0x46 10]) &&
    fieldsOk hd 0 [.u 0 2 1 8, .z 2 14] &&
    (List.range (u16 hd 0)).all (fun i => fieldsOk hd (16 + 16 * i) [.u 0 1 0 7, .u 2 1 0 1, .z 3 1, .z 0x0A 6]) &&
    fieldsOk srv 0 [.z 1 1, .z 4 4, .z (0x20 + 0x182) 6] && zeroAt mot 0x32 14 &&
    ((dvBlock img "RTRY").isNone || fieldsOk (dvBytes img "RTRY") 0 [.u 0 2 50 30000, .z 2 14]) &&
    (List.range ids.length).all fun i => decide (u8 smart (2 * i + 1) ≤ 100)

/-- A signed or unsigned 16-bit list of readers A and B with C 0. -/
def dvReaders (l : List Byte) (o : Nat) : List Byte := (l.drop o).take 4 ++ zeros 2

/-- GEOMETRY from GEOM (R601). -/
def dvGeometry (geo : List Byte) : List Byte :=
  geo.take 2 ++ zeros 6 ++ (List.range 32).map (fun h => if h < u8 geo 2 then BitVec.ofNat 8 (0x80 + h) else 0) ++
    padTo 128 ((geo.drop 8).take 32)

/-- A preset (R604 to R231); the eight noise-predictor taps fill the first four patterns (DESIGN CHOICE, log entry 31). -/
def dvPreset (l : List Byte) (b : Nat) : List Byte :=
  (l.drop b).take 20 ++ zeros 12 ++ (l.drop (b + 0x14)).take 20 ++ zeros 12 ++ zeros 32 ++ (l.drop (b + 0x28)).take 4 ++ zeros 4 ++
    (l.drop (b + 0x2C)).take 16 ++ zeros 16 ++ zeros 8

/-- A zone entry (R601, R604). -/
def dvZone (l : List Byte) (b : Nat) : List Byte :=
  (l.drop b).take 2 ++ zeros 2 ++ (l.drop (b + 4)).take 10 ++ zeros 2 ++ (l.drop (b + 0x10)).take 8 ++ dvReaders l (b + 0x18) ++
    dvReaders l (b + 0x1C) ++ dvReaders l (b + 0x20) ++ dvReaders l (b + 0x24) ++ dvReaders l (b + 0x28) ++ dvReaders l (b + 0x2C) ++
    dvReaders l (b + 0x30) ++ (l.drop (b + 0x34)).take 8 ++ [32, 8, 4] ++ zeros 3 ++ (l.drop (b + 0x3C)).take 10 ++ zeros 38

/-- ZONES from ZONE (R601). -/
def dvZones (l : List Byte) : List Byte :=
  l.take 4 ++ zeros 12 ++ (List.range (u16 l 2)).flatMap (fun i => dvPreset l (16 + 64 * i)) ++
    (List.range (u16 l 0)).flatMap fun i => dvZone l (16 + 64 * u16 l 2 + 80 * i)

/-- HEADS from HEAD (R601). -/
def dvHeads (l : List Byte) : List Byte :=
  l.take 2 ++ zeros 14 ++ (List.range (u16 l 0)).flatMap fun i =>
    let b := 16 + 16 * i
    (l.drop b).take 2 ++ [3] ++ (l.drop (b + 2)).take 1 ++ dvReaders l (b + 4) ++ (l.drop (b + 8)).take 2 ++ zeros 52

/-- SERVO_BANKS from SRVO (R601): one band from 3,000 rpm, its bank on lane 0. -/
def dvServo (l : List Byte) : List Byte :=
  [1] ++ l.take 1 ++ zeros 2 ++ leBytes 2 3000 ++ zeros 14 ++ (l.drop 2).take 2 ++ zeros 2 ++ (l.drop 8).take 24 ++ zeros 16 ++
    (l.drop 0x20).take 400 ++ zeros 1200

/-- SPINDLE from MOTR, its three speeds from DRIV (R601). -/
def dvSpindle (l drv : List Byte) : List Byte :=
  let rpm := (drv.drop 0x4C).take 2
  l.take 4 ++ rpm ++ rpm ++ rpm ++ (l.drop 0x0A).take 40 ++ zeros 206 ++ (l.drop 0x40).take 64 ++ zeros 192

/-- THERMAL from THRM; CAP_RPM is NOMINAL_RPM, the on-die channels take the ROM defaults (R601, R632). -/
def dvThermal (gradeX : Bool) (l drv : List Byte) : List Byte :=
  l.take 4 ++ (drv.drop 0x4C).take 2 ++ (l.drop 6).take 282 ++ (List.range 4).flatMap fun c => romChannel gradeX (8 + c)

/-- The sections a DV-40 image stands for (R601); type 0x10000 keeps SMRT and 0x10001 SECTOR_FORMAT. -/
def dvSections (gradeX : Bool) (img : List Byte) : Sparse (List Byte) :=
  let drv := dvBytes img "DRIV"
  let limit := match dvBlock img "RTRY" with
    | some r => r.take 2
    | none => leBytes 2 3000
  [(secGeometry, dvGeometry (dvBytes img "GEOM")), (secZones, dvZones (dvBytes img "ZONE")), (secHeads, dvHeads (dvBytes img "HEAD")),
   (secServoBanks, dvServo (dvBytes img "SRVO")), (secLadder, romLadder.take 2 ++ limit ++ romLadder.drop 4),
   (secThermal, dvThermal gradeX (dvBytes img "THRM") drv),
   (secSpinPolicy, (drv.drop 0x4C).take 2 ++ (drv.drop 0x4C).take 2 ++ romSpinPolicy.drop 4),
   (secIdentity, drv.take 0x4C ++ zeros 20), (secSpindle, dvSpindle (dvBytes img "MOTR") drv),
   (0x10000, dvBytes img "SMRT"), (0x10001, (drv.drop 0x4E).take 1)].filter fun x => !x.2.isEmpty

/-- The verification pass on a DV-40 image, in the order of R95: the error code, or the image. -/
def checkDv40 (v : Variant) (gradeX slotB : Bool) (slotSize : Nat) (img : List Byte) : Except (Nat × Nat) Image :=
  let size := u32 img 0x0C
  let d : Die := ⟨v, true, [0]⟩
  let secs := dvSections gradeX img
  if slotSize < size then .error (0x13, 0xFF)
  else if size < 128 ∨ size % 4 ≠ 0 then .error (0x1A, 0xFF)
  else if crc32 (img.take (size - 4)) ≠ u32 img (size - 4) then .error (0x19, 0xFF)
  else if u16 img 4 ≠ 3 ∨ u32 img 0x1C ≠ 0 ∨ !dvDirectoryOk img then .error (0x1A, 0xFF)
  else if !(dvShape img "DRIV" true 96 && dvShape img "GEOM" true 40 && dvShape img "SRVO" true 432 && dvShape img "MOTR" true 128 &&
      dvShape img "THRM" true 288 && dvShape img "RTRY" false 16 && dvShape img "SMRT" false 32 &&
      dvShape img "ZONE" true (16 + 64 * u16 (dvBytes img "ZONE") 2 + 80 * u16 (dvBytes img "ZONE") 0) &&
      dvShape img "HEAD" true (16 + 16 * u16 (dvBytes img "HEAD") 0)) then .error (0x1A, 0xFF)
  else if !dvFieldsOk img ∨ !(secs.all fun x => sectionOk d secs x.1 x.2) ∨ !((crossChecks d secs).all (·.2)) then
    .error (0x1A, 0xFF)
  else .ok
    { dv40 := true, slotB := slotB, seq := u32 img 8, keySlot := 3, buildId := u32 img 8, label := [], entries := [],
      sections := secs }

/-- DDR5 for a DV-40 image (R605): 4,800 MT/s with what training found: subchannels (0x1 or 0x3), ranks and density code; the
latencies are the slowest bin's, which the spec does not state, and stay 0 here. -/
def dvDdr5 (found : Nat × Nat × Nat) : List Byte :=
  [0, BitVec.ofNat 8 found.2.2, BitVec.ofNat 8 found.2.1, BitVec.ofNat 8 found.1, 4, 2] ++ leBytes 2 64 ++ leBytes 2 3600 ++
    leBytes 2 1024 ++ leBytes 2 60 ++ [16, 0] ++ leBytes 4 0 ++ leBytes 4 64 ++ zeros 8

end Sys2Proof.Machine
end

