-- ==== Sys2Proof/Machine/Boot.lean ====
section
/-! DEFINITION. The boot sequence (chapters 2 and 3): POR_N and the supply domains, each stage's end, the hold state, the fuse
requests, the patch lock, and how lanes and namespaces become ready. -/

namespace Sys2Proof.Machine

/-- The boot engine's record replaced. -/
def State.setBoot (s : State) (b : Boot) : State := { s with boot := b }

/-- Blocks take over their pins (R44). -/
def State.takePins (s : State) (l : List PinOwner) : State :=
  { s with pins := { s.pins with taken := l.foldl (fun t o => t.insert o) s.pins.taken } }

/-- Show a boot stage. -/
def State.setStage (s : State) (k : Nat) : State := s.put Reg.IMG_BOOT_STATUS_STAGE k

/-- Whether the boot stands in a stage. -/
def State.inStage (s : State) (k : Nat) : Bool := s.powered && s.boot.running && !s.held && s.stage == k

/-- Whether MODE_SEL or the variant selects compatibility mode (R60, R104). -/
def State.strapCompat (s : State) : Bool := s.boot.straps.modeSel || !variantNvme s.fuses.variant

/-! ## POR_N (R58, R59, R70) -/

/-- Everything that POR_N resets, at its reset value: fuses, flash, media, what the system areas hold, the levels at inputs
and the two SMART settings stay, and so do the model's own fields. -/
def State.powerReset (s : State) : State :=
  { State.reset with
    pending := s.pending, free := s.free, out := s.out
    fuses := s.fuses, flash := s.flash, media := s.media, fills := s.fills
    pins := { State.reset.pins with domains := s.pins.domains, motorFaultN := s.pins.motorFaultN }
    lanes := Vector.ofFn fun n =>
      { LaneState.reset with sys := s.lanes[n].sys, fmt := { LaneState.reset.fmt with pfaultN := s.lanes[n].fmt.pfaultN } }
    cache := { Cache.reset with saved := s.cache.saved }
    hif := { Hif.reset with
      ports := Vector.ofFn fun p => { PortState.reset with perstN := s.hif.ports[p].perstN }
      sata := { Sata.reset with smart := s.hif.sata.smart, autosave := s.hif.sata.autosave } } }

/-- POR_N_FALL (R58): every output enters its reset state; a sector being written is left partly written. -/
def execPorNFall (s : State) : Host.Outcome State Fault Refusal :=
  .next <|
    if !s.pins.porN then s
    else ((List.finRange 4).foldl (fun s n => if (s.lane n).fmt.wgate then s.cutWrite n else s) s).powerReset

/-- POR_N_RISE (R59 to R61, R70): the straps are captured, and boot begins with the FUSE stage unless TESTMODE was sampled 1. -/
def execPorNRise (straps : Straps) (s : State) : Host.Outcome State Fault Refusal :=
  .next <|
    if s.pins.porN then s
    else
      let s1 := s.powerReset
      let s2 := { s1 with pins := { s1.pins with porN := true } }
      s2.setBoot { s2.boot with running := !straps.testMode, straps := straps,
                                compat := straps.modeSel || !variantNvme s2.fuses.variant }

/-- SUPPLY_DOMAIN_IN_RANGE (R44, R55): a domain comes within range while POR_N is low; its outputs are in their reset states,
and with VDDIO_18 the oscillators and comparators run. -/
def execSupplyDomainInRange (d : Domain) (s : State) : Host.Outcome State Fault Refusal :=
  .next (if s.pins.porN then s else { s with pins := { s.pins with domains := s.pins.domains.insert d } })

/-! ## The patch lock (R98, R156, R185 to R188, R653) -/

/-- The Mend words of PATCHES; their PAR bits read 0 (R145). -/
def mendOf (l : List Byte) : Sparse (BitVec 128) :=
  (List.range (u16 l 0)).foldl (fun m j =>
    Sparse.set (fun _ => 0) m j (BitVec.ofNat 128 (field l (patchWords l + 16 * j) 16 % 2 ^ 124))) []

/-- The match registers of PATCHES; an entry for an absent sequencer is ignored (R87). -/
def State.loadMatches (s : State) (l : List Byte) : State :=
  (List.range (u16 l 2)).foldl (fun s i =>
    let b := 8 + 8 * i
    if s.seqPresent (u8 l b) then
      s.setReg (0x21000 + 0x80 * u8 l b + 4 * u8 l (b + 1)) (BitVec.ofNat 32 (u16 l (b + 2) + u16 l (b + 4) * 2 ^ 16 + 2 ^ 31))
    else s) s

/-- EVENT_ROUTING overwrites the words it names (R185, R187, R188). -/
def State.loadRouting (s : State) (l : List Byte) : State :=
  (List.range (u16 l 0)).foldl (fun s i =>
    let id := u16 l (0x10 + 4 * i) % 2 ^ 11
    let w := u16 l (0x12 + 4 * i)
    if s.absentEvent id ∨ s.routeReserved w then s
    else (s.put (Reg.EVT_ROUTE_WORD id) w).put ⟨0x10000 + 4 * id, 16, 16⟩ (flag (bit (u16 l (0x10 + 4 * i)) 15))) s

/-- Lookout's limits (R653, R665, R671). -/
def State.loadLimits (s : State) : State :=
  let l := s.safety
  let s1 := ((s.put Reg.LKO_TRIP_V12_TRIP (u16 l 0)).put Reg.LKO_TRIP_V5_TRIP (if bit (u8 l 7) 0 then u16 l 2 else 0)).put
    Reg.LKO_LIMITS_WEDGE_TIMEOUT_US (u16 l 4)
  s1.put Reg.LKO_LIMITS_OVERSPEED_RPM (ceilDiv (112 * s.spin16 8) 100)

/-- The sequencers start at the base of their segments (R138), with every privileged latch clear (log entry 171). -/
def State.startSeqs (s : State) : State :=
  { s with seqs := Vector.ofFn fun q =>
      let c : SeqCtx := { SeqCtx.reset with pc := segBase q.val }
      if s.seqPresent q.val ∧ (4 ≤ q.val ∨ s.used q.val) then { Seq.reset with ctx := c, chk := c, run := .running } else s.seqs[q] }

/-- The patch lock with the content of a PATCHES section; an empty one leaves Mend empty and every match register disabled. -/
def State.patchLock (s : State) (patches : List Byte) : State :=
  let s1 := { s with mend := mendOf patches, regs := s.regs.filter fun r => r.1 < 0x21000 || 0x21380 ≤ r.1 }
  ((s1.loadMatches patches).put Reg.IMG_BOOT_STATUS_LOCKED 1).startSeqs.takePins
    (.avs :: ((List.finRange 8).filter fun i => u8 (s1.channel i.val) 0 != 0).map .kiln)

/-! ## The hold state (R104, R105) -/

/-- The front end: from the end of FUSE on, the flash, the sideband and the present ports answer (R97). -/
def State.frontEnd (s : State) : State :=
  let ports : List PinOwner := if s.boot.compat then [.pcie 0] else (List.finRange 2).flatMap fun (p : Port) =>
    if s.portPresent p.val then [PinOwner.pcie p, .pcieNative p] else []
  let s1 := s.takePins ([.flash, .sideband] ++ ports)
  { s1 with pins := { s1.pins with xspiResetN := true }, boot := { s1.boot with fuseEnded := true } }

/-- Enter the hold state with an error of R106 (R104). The mode falls back to MODE_SEL and the variant before the patch lock only: what
GLB.CAP1.MODE shows once the registers answer stays (R34). -/
def State.enterHold (s : State) (err : Nat) : State :=
  let s1 := (s.put Reg.IMG_BOOT_STATUS_HOLD 1).put Reg.IMG_BOOT_STATUS_ERR err
  let s2 := if s1.locked then s1 else s1.setBoot { s1.boot with compat := s1.strapCompat }
  let s3 := if s2.boot.fuseEnded then s2 else s2.frontEnd
  let s4 := if s3.locked then s3 else s3.patchLock []
  s4.raise 0x012 (s.stage + err * 2 ^ 8)

/-! ## FUSE and PROBE (R72 to R74, R92, R94) -/

/-- FUSE_STAGE_END (R97, R106). -/
def execFuseStageEnd (eccOk : Bool) (s : State) : Host.Outcome State Fault Refusal :=
  .next <|
    if !s.inStage 0 ∨ s.boot.fuseEnded then s
    else if eccOk then s.frontEnd.setStage 1 else s.frontEnd.enterHold 0x01

/-- Bytes of an image slot (R74). -/
def State.slotSize (s : State) : Nat := (s.boot.density - 4194304) / 2

/-- The first `n` bytes of a slot. -/
def State.slotHead (s : State) (b : Bool) (n : Nat) : List Byte :=
  Memory.read flashDefault s.flash (if b then s.slotSize else 0) n

/-- IMG.SLOT_A_RESULT or IMG.SLOT_B_RESULT (R112). -/
def State.slotResult (s : State) (b : Bool) (state err index : Nat) : State :=
  let i := flag b
  ((s.put (Reg.IMG_SLOT_RESULT_STATE i) state).put (Reg.IMG_SLOT_RESULT_ERR i) err).put (Reg.IMG_SLOT_RESULT_SECTION_INDEX i) index

/-- A slot error is reported (R106): the result, and event 0x010. -/
def State.slotError (s : State) (b : Bool) (err index : Nat) : State :=
  (s.slotResult b (if err = 0x10 then 1 else 4) err index).raise 0x010 (flag b + err * 2 ^ 8 + index * 2 ^ 16)

/-- What a slot's header makes of it (R92, R602): a candidate, or an error. -/
def State.examine (s : State) (b : Bool) : Except Nat Candidate :=
  let h := s.slotHead b 128
  if u32 h 0 = 0x4D495850 then (if headerOk h then .ok ⟨b, false, u64 h 8⟩ else .error 0x11)
  else if u32 h 0 = 0x30345644 ∧ u16 h 6 = 0x40 then
    if s.strapCompat ∧ !s.fuses.signedOnly then .ok ⟨b, true, u32 h 8⟩ else .error 0x18
  else .error 0x10

/-- Whether a candidate goes before another of a later slot (R92). -/
def Candidate.before (x y : Candidate) : Bool :=
  if x.dv40 == y.dv40 then decide (y.seq ≤ x.seq) else y.dv40

/-- The candidates in order (R92), with the errors of the other slots reported. -/
def State.findCandidates (s : State) : List Candidate × State :=
  match s.examine false, s.examine true with
  | .ok x, .ok y => (if x.before y then [x, y] else [y, x], s)
  | .ok x, .error e => ([x], s.slotError true e 0xFF)
  | .error e, .ok y => ([y], s.slotError false e 0xFF)
  | .error e, .error f => ([], (s.slotError false e 0xFF).slotError true f 0xFF)

/-- PROBE_STAGE_END (R72 to R74, R92, R106). -/
def execProbeStageEnd (r : ProbeResult) (s : State) : Host.Outcome State Fault Refusal :=
  .next <|
    if !s.inStage 1 then s
    else
      match r with
      | .noResponse => s.enterHold 0x02
      | .found size octal cmds =>
        let s1 := (s.put Reg.IMG_FLASH_SIZE_DENSITY size).put Reg.IMG_BOOT_STATUS_SLOW_FLASH (flag (!s.boot.straps.xspiSel && !octal))
        if size < 16777216 ∨ 134217728 < size then s1.enterHold 0x03
        else
          let s2 := s1.setBoot { s1.boot with density := size, octal := octal, flashCmds := cmds }
          let (l, s3) := s2.findCandidates
          let s4 := (s3.setBoot { s3.boot with cands := some l, first := l.head? }).setStage 2
          if l.isEmpty then s4.enterHold 0x20 else s4

/-! ## SELECT (R92 to R95) -/

/-- The checks of the verification pass on a candidate. -/
def State.verify (s : State) (c : Candidate) : Except (Nat × Nat) Image :=
  let n := min s.slotSize (u32 (s.slotHead c.slotB 128) (if c.dv40 then 0x0C else 0x10))
  let img := s.slotHead c.slotB n
  if c.dv40 then checkDv40 s.fuses.variant s.fuses.gradeX c.slotB s.slotSize img
  else checkImage s.fuses.variant s.fuses.keys.toList s.boot.straps.modeSel c.slotB s.slotSize img

/-- The PCIe side falls away where an image selects compatibility mode (R48, R60); its pins go back to their reset state (log entry
173). -/
def State.toCompat (s : State) : State :=
  if s.boot.compat then s
  else
    let s1 := (List.finRange 2).foldl (fun s p =>
      let t := (s.portDown p).setCtl p .reset
      t.setPort p { PortState.reset with perstN := (t.port p).perstN }) s
    let s2 := s1.setHif { s1.hif with cmds := [] }
    { s2 with boot := { s2.boot with compat := true }, pins := { s2.pins with taken := s2.pins.taken.filter fun o => o != .pcie 1 && o != .pcieNative 0 && o != .pcieNative 1 } }

/-- A candidate is chosen (R92): its Early sections are committed, the mode is resolved (R60), and SELECT ends. -/
def State.choose (s : State) (c : Candidate) (rest : List Candidate) (m : Image) : State :=
  let s1 := ((s.slotResult c.slotB 2 0 0xFF).put Reg.IMG_BOOT_STATUS_SLOT (if c.slotB then 2 else 1)).put
    Reg.IMG_BOOT_STATUS_IMAGE_KIND (if c.dv40 then 2 else 1)
  let s2 := rest.foldl (fun s x => s.slotResult x.slotB 3 0 0xFF) (s1.put Reg.IMG_BOOT_STATUS_KEY_SLOT (m.keySlot % 4))
  let flags := u32 (s.slotHead c.slotB 128) 0x14
  let s3 := if c.dv40 ∨ bit flags 0 then s2.toCompat else s2
  let s4 := s3.setBoot { s3.boot with cands := some [], image := some m }
  let s5 := if s4.boot.first = some c then s4 else s4.raise 0x011 (flag c.slotB)
  (if c.dv40 then s5.raise 0x015 m.buildId else s5).setStage 3

/-- SLOT_VERIFICATION_PASS (R92, R93): a pass over the next candidate ends, with or without a flash read error. -/
def execSlotVerificationPass (readError : Bool) (s : State) : Host.Outcome State Fault Refusal :=
  .next <|
    if !s.inStage 2 then s
    else
      match s.boot.cands with
      | some (c :: rest) =>
        let s := s.wake .imgEng
        if readError ∧ !s.boot.readRetried then s.setBoot { s.boot with readRetried := true }
        else
          match (if readError then .error (0x1B, 0xFF) else s.verify c) with
          | .ok m => s.choose c rest m
          | .error (e, i) =>
            let s1 := (s.setBoot { s.boot with cands := some rest, readRetried := false }).slotError c.slotB e i
            if rest.isEmpty then s1.enterHold 0x20 else s1
      | _ => s

/-! ## LOCK (R90, R91, R98, R664) -/

/-- A fuse key slot replaced. -/
def State.setKey (s : State) (i : Nat) (k : KeySlot) : State :=
  { s with fuses := { s.fuses with keys := Vector.ofFn fun j => if j.val = i then k else s.fuses.keys[j] } }

/-- Event 0x014: a request is rejected; reason 0 conflict, 1 signing slot, 2 burn failed. -/
def State.fuseRejected (s : State) (entry action reason : Nat) : State :=
  s.raise 0x014 (entry % 4 + (action - 1) % 4 * 2 ^ 8 + reason * 2 ^ 16)

/-- The 32 bytes of a key hash. -/
def keyHash (l : List Byte) : Vector Byte 32 := Vector.ofFn fun i => l.getD i.val 0

/-- One request of FUSE_REQUEST (R91); `burnFails` says that the burn fails its read-back. A burn of a slot with an uncorrectable error
gives it the new hash and clears the error (log entry 125). -/
def State.fuseRequest (s : State) (entry : Nat) (e : List Byte) (burnFails : Bool) : State :=
  let action := u8 e 0
  let i := u8 e 1
  let hash := keyHash (e.drop 8)
  let k := s.fuses.keys.toList.getD i (.blank false)
  let signing : Bool := s.get Reg.IMG_BOOT_STATUS_KEY_SLOT == i
  let burn := fun (t : State) (payload : Nat) => if burnFails then s.fuseRejected entry action 2 else t.raise 0x013 payload
  if action = 1 then
    if k.revoked then s.fuseRejected entry action 0
    else if k.programmed ∧ !k.eccFail then (if k.hash = hash then s else s.fuseRejected entry action 0)
    else burn (s.setKey i ⟨hash, true, false, false⟩) i
  else if action = 2 then
    if signing then s.fuseRejected entry action 1
    else burn (s.setKey i { k with revoked := true }) (i + 2 ^ 8)
  else if s.fuses.signedOnly then s
  else burn { s with fuses := { s.fuses with signedOnly := true } } (2 ^ 9)

/-- The requests of an authentic PX84 image, in entry order (R90). -/
def State.fuseRequests (s : State) (fails : List Nat) : State :=
  let l := s.section secFuse
  (List.range (l.length / 40)).foldl (fun s i => s.fuseRequest i ((l.drop (40 * i)).take 40) (fails.contains i)) s

/-- The bits of LKO.SELFTEST whose units are on the die (R664, R672). -/
def State.selfTestMask (s : State) : List Nat :=
  [0, 1, 2, 3, 4, 5] ++ (List.range s.laneCount).flatMap (fun n => [6 + n, 10 + n, 14 + n]) ++
    ((List.range 7).filter s.seqPresent).map (18 + ·)

/-- LOCK_STAGE_END (R91, R98, R104, R664): `burnFails` are the fuse requests whose read-back fails, `selfTestFails` the bits of
LKO.SELFTEST whose monitor failed. -/
def execLockStageEnd (burnFails selfTestFails : List Nat) (s : State) : Host.Outcome State Fault Refusal :=
  .next <|
    if !s.inStage 3 then s
    else
      let s1 := if s.hasSection secFuse then s.fuseRequests burnFails else s
      let s2 := (if s1.hasSection secPatches then s1.patchLock (s1.section secPatches) else s1.patchLock [])
      let s3 := ((if s2.hasSection secRouting then s2.loadRouting (s2.section secRouting) else s2).loadLimits).takePins
        (((List.finRange 4).filter fun n => s2.used n.val).map .lane)
      let bad := s3.selfTestMask.filter selfTestFails.contains
      let word := (s3.selfTestMask.filter fun i => !bad.contains i).foldl (fun w i => w + 2 ^ i) (2 ^ 31)
      let s4 := s3.setReg 0xA002C (BitVec.ofNat 32 word)
      if bad.isEmpty then ((s4.setBoot { s4.boot with lockEnded := true }).takePins
        (if s4.bufRanks = 2 then [.ddr, .ddrRank1] else [.ddr])).setStage 4 else s4.enterHold 0x38

/-! ## MEMORY (R444, R445, R449, R471 to R473, R605) -/

/-- DDR5_TRAINING_END (R442 to R445, R472, R475, R476, R605): `fails` are the failing chips (group, chip), `found` what training
finds where the image describes no DDR5, `checkFail` a failed checker injection. -/
def execDdr5TrainingEnd (fails : List (Nat × Nat)) (found : Nat × Nat × Nat) (checkFail : Bool) (s : State) :
    Host.Outcome State Fault Refusal :=
  .next <|
    if !s.inStage 4 ∨ s.boot.memTrained then s
    else
      let s1 := s.setBoot { s.boot with image := s.boot.image.map fun (m : Image) =>
        if m.dv40 then { m with sections := Sparse.set (fun _ => []) m.sections secDdr5 (dvDdr5 found) } else m }
      let s2 := (((((s1.put Reg.BUF_CONFIG_CAPACITY s1.bufGiB).put Reg.BUF_CONFIG_RANKS (flag (s1.bufRanks == 2))).put
        Reg.BUF_CONFIG_SUBCH (s1.sec8 secDdr5 3)).put Reg.BUF_CONFIG_DENSITY (s1.sec8 secDdr5 1)).put Reg.BUF_CONFIG_RATE
        (s1.sec8 secDdr5 0)).put Reg.BUF_STATE_TRAINED 1
      let s3 := (List.range 4).foldl (fun s g => if s.groupFitted g then s else s.put (bufGroupField g) 0xE) s2
      let bad := fun (g : Nat) => ((fails.filter fun x => x.1 == g && decide (x.2 < 5)).map (·.2)).eraseDups
      let groups := (List.range 4).filter s3.groupFitted
      if groups.any fun g => !(bad g).isEmpty && !(bit (s3.sec8 secDdr5 4) 1 && (bad g).length == 1) then s3.enterHold 0x30
      else
        let s4 := groups.foldl (fun s g => match (bad g).head? with
          | some c => (s.enterShard g c).raise 0x706 (c + g / 2 * 2 ^ 4 + g % 2 * 2 ^ 5 + 2 * 2 ^ 6)
          | none => s) s3
        if checkFail then s4.enterHold 0x31 else s4.setBoot { s4.boot with memTrained := true }

/-- Pages named by BUF_HARD_FAULT and BUF_RETIRED records of Cairn's current region (R471), with "by request". -/
def State.loggedPages (s : State) : List (Nat × Bool) :=
  ((s.takeSlots s.crn.spare 16384 0).filter fun x => slotCrcOk x.2 && (slotId x.2 == 0x702 || slotId x.2 == 0x703)).map fun x =>
    (field x.2 0x18 6 % 2 ^ 23, slotId x.2 == 0x703 && bit (field x.2 0x18 6) 35)

/-- MARCH_C_END (R449, R471, R473, R483): the March test ends with its faulty pages; BS retires what R471 names, the fill starts
and BULK begins. -/
def execMarchCEnd (faults : List Nat) (s : State) : Host.Outcome State Fault Refusal :=
  .next <|
    if !s.inStage 4 ∨ !s.boot.memTrained then s
    else
      let ran : Bool := s.sec32 secDdr5 0x14 != 0
      let found := if ran then (faults.filter (· < s.bufPages)).eraseDups else []
      let logged := s.loggedPages.filter (·.1 < s.bufPages)
      let pages := (logged ++ found.map fun p => (p, false)).foldl (fun (l : List (Nat × Bool)) x =>
        if l.any (·.1 == x.1) then l else l ++ [x]) []
      if 4096 < pages.length then s.enterHold 0x32
      else
        let s1 := pages.foldl (fun s x => (s.retirePage x.1 x.2).1) s
        let s2 := ((s1.put Reg.BUF_MARCH_DONE 1).put Reg.BUF_MARCH_FAULTS (min 65535 found.length)).put Reg.BUF_MARCH_RETIRED
          (min 32767 pages.length)
        let s3 := if ran then s2.raise 0x709 (min 65535 found.length + min 65535 pages.length * 2 ^ 16) else s2
        (s3.put Reg.BUF_FILL_MARK_PAGE 0).setStage 5

/-- BUFFER_FILL_END (R449): every page is filled. -/
def execBufferFillEnd (s : State) : Host.Outcome State Fault Refusal :=
  .next <|
    if s.stage < 5 ∨ s.held ∨ s.get Reg.BUF_STATE_FILL_DONE = 1 then s
    else (s.put Reg.BUF_FILL_MARK_PAGE s.bufPages).put Reg.BUF_STATE_FILL_DONE 1

/-- STAGE_TIMEOUT (R103): a limit of FUSE to BULK has passed. -/
def execStageTimeout (s : State) : Host.Outcome State Fault Refusal :=
  .next (if s.powered ∧ s.boot.running ∧ !s.held ∧ s.stage ≤ 5 then s.enterHold 0x3F else s)

/-! ## BULK (R81, R100, R106) -/

/-- Whether the Bulk sections read again still have their DIGEST. -/
def State.bulkOk (s : State) : Bool :=
  match s.boot.image with
  | none => false
  | some m => m.entries.all fun e => !(e.ty == secZones || e.ty == secHeads) ||
      (Config.shake256 (((s.slotHead m.slotB (e.offset + e.length)).drop e.offset)) 32).take 32 == e.digest

/-- The namespaces with what the system areas keep of them (R543, R575, R579, R582); the first boot takes LBAF from NAMESPACES. -/
def State.formedNamespaces (s : State) : List Namespace :=
  s.nsMaps.zipIdx.map fun (m, i) =>
    (s.cache.saved.namespaces[i]?).getD ⟨flag (bit m.flags 1), 0, false, 0, [], none, 0, 0, false, 0, 0⟩

/-- What the system areas keep of the subsystem comes into force (R543, R563, R579, R582, R613). -/
def State.restoreConfig (s : State) : State :=
  let v := s.cache.saved
  let failed : Option Bool := if v.sanitized % 8 = 3 then some (bit v.sanitizedCdw10 3) else none
  let s1 := s.setCache { s.cache with
    namespaces := s.formedNamespaces, wce := v.wce, rrl := v.rrl, sanitizeStatus := v.sanitized
    sanitizeCdw10 := v.sanitizedCdw10, sanitizeFailed := failed }
  let k4 := match v.format4k with
    | some b => b
    | none => bit (s.sec8 0x10001 0) 0
  ((s1.setWunc v.wunc).showCache).put Reg.HIF_SATA_SECTOR_4KN (flag (k4 && s.boot.compat))

/-- Wheel takes over the Motor Link (R53) and starts the spindle, unless a safe state or a Kiln shutdown keeps it down. -/
def State.beginSpindle (s : State) : State :=
  let s1 := (s.takePins [.motor]).driveSafeStop
  let s2 := s1.setWhl { s1.whl with policy := s1.spin16 4 }
  let s3 := if s2.pins.motorFaultN then s2 else s2.motorFault (s2.get Reg.WHL_STATUS_FAULT) s2.whl.vm
  if s3.devState ≠ 0 ∨ s3.shutState ∈ [1, 2, 3] then s3 else s3.spindleStart

/-- BULK_STAGE_END (R81, R100, R106): the Bulk sections have been read and checked; `readError` where one does not match. -/
def execBulkStageEnd (readError : Bool) (s : State) : Host.Outcome State Fault Refusal :=
  .next <|
    if !s.inStage 5 then s
    else if readError ∨ !s.bulkOk then s.enterHold 0x21
    else
      let s1 := ((s.wake .imgEng).setBoot { s.boot with bulkEnded := true }).restoreConfig
      let s2 := (s1.setLaneBoot s1.usedMask 1).setStage 6
      (((s2.readyCheck 0).readyCheck 1).sataSignature).beginSpindle

/-! ## SERVO, SYSTEM_AREA, READY (R101, R107, R108, R237, R293, R590) -/

/-- LANE_BOOT code of a lane. -/
def State.laneCode (s : State) (n : Nat) : Nat := s.get (laneBootField n)

/-- A lane fails its boot with a code (R108). -/
def State.laneBootFail (s : State) (n code : Nat) : State :=
  ((s.setLaneBoot (2 ^ n) code).raise 0x017 (2 ^ n + code * 2 ^ 8)).critCheck

/-- The valid records of a progress sector with their places (R588, R589). -/
def State.progressIn (s : State) (k : Nat) : List (Nat × Progress) :=
  (List.range 1024).filterMap fun i =>
    (Progress.ofBytes (Memory.read flashDefault s.flash (s.progressBase k + 64 * i) 64)).map fun p => (i, p)

/-- The valid record with the highest SEQ. -/
def newestProgress (l : List Progress) : Option Progress :=
  l.foldl (fun b p => match b with
    | none => some p
    | some q => if q.seq < p.seq then some p else some q) none

/-- The interrupted operation goes on as the namespaces become ready (R589, R590); the key pairs that it replaced at its start are replaced again. -/
def State.resumeProgress (s : State) : State :=
  let a := s.progressIn 0
  let b := s.progressIn 1
  let best := newestProgress ((a ++ b).map (·.2) ++ s.cache.saved.progress.toList)
  match best with
  | none => s
  | some p =>
    let active := if b.any (fun x => x.2.seq == p.seq) then 1 else 0
    let place := ((if active = 1 then b else a).map (·.1)).foldl (fun m i => max m (i + 1)) 0
    let s1 := s.setCache { s.cache with progressSeq := p.seq + 1, progressAt := (active, place) }
    if p.op < 1 ∨ 3 < p.op then s1
    else
      let o : AdminOp := { op := p.op, nsid := p.nsid, cdw10 := p.cdw10, cdw11 := p.cdw11, pass := p.pass, done := p.done, owner := none }
      let s2 := (s1.setCache { s1.cache with
        admin := some o
        sanitizeStatus := if o.op = opFormat then s1.cache.sanitizeStatus else sanitizeStat 2 o.pass false
        sanitizeCdw10 := if o.op = opFormat then s1.cache.sanitizeCdw10 else o.cdw10 }).raise 0x684
        (o.op + s1.sprog o * 100 / 65536 * 2 ^ 8 + o.nsid * 2 ^ 16)
      let s3 := if o.op = opFormat ∧ bits o.cdw10 11 9 = 1 then s2 else s2.rekey (s2.nsNamed o.nsid)
      if (s3.opLanes o).any s3.laneFailed then s3.endOp o true else s3

/-- The SYSTEM_AREA stage ends: Cairn takes the greater time values (R677), and READY begins where some namespace is ready. -/
def State.bootReady (s : State) : State :=
  let lanes := (List.range 4).filter fun n => s.used n && s.laneCode n == 4
  let top := fun (f : SystemArea → Nat) (x : Nat) => lanes.foldl (fun m n => max m (f (s.laneAt n).sys)) x
  let s1 := s.setCrn { s.crn with opTime := top (·.opTime) s.crn.opTime, pcyc := top (·.pcyc) s.crn.pcyc }
  if (List.range s1.nsMaps.length).any fun i => s1.nsReady (i + 1) then
    let s2 := ((s1.setStage 9).setBoot { s1.boot with nsReadyRaised := true }).raise 0x016 (lanes.foldl (fun m n => m + 2 ^ n) 0)
    s2.resumeProgress
  else s1

/-- Go on to the next stage once every used lane has ended the present one. -/
def State.bootOn (s : State) : State :=
  let codes := ((List.range 4).filter s.used).map s.laneCode
  let s1 := if s.stage = 7 ∧ codes.all (fun c => 3 ≤ c) then s.setStage 8 else s
  if s1.stage = 8 ∧ codes.all (fun c => 4 ≤ c) then s1.bootReady else s1

/-- A lane has locked again, or failed, in Kiln's RESTARTING (R638). -/
def State.relocked (s : State) (n : Lane) (ok : Bool) : State :=
  let s1 := if ok then s
    else ((s.setLko { s.lko with barred := s.lko.barred.insert n.val }).put (laneOutField n.val) 1).laneBootFail n.val 9
  let (s2, done) := s1.kilnLaneDone n
  if done then s2.asyncAll 7 0 else s2

/-- A lane's boot fails with 0x9; in RESTARTING it leaves service too (R108, R638). -/
def State.lockFailed (s : State) (n : Lane) : State :=
  if s.shutState = 4 ∧ s.kln.toLock.contains n.val then s.relocked n false else s.laneBootFail n.val 9

/-- The read of PROFILE has come to an answer (R293): a version other than 1, or none, fails the lane's boot with the heads left on the
ramp. -/
def State.profileRead (s : State) (n : Lane) (good : Bool) : State :=
  let s1 := s.setFmt n { (s.lane n).fmt with profile := some good }
  if good ∨ s.laneCode n.val = 0 ∨ 2 < s.laneCode n.val then s1
  else
    let s2 := s1.lockFailed n
    (if s2.loaded n then s2.sekCommand n ⟨3, 0, 0⟩ else s2).bootOn

/-- PSP_READ_FRAME (R289 to R291, R293): a read frame of a profile register; reading FAULT clears it, so the preamp releases Ln_PFAULT_N, and
reading PROFILE in the SERVO stage tells whether the preamp has version 1. -/
def execPspReadFrame (n : Lane) (addr : Nat) (a : PspAnswer) (s : State) : Host.Outcome State Fault Refusal :=
  .next <|
    if !s.used n ∨ 0x0A < addr then s
    else
      let s1 := (s.wake (.fmt n)).pspReadFrames n addr a
      match pspValue addr a with
      | none =>
        let s2 := s1.pspError n addr false true
        if addr = 0 then s2.profileRead n false else s2
      | some v =>
        if addr = 0x0A then s1.setFmt n { (s1.lane n).fmt with pfaultN := true }
        else if addr = 0 then s1.profileRead n (v % 256 == 1) else s1

/-- SERVO_LOCK (R108, R293, R638): a lane's servo locks on the loaded head, or does not within its limit; `profile` is what the
preamp answered to the read of PROFILE, where no PSP_READ_FRAME has told it before (log entry 180). -/
def execServoLock (n : Lane) (locked : Bool) (profile : PspAnswer) (s : State) : Host.Outcome State Fault Refusal :=
  .next <|
    if !s.used n.val ∨ s.held ∨ s.stage < 7 then s
    else
      let onTrack := decide ((s.lane n).sek.phase = .onTrack)
      if s.laneCode n.val = 2 then
        let s0 := if (s.lane n).fmt.profile.isSome then s
          else
            let t := (s.wake (.fmt n)).pspReadFrames n 0 profile
            match pspValue 0 profile with
            | some v => t.setFmt n { (t.lane n).fmt with profile := some (v % 256 == 1) }
            | none =>
              let u := t.pspError n 0 false true
              u.setFmt n { (u.lane n).fmt with profile := some false }
        let good : Bool := (s0.lane n).fmt.profile == some true
        let s1 := s0
        if good ∧ locked then (if onTrack then ((s1.setLaneBoot (2 ^ n.val) 3).relocked n true).bootOn else s)
        else
          let s2 := s1.lockFailed n
          (if s2.loaded n then s2.sekCommand n ⟨3, 0, 0⟩ else s2).bootOn
      else if s.shutState = 4 ∧ s.kln.toLock.contains n.val ∧ (!locked ∨ onTrack) then s.relocked n locked
      else s

/-- The lane takes over what its system area holds (R237, R288, R320, R577). -/
def State.readSystemArea (s : State) (n : Lane) : State :=
  let l := s.lane n
  let d := s.zonesDigest
  let mine := l.sys.refined.filter fun x => x.1 == d
  let other := l.sys.refined.filter fun x => x.1 != d
  let rcv := { l.rcv with pending := l.sys.pending, grown := l.sys.grown, remap := l.sys.remap, sparesUsed := l.sys.remap.length }
  let s1 := s.setLane n { l with rcv := rcv, chan := { l.chan with refined := mine.map (·.2) }, sys := { l.sys with refined := mine } }
  let s2 := ({ s1 with stale := s1.stale ++ l.sys.stale }).put (Reg.CHN_RCV_PENDING_ENTRIES n) l.sys.pending.length
  let s3 := s2.setSata { s2.hif.sata with pendingPeak := max s2.hif.sata.pendingPeak l.sys.pending.length }
  ((other.map fun x => x.2.1).eraseDups).foldl (fun s h =>
    s.raiseLane n 0x04 (h % 32 + min 255 (other.filter fun x => x.2.1 == h).length * 2 ^ 8)) s3

/-- SYSTEM_AREA_READ_END (R101, R108, R237): a lane has read its system area, or neither copy. -/
def execSystemAreaReadEnd (n : Lane) (ok : Bool) (s : State) : Host.Outcome State Fault Refusal :=
  .next <|
    if !s.used n.val ∨ s.held ∨ s.stage < 7 ∨ s.laneCode n.val ≠ 3 then s
    else if ok then ((s.readSystemArea n).setLaneBoot (2 ^ n.val) 4).critCheck.bootOn
    else (s.laneBootFail n.val 0xA).bootOn

end Sys2Proof.Machine
end

