-- ==== Sys2Proof/Machine/Dispatch.lean ====
section
/-! DEFINITION. The dispatch of the commands to their meanings, one arm per row of the opcode table. -/

namespace Sys2Proof.Machine

def exec (i : Instr) (s : State) : Host.Outcome State Fault Refusal :=
  match i with
  | .porNFall => Sys2Proof.Machine.execPorNFall s
  | .porNRise straps => Sys2Proof.Machine.execPorNRise straps s
  | .fuseStageEnd eccOk => Sys2Proof.Machine.execFuseStageEnd eccOk s
  | .probeStageEnd r => Sys2Proof.Machine.execProbeStageEnd r s
  | .slotVerificationPass readError => Sys2Proof.Machine.execSlotVerificationPass readError s
  | .lockStageEnd burnFails selfTestFails => Sys2Proof.Machine.execLockStageEnd burnFails selfTestFails s
  | .ddr5TrainingEnd fails found checkFail => Sys2Proof.Machine.execDdr5TrainingEnd fails found checkFail s
  | .marchCEnd faults => Sys2Proof.Machine.execMarchCEnd faults s
  | .bufferFillEnd => Sys2Proof.Machine.execBufferFillEnd s
  | .bulkStageEnd readError => Sys2Proof.Machine.execBulkStageEnd readError s
  | .stageTimeout => Sys2Proof.Machine.execStageTimeout s
  | .servoLock n locked profile => Sys2Proof.Machine.execServoLock n locked profile s
  | .systemAreaReadEnd n ok => Sys2Proof.Machine.execSystemAreaReadEnd n ok s
  | .crystalStopped => Sys2Proof.Machine.execCrystalStopped s
  | .crystalEdgeReturn => Sys2Proof.Machine.execCrystalEdgeReturn s
  | .addressMarkMissed n => Sys2Proof.Machine.execAddressMarkMissed n s
  | .readFifoOverflow n index floor => Sys2Proof.Machine.execReadFifoOverflow n index floor s
  | .writeFifoUnderrun n index floor => Sys2Proof.Machine.execWriteFifoUnderrun n index floor s
  | .gateIdleExpiry b => Sys2Proof.Machine.execGateIdleExpiry b s
  | .blockWake b => Sys2Proof.Machine.execBlockWake b s
  | .avsStepUp floor => Sys2Proof.Machine.execAvsStepUp floor s
  | .avsStepDown floor => Sys2Proof.Machine.execAvsStepDown floor s
  | .avsNoResponse => Sys2Proof.Machine.execAvsNoResponse s
  | .next q f => Sys2Proof.Machine.execNext q f s
  | .jump q f => Sys2Proof.Machine.execJump q f s
  | .jt q f => Sys2Proof.Machine.execJt q f s
  | .jf q f => Sys2Proof.Machine.execJf q f s
  | .call q f => Sys2Proof.Machine.execCall q f s
  | .ret q f => Sys2Proof.Machine.execRet q f s
  | .loop q f => Sys2Proof.Machine.execLoop q f s
  | .wait q f => Sys2Proof.Machine.execWait q f s
  | .retd q f => Sys2Proof.Machine.execRetd q f s
  | .retp q f => Sys2Proof.Machine.execRetp q f s
  | .seqRestartResume q => Sys2Proof.Machine.execSeqRestartResume q s
  | .watchdogTrip q => Sys2Proof.Machine.execWatchdogTrip q s
  | .privilegedSourceAssert n src => Sys2Proof.Machine.execPrivilegedSourceAssert n src s
  | .eventRaise id payloads => Sys2Proof.Machine.execEventRaise id payloads s
  | .tqPopLoRead r => Sys2Proof.Machine.execTqPopLoRead r s
  | .tqPopTimeout r => Sys2Proof.Machine.execTqPopTimeout r s
  | .qStatusWrite r q v => Sys2Proof.Machine.execQStatusWrite r q v s
  | .msixUnmask p vector mask => Sys2Proof.Machine.execMsixUnmask p vector mask s
  | .sectorPreambleStart n index pba cut => Sys2Proof.Machine.execSectorPreambleStart n index pba cut s
  | .framingDecision n index primary backup => Sys2Proof.Machine.execFramingDecision n index primary backup s
  | .sectorDecodeEnd n r => Sys2Proof.Machine.execSectorDecodeEnd n r s
  | .marginRun n r v => Sys2Proof.Machine.execMarginRun n r v s
  | .marginAbort n r => Sys2Proof.Machine.execMarginAbort n r s
  | .writeStepStart n pbas => Sys2Proof.Machine.execWriteStepStart n pbas s
  | .pfaultNFall n fault => Sys2Proof.Machine.execPfaultNFall n fault s
  | .pspWriteFrame n addr data a retry => Sys2Proof.Machine.execPspWriteFrame n addr data a retry s
  | .pspReadFrame n addr a => Sys2Proof.Machine.execPspReadFrame n addr a s
  | .pspAccessGo n r v a retry => Sys2Proof.Machine.execPspAccessGo n r v a retry s
  | .parityRebuild n head track group => Sys2Proof.Machine.execParityRebuild n head track group s
  | .staleBitmapSave => Sys2Proof.Machine.execStaleBitmapSave s
  | .ladderStart n => Sys2Proof.Machine.execLadderStart n s
  | .ladderAttempt n us unread => Sys2Proof.Machine.execLadderAttempt n us unread s
  | .ladderTimeLimit n us => Sys2Proof.Machine.execLadderTimeLimit n us s
  | .inPlaceVerify n pba ok => Sys2Proof.Machine.execInPlaceVerify n pba ok s
  | .servoSample n d e => Sys2Proof.Machine.execServoSample n d e s
  | .sveArm n r => Sys2Proof.Machine.execSveArm n r s
  | .tfOffsetWrite n r v => Sys2Proof.Machine.execTfOffsetWrite n r v s
  | .injRun n r v => Sys2Proof.Machine.execInjRun n r v s
  | .injStop n r => Sys2Proof.Machine.execInjStop n r s
  | .capGo n r v => Sys2Proof.Machine.execCapGo n r v s
  | .capAbort n r => Sys2Proof.Machine.execCapAbort n r s
  | .seek n head target => Sys2Proof.Machine.execSeek n head target s
  | .load n head target => Sys2Proof.Machine.execLoad n head target s
  | .park n => Sys2Proof.Machine.execPark n s
  | .loadTimeout n => Sys2Proof.Machine.execLoadTimeout n s
  | .parkLowVelocity n => Sys2Proof.Machine.execParkLowVelocity n s
  | .latchEnd n => Sys2Proof.Machine.execLatchEnd n s
  | .retractDriveEnd n => Sys2Proof.Machine.execRetractDriveEnd n s
  | .syncFrame => Sys2Proof.Machine.execSyncFrame s
  | .spinSample f => Sys2Proof.Machine.execSpinSample f s
  | .actSample n iCoil vel => Sys2Proof.Machine.execActSample n iCoil vel s
  | .statusFrame m => Sys2Proof.Machine.execStatusFrame m s
  | .uplinkFrameDiscard crcError slot => Sys2Proof.Machine.execUplinkFrameDiscard crcError slot s
  | .uplinkNoClock => Sys2Proof.Machine.execUplinkNoClock s
  | .motorLinkRecovered => Sys2Proof.Machine.execMotorLinkRecovered s
  | .downlinkFrameSlot v12 => Sys2Proof.Machine.execDownlinkFrameSlot v12 s
  | .regAccessGo r v => Sys2Proof.Machine.execRegAccessGo r v s
  | .motorFaultNFall fault vm => Sys2Proof.Machine.execMotorFaultNFall fault vm s
  | .motorFaultClear => Sys2Proof.Machine.execMotorFaultClear s
  | .senseEnd => Sys2Proof.Machine.execSenseEnd s
  | .alignEnd time => Sys2Proof.Machine.execAlignEnd time s
  | .rampEnd => Sys2Proof.Machine.execRampEnd s
  | .commutationStep time => Sys2Proof.Machine.execCommutationStep time s
  | .zeroCrossingMissing time => Sys2Proof.Machine.execZeroCrossingMissing time s
  | .spinupTimeout => Sys2Proof.Machine.execSpinupTimeout s
  | .spinPolicyDecision us ul => Sys2Proof.Machine.execSpinPolicyDecision us ul s
  | .whlOverrideWrite r v => Sys2Proof.Machine.execWhlOverrideWrite r v s
  | .orderlyStop => Sys2Proof.Machine.execOrderlyStop s
  | .spindleRest => Sys2Proof.Machine.execSpindleRest s
  | .rectifyEnd => Sys2Proof.Machine.execRectifyEnd s
  | .caParityAlert => Sys2Proof.Machine.execCaParityAlert s
  | .pageCorrectionEnd page r byWrite => Sys2Proof.Machine.execPageCorrectionEnd page r byWrite s
  | .chipBucketLeak => Sys2Proof.Machine.execChipBucketLeak s
  | .transientBucketLeak => Sys2Proof.Machine.execTransientBucketLeak s
  | .shardModeSwitch => Sys2Proof.Machine.execShardModeSwitch s
  | .deadReq r v => Sys2Proof.Machine.execDeadReq r v s
  | .retireReq r v => Sys2Proof.Machine.execRetireReq r v s
  | .pageRetire => Sys2Proof.Machine.execPageRetire s
  | .patrolScrubPass => Sys2Proof.Machine.execPatrolScrubPass s
  | .bufInjectArm r v => Sys2Proof.Machine.execBufInjectArm r v s
  | .bmvKick c r => Sys2Proof.Machine.execBmvKick c r s
  | .bmvAbort c r => Sys2Proof.Machine.execBmvAbort c r s
  | .bmvEnableWrite c r v => Sys2Proof.Machine.execBmvEnableWrite c r v s
  | .bmvResume c r => Sys2Proof.Machine.execBmvResume c r s
  | .bmvRingLoWrite c r v => Sys2Proof.Machine.execBmvRingLoWrite c r v s
  | .bmvDescriptorFetch c error => Sys2Proof.Machine.execBmvDescriptorFetch c error s
  | .bmvDescriptorComplete c e => Sys2Proof.Machine.execBmvDescriptorComplete c e s
  | .bmvShadowArm c r v => Sys2Proof.Machine.execBmvShadowArm c r v s
  | .perstNAssert p => Sys2Proof.Machine.execPerstNAssert p s
  | .perstNRelease p => Sys2Proof.Machine.execPerstNRelease p s
  | .pcieLinkUp p speed width => Sys2Proof.Machine.execPcieLinkUp p speed width s
  | .hotReset p => Sys2Proof.Machine.execHotReset p s
  | .linkDown p => Sys2Proof.Machine.execLinkDown p s
  | .functionLevelReset p => Sys2Proof.Machine.execFunctionLevelReset p s
  | .ccEnWrite p cc aqa asq acq => Sys2Proof.Machine.execCcEnWrite p cc aqa asq acq s
  | .ccShnWrite p shn => Sys2Proof.Machine.execCcShnWrite p shn s
  | .nssrWrite p v => Sys2Proof.Machine.execNssrWrite p v s
  | .sqTailDoorbell p q v => Sys2Proof.Machine.execSqTailDoorbell p q v s
  | .cqHeadDoorbell p q v => Sys2Proof.Machine.execCqHeadDoorbell p q v s
  | .commandFetch p e => Sys2Proof.Machine.execCommandFetch p e s
  | .completionPost seq => Sys2Proof.Machine.execCompletionPost seq s
  | .coalescingTimeout p vector => Sys2Proof.Machine.execCoalescingTimeout p vector s
  | .deleteIoSubmissionQueue seq => Sys2Proof.Machine.execDeleteIoSubmissionQueue seq s
  | .createIoSubmissionQueue seq => Sys2Proof.Machine.execCreateIoSubmissionQueue seq s
  | .getLogPage seq x => Sys2Proof.Machine.execGetLogPage seq x s
  | .deleteIoCompletionQueue seq => Sys2Proof.Machine.execDeleteIoCompletionQueue seq s
  | .createIoCompletionQueue seq => Sys2Proof.Machine.execCreateIoCompletionQueue seq s
  | .identify seq x => Sys2Proof.Machine.execIdentify seq x s
  | .abort seq => Sys2Proof.Machine.execAbort seq s
  | .setFeatures seq x data => Sys2Proof.Machine.execSetFeatures seq x data s
  | .getFeatures seq x => Sys2Proof.Machine.execGetFeatures seq x s
  | .asynchronousEventRequest seq => Sys2Proof.Machine.execAsynchronousEventRequest seq s
  | .firmwareCommit seq => Sys2Proof.Machine.execFirmwareCommit seq s
  | .firmwareImageDownload seq => Sys2Proof.Machine.execFirmwareImageDownload seq s
  | .deviceSelfTest seq checkFail => Sys2Proof.Machine.execDeviceSelfTest seq checkFail s
  | .nvmeMiSend seq => Sys2Proof.Machine.execNvmeMiSend seq s
  | .nvmeMiReceive seq x => Sys2Proof.Machine.execNvmeMiReceive seq x s
  | .formatNvm seq => Sys2Proof.Machine.execFormatNvm seq s
  | .sanitize seq => Sys2Proof.Machine.execSanitize seq s
  | .retireBufferPage seq => Sys2Proof.Machine.execRetireBufferPage seq s
  | .declareBufferChipDead seq => Sys2Proof.Machine.execDeclareBufferChipDead seq s
  | .cairnClear seq x token => Sys2Proof.Machine.execCairnClear seq x token s
  | .flush seq => Sys2Proof.Machine.execFlush seq s
  | .write seq blocks x => Sys2Proof.Machine.execWrite seq blocks x s
  | .read seq x b => Sys2Proof.Machine.execRead seq x b s
  | .writeUncorrectable seq => Sys2Proof.Machine.execWriteUncorrectable seq s
  | .writeZeroes seq => Sys2Proof.Machine.execWriteZeroes seq s
  | .verify seq b => Sys2Proof.Machine.execVerify seq b s
  | .reservationRegister seq x data => Sys2Proof.Machine.execReservationRegister seq x data s
  | .reservationReport seq x => Sys2Proof.Machine.execReservationReport seq x s
  | .reservationAcquire seq x data => Sys2Proof.Machine.execReservationAcquire seq x data s
  | .reservationRelease seq x data => Sys2Proof.Machine.execReservationRelease seq x data s
  | .writeCommit seq => Sys2Proof.Machine.execWriteCommit seq s
  | .readResolve seq b => Sys2Proof.Machine.execReadResolve seq b s
  | .destage blocks idle10 b => Sys2Proof.Machine.execDestage blocks idle10 b s
  | .idleDestageTimeout b => Sys2Proof.Machine.execIdleDestageTimeout b s
  | .mediaOperationEnd n gaveUp => Sys2Proof.Machine.execMediaOperationEnd n gaveUp s
  | .progressRecord done => Sys2Proof.Machine.execProgressRecord done s
  | .selfTestResume n => Sys2Proof.Machine.execSelfTestResume n s
  | .recalibration n head values => Sys2Proof.Machine.execRecalibration n head values s
  | .comreset => Sys2Proof.Machine.execComreset s
  | .softwareReset => Sys2Proof.Machine.execSoftwareReset s
  | .readSectors f x b => Sys2Proof.Machine.execReadSectors f x b s
  | .readSectorsExt f x b => Sys2Proof.Machine.execReadSectorsExt f x b s
  | .readDmaExt f x b => Sys2Proof.Machine.execReadDmaExt f x b s
  | .readDma f x b => Sys2Proof.Machine.execReadDma f x b s
  | .writeSectors f data x => Sys2Proof.Machine.execWriteSectors f data x s
  | .writeSectorsExt f data x => Sys2Proof.Machine.execWriteSectorsExt f data x s
  | .writeDmaExt f data x => Sys2Proof.Machine.execWriteDmaExt f data x s
  | .writeDma f data x => Sys2Proof.Machine.execWriteDma f data x s
  | .writeDmaFuaExt f data x => Sys2Proof.Machine.execWriteDmaFuaExt f data x s
  | .readVerifySectors f b => Sys2Proof.Machine.execReadVerifySectors f b s
  | .readVerifySectorsExt f b => Sys2Proof.Machine.execReadVerifySectorsExt f b s
  | .writeUncorrectableExt f => Sys2Proof.Machine.execWriteUncorrectableExt f s
  | .readFpdmaQueued f x b => Sys2Proof.Machine.execReadFpdmaQueued f x b s
  | .writeFpdmaQueued f data x => Sys2Proof.Machine.execWriteFpdmaQueued f data x s
  | .readLogExt f x => Sys2Proof.Machine.execReadLogExt f x s
  | .readLogDmaExt f x => Sys2Proof.Machine.execReadLogDmaExt f x s
  | .writeLogExt f data x => Sys2Proof.Machine.execWriteLogExt f data x s
  | .writeLogDmaExt f data x => Sys2Proof.Machine.execWriteLogDmaExt f data x s
  | .executeDeviceDiagnostic => Sys2Proof.Machine.execExecuteDeviceDiagnostic s
  | .smartReadData f x => Sys2Proof.Machine.execSmartReadData f x s
  | .smartReadThresholds f x => Sys2Proof.Machine.execSmartReadThresholds f x s
  | .smartAttributeAutosave f => Sys2Proof.Machine.execSmartAttributeAutosave f s
  | .smartExecuteOffLineImmediate f checkFail => Sys2Proof.Machine.execSmartExecuteOffLineImmediate f checkFail s
  | .smartReadLog f x => Sys2Proof.Machine.execSmartReadLog f x s
  | .smartWriteLog f data x => Sys2Proof.Machine.execSmartWriteLog f data x s
  | .smartEnableOperations f => Sys2Proof.Machine.execSmartEnableOperations f s
  | .smartDisableOperations f => Sys2Proof.Machine.execSmartDisableOperations f s
  | .smartReturnStatus f => Sys2Proof.Machine.execSmartReturnStatus f s
  | .standbyImmediate => Sys2Proof.Machine.execStandbyImmediate s
  | .idleImmediate => Sys2Proof.Machine.execIdleImmediate s
  | .standby count => Sys2Proof.Machine.execStandby count s
  | .idle count => Sys2Proof.Machine.execIdle count s
  | .checkPowerMode => Sys2Proof.Machine.execCheckPowerMode s
  | .sleep => Sys2Proof.Machine.execSleep s
  | .standbyTimerExpiry => Sys2Proof.Machine.execStandbyTimerExpiry s
  | .flushCache => Sys2Proof.Machine.execFlushCache s
  | .flushCacheExt => Sys2Proof.Machine.execFlushCacheExt s
  | .identifyDevice x => Sys2Proof.Machine.execIdentifyDevice x s
  | .setFeaturesEnableWriteCache => Sys2Proof.Machine.execSetFeaturesEnableWriteCache s
  | .setFeaturesDisableWriteCache => Sys2Proof.Machine.execSetFeaturesDisableWriteCache s
  | .setFeaturesSetTransferMode mode => Sys2Proof.Machine.execSetFeaturesSetTransferMode mode s
  | .setFeaturesEnableSataFeature k => Sys2Proof.Machine.execSetFeaturesEnableSataFeature k s
  | .setFeaturesDisableSataFeature k => Sys2Proof.Machine.execSetFeaturesDisableSataFeature k s
  | .setFeaturesEnableReadLookAhead => Sys2Proof.Machine.execSetFeaturesEnableReadLookAhead s
  | .setFeaturesDisableReadLookAhead => Sys2Proof.Machine.execSetFeaturesDisableReadLookAhead s
  | .readCounters f x => Sys2Proof.Machine.execReadCounters f x s
  | .readGrownDefects f x => Sys2Proof.Machine.execReadGrownDefects f x s
  | .readPending f x => Sys2Proof.Machine.execReadPending f x s
  | .setSectorFormat f => Sys2Proof.Machine.execSetSectorFormat f s
  | .readBufferHealth f x => Sys2Proof.Machine.execReadBufferHealth f x s
  | .dv40RetireBufferPage f => Sys2Proof.Machine.execDv40RetireBufferPage f s
  | .dv40DeclareBufferChipDead f => Sys2Proof.Machine.execDv40DeclareBufferChipDead f s
  | .dv40CairnClear f data x => Sys2Proof.Machine.execDv40CairnClear f data x s
  | .kilnScanStart => Sys2Proof.Machine.execKilnScanStart s
  | .kilnConversionEnd c m => Sys2Proof.Machine.execKilnConversionEnd c m s
  | .shutdownTimeout => Sys2Proof.Machine.execShutdownTimeout s
  | .coolingHoldEnd => Sys2Proof.Machine.execCoolingHoldEnd s
  | .writeWaitTimeout seq => Sys2Proof.Machine.execWriteWaitTimeout seq s
  | .hangTimeout q => Sys2Proof.Machine.execHangTimeout q s
  | .restartTimeout q => Sys2Proof.Machine.execRestartTimeout q s
  | .wedgeTimeout n => Sys2Proof.Machine.execWedgeTimeout n s
  | .relockTimeout n => Sys2Proof.Machine.execRelockTimeout n s
  | .overspeedCheck => Sys2Proof.Machine.execOverspeedCheck s
  | .runawayRetractCheck n => Sys2Proof.Machine.execRunawayRetractCheck n s
  | .supplyTrip rail => Sys2Proof.Machine.execSupplyTrip rail s
  | .dieOverTemperature => Sys2Proof.Machine.execDieOverTemperature s
  | .oscCalibration count => Sys2Proof.Machine.execOscCalibration count s
  | .oscEdgeLoss => Sys2Proof.Machine.execOscEdgeLoss s
  | .supplyReturn => Sys2Proof.Machine.execSupplyReturn s
  | .laneReturn n => Sys2Proof.Machine.execLaneReturn n s
  | .sfOverrun unit => Sys2Proof.Machine.execSfOverrun unit s
  | .cairnBootScanEnd badPrimary badSpare => Sys2Proof.Machine.execCairnBootScanEnd badPrimary badSpare s
  | .cairnFlushStart => Sys2Proof.Machine.execCairnFlushStart s
  | .cairnRecordProgrammed ok => Sys2Proof.Machine.execCairnRecordProgrammed ok s
  | .stagingAgeTimeout => Sys2Proof.Machine.execStagingAgeTimeout s
  | .crnFlushGo r => Sys2Proof.Machine.execCrnFlushGo r s
  | .cairnClearEraseEnd primaryOk => Sys2Proof.Machine.execCairnClearEraseEnd primaryOk s
  | .optimeSave => Sys2Proof.Machine.execOptimeSave s
  | .chainFrameSend => Sys2Proof.Machine.execChainFrameSend s
  | .chainFrameReceived v => Sys2Proof.Machine.execChainFrameReceived v s
  | .chainSteadyLow => Sys2Proof.Machine.execChainSteadyLow s
  | .chainErrorTimeout => Sys2Proof.Machine.execChainErrorTimeout s
  | .setEndpointId dest inst eid => Sys2Proof.Machine.execSetEndpointId dest inst eid s
  | .getEndpointId dest inst => Sys2Proof.Machine.execGetEndpointId dest inst s
  | .getEndpointUuid dest inst => Sys2Proof.Machine.execGetEndpointUuid dest inst s
  | .getMctpVersionSupport dest inst ty => Sys2Proof.Machine.execGetMctpVersionSupport dest inst ty s
  | .getMessageTypeSupport dest inst => Sys2Proof.Machine.execGetMessageTypeSupport dest inst s
  | .mctpMessageDrop reason => Sys2Proof.Machine.execMctpMessageDrop reason s
  | .readNvmeMiDataStructure dest nmd0 nmd1 => Sys2Proof.Machine.execReadNvmeMiDataStructure dest nmd0 nmd1 s
  | .nvmSubsystemHealthStatusPoll dest => Sys2Proof.Machine.execNvmSubsystemHealthStatusPoll dest s
  | .controllerHealthStatusPoll dest nmd0 => Sys2Proof.Machine.execControllerHealthStatusPoll dest nmd0 s
  | .configurationSet dest nmd0 nmd1 => Sys2Proof.Machine.execConfigurationSet dest nmd0 nmd1 s
  | .configurationGet dest nmd0 => Sys2Proof.Machine.execConfigurationGet dest nmd0 s
  | .miReset dest nmd0 => Sys2Proof.Machine.execMiReset dest nmd0 s
  | .registerRead dest off count => Sys2Proof.Machine.execRegisterRead dest off count s
  | .registerWrite dest off v => Sys2Proof.Machine.execRegisterWrite dest off v s
  | .tunnelledAdminCommand dest cntlid e => Sys2Proof.Machine.execTunnelledAdminCommand dest cntlid e s
  | .entdaa a => Sys2Proof.Machine.execEntdaa a s
  | .rstdaa => Sys2Proof.Machine.execRstdaa s
  | .setnewda a => Sys2Proof.Machine.execSetnewda a s
  | .getpid => Sys2Proof.Machine.execGetpid s
  | .getbcr => Sys2Proof.Machine.execGetbcr s
  | .getdcr => Sys2Proof.Machine.execGetdcr s
  | .getstatus => Sys2Proof.Machine.execGetstatus s
  | .getmrl => Sys2Proof.Machine.execGetmrl s
  | .getmwl => Sys2Proof.Machine.execGetmwl s
  | .setmrl v => Sys2Proof.Machine.execSetmrl v s
  | .setmwl v => Sys2Proof.Machine.execSetmwl v s
  | .enec events => Sys2Proof.Machine.execEnec events s
  | .disec events => Sys2Proof.Machine.execDisec events s
  | .arpAssignAddress udid a => Sys2Proof.Machine.execArpAssignAddress udid a s
  | .alertResponseAddressRead => Sys2Proof.Machine.execAlertResponseAddressRead s
  | .ibiAcknowledge => Sys2Proof.Machine.execIbiAcknowledge s
  | .sbdGateWrite p v => Sys2Proof.Machine.execSbdGateWrite p v s
  | .gateTimeout => Sys2Proof.Machine.execGateTimeout s
  | .hostLinkLoss => Sys2Proof.Machine.execHostLinkLoss s
  | .hostLinkLossTimeout => Sys2Proof.Machine.execHostLinkLossTimeout s
  | .absentAccess r off write v => Sys2Proof.Machine.execAbsentAccess r off write v s
  | .partialWrite p off => Sys2Proof.Machine.execPartialWrite p off s
  | .boundaryCrossingRequest p => Sys2Proof.Machine.execBoundaryCrossingRequest p s
  | .atomicopRequest p => Sys2Proof.Machine.execAtomicopRequest p s
  | .loRegisterRead r off => Sys2Proof.Machine.execLoRegisterRead r off s
  | .absentCntRead r => Sys2Proof.Machine.execAbsentCntRead r s
  | .privLostRead r n => Sys2Proof.Machine.execPrivLostRead r n s
  | .qDropsRead r q => Sys2Proof.Machine.execQDropsRead r q s
  | .chnCounterRead r n k => Sys2Proof.Machine.execChnCounterRead r n k s
  | .fmtCounterRead r n k => Sys2Proof.Machine.execFmtCounterRead r n k s
  | .rcvCounterRead r n k => Sys2Proof.Machine.execRcvCounterRead r n k s
  | .sveCounterRead r n k => Sys2Proof.Machine.execSveCounterRead r n k s
  | .sekCounterRead r n k => Sys2Proof.Machine.execSekCounterRead r n k s
  | .whlCounterRead r k => Sys2Proof.Machine.execWhlCounterRead r k s
  | .bufCounterRead r k => Sys2Proof.Machine.execBufCounterRead r k s
  | .slotPeakRead r => Sys2Proof.Machine.execSlotPeakRead r s
  | .cntWgCutRead r n => Sys2Proof.Machine.execCntWgCutRead r n s
  | .cntMctpErrRead r => Sys2Proof.Machine.execCntMctpErrRead r s
  | .registerWindowWrite r off v => Sys2Proof.Machine.execRegisterWindowWrite r off v s
  | .avsResponse readback => Sys2Proof.Machine.execAvsResponse readback s
  | .crossingQuietTimeout => Sys2Proof.Machine.execCrossingQuietTimeout s
  | .cairnProgramTimeout => Sys2Proof.Machine.execCairnProgramTimeout s
  | .sataLinkUp gen => Sys2Proof.Machine.execSataLinkUp gen s
  | .sataLinkDown => Sys2Proof.Machine.execSataLinkDown s
  | .l1Entry p substate => Sys2Proof.Machine.execL1Entry p substate s
  | .l1Exit p => Sys2Proof.Machine.execL1Exit p s
  | .configurationRequest p r => Sys2Proof.Machine.execConfigurationRequest p r s
  | .sclLowTimeout => Sys2Proof.Machine.execSclLowTimeout s
  | .supplyDomainInRange d => Sys2Proof.Machine.execSupplyDomainInRange d s

end Sys2Proof.Machine
end

