-- ==== Sys2Proof/Machine/Step.lean ====
section
/-! DEFINITION. One step of the block: the command at the front of the queue, or a millisecond of operating time. -/

namespace Sys2Proof.Machine

/-- Put a command at the front of the queue. -/
def State.offer (s : State) (c : Instr) : State := { s with pending := c :: s.pending }

/-- One step: the front command on the state with the queue's rest; on an empty queue a millisecond passes (log entry 40). -/
def step (s : State) : Host.Outcome State Fault Refusal :=
  match s.pending with
  | [] => .next s.tick
  | c :: rest => exec c { s with pending := rest }

/-- `s` with the command that a word spells put in front; no word spells one. -/
def State.withFetchWord (s : State) (nbits w : Nat) : State :=
  match decodeTableWord nbits w with
  | some c => s.offer c
  | none => s

end Sys2Proof.Machine
end

