-- ==== Sys2Proof/Machine/Signals.lean ====
section
/-! DEFINITION. The signals of chapter 2: direction, type, supply domain, reset state and owner (R44 to R54), the levels the chip drives
in a state of the machine, and the ball map (R63, R64). -/

namespace Sys2Proof.Machine

/-- Every signal of the package (R46 to R54); `m` is the complement leg of a pair. -/
inductive Signal where
  | tx (p : Port) (l : Fin 2) (m : Bool) | rx (p : Port) (l : Fin 2) (m : Bool) | refclk (p : Port) (m : Bool)
  | perstN (p : Port) | clkreqN (p : Port) | pcieRcal
  | dq (k : Fin 2) (i : Fin 40) | dqs (k : Fin 2) (j : Fin 5) (m : Bool) | ca (k : Fin 2) (i : Fin 14)
  | csN (k rank : Fin 2) | ck (k rank : Fin 2) (m : Bool) | dramResetN | dramAlertN | ddrRcal
  | rd (n : Lane) (reader : Fin 3) (m : Bool) | wd (n : Lane) (m : Bool) | psclk (n : Lane) | psdata (n : Lane)
  | psen (n : Lane) | wgate (n : Lane) | sgate (n : Lane) | pfaultN (n : Lane)
  | mlTxclk (m : Bool) | mlTxd (m : Bool) | mlRxclk (m : Bool) | mlRxd (m : Bool) | safeStopN | motorFaultN
  | v12Sns | v5Sns | snsGnd | acc (i : Fin 2) (m : Bool) | ts (i : Fin 8) (m : Bool)
  | xspiClk | xspiCsN | xspiDq (i : Fin 8) | xspiDqs | xspiResetN | sbScl | sbSda | alertN | chnIn | chnOut
  | xtalIn | xtalOut | ref25 | avsClk | avsMdata | avsSdata | porN | tck | tms | tdi | trstN | tdo
  | modeSel | sbSel | xspiSel | testmode | rsvd (i : Fin 3)
  deriving DecidableEq, Repr

/-- Direction columns of the signal tables. -/
inductive Dir where
  | input | output | both | passive
  deriving DecidableEq, Repr

/-- The I/O types of R45. -/
inductive IoType where
  | serdes | hcsl | pod11 | lvds | afeIn | afeOut | ana | cmos18 | io33 | sb33 | xtal
  deriving DecidableEq, Repr

/-- Reset states of the signal tables. -/
inductive ResetState where
  | highZ | terminationOff | odtOff | input | pullDown | pullUp | low | high | ddrPowerUp | static | noCurrent | diffLow
  | failSafeLow | excitationOff | oscillator | busIdle | none
  deriving DecidableEq, Repr

/-- The row of a signal in its table: direction, type, reset state (R46, R49, R50, R52, R54); a reserved ball has no type. -/
def Signal.row : Signal → Dir × Option IoType × ResetState
  | .tx .. => (.output, some .serdes, .highZ)
  | .rx .. => (.input, some .serdes, .terminationOff)
  | .refclk .. => (.input, some .hcsl, .input)
  | .perstN _ => (.input, some .io33, .pullDown)
  | .clkreqN _ => (.output, some .io33, .low)
  | .pcieRcal => (.passive, some .ana, .none)
  | .dq .. => (.both, some .pod11, .odtOff)
  | .dqs .. => (.both, some .pod11, .highZ)
  | .ca .. => (.output, some .pod11, .ddrPowerUp)
  | .csN .. => (.output, some .pod11, .ddrPowerUp)
  | .ck .. => (.output, some .pod11, .static)
  | .dramResetN => (.output, some .cmos18, .low)
  | .dramAlertN => (.input, some .pod11, .input)
  | .ddrRcal => (.passive, some .ana, .none)
  | .rd .. => (.input, some .afeIn, .highZ)
  | .wd .. => (.output, some .afeOut, .noCurrent)
  | .psclk _ => (.output, some .cmos18, .low)
  | .psdata _ => (.both, some .cmos18, .pullDown)
  | .psen _ => (.output, some .cmos18, .low)
  | .wgate _ => (.output, some .cmos18, .low)
  | .sgate _ => (.output, some .cmos18, .low)
  | .pfaultN _ => (.input, some .cmos18, .pullUp)
  | .mlTxclk _ => (.output, some .lvds, .diffLow)
  | .mlTxd _ => (.output, some .lvds, .diffLow)
  | .mlRxclk _ => (.input, some .lvds, .failSafeLow)
  | .mlRxd _ => (.input, some .lvds, .failSafeLow)
  | .safeStopN => (.output, some .cmos18, .low)
  | .motorFaultN => (.input, some .cmos18, .pullUp)
  | .v12Sns => (.input, some .ana, .highZ)
  | .v5Sns => (.input, some .ana, .highZ)
  | .snsGnd => (.input, some .ana, .none)
  | .acc .. => (.input, some .ana, .highZ)
  | .ts .. => (.both, some .ana, .excitationOff)
  | .xspiClk => (.output, some .cmos18, .low)
  | .xspiCsN => (.output, some .cmos18, .high)
  | .xspiDq _ => (.both, some .cmos18, .pullDown)
  | .xspiDqs => (.input, some .cmos18, .pullDown)
  | .xspiResetN => (.output, some .cmos18, .low)
  | .sbScl => (.both, some .sb33, .highZ)
  | .sbSda => (.both, some .sb33, .highZ)
  | .alertN => (.output, some .io33, .highZ)
  | .chnIn => (.input, some .cmos18, .pullDown)
  | .chnOut => (.output, some .cmos18, .low)
  | .xtalIn => (.passive, some .xtal, .oscillator)
  | .xtalOut => (.passive, some .xtal, .oscillator)
  | .ref25 => (.input, some .cmos18, .input)
  | .avsClk => (.output, some .cmos18, .busIdle)
  | .avsMdata => (.output, some .cmos18, .busIdle)
  | .avsSdata => (.input, some .cmos18, .input)
  | .porN => (.input, some .cmos18, .input)
  | .tck => (.input, some .cmos18, .pullDown)
  | .tms => (.input, some .cmos18, .pullUp)
  | .tdi => (.input, some .cmos18, .pullUp)
  | .trstN => (.input, some .cmos18, .pullDown)
  | .tdo => (.output, some .cmos18, .highZ)
  | .modeSel => (.input, some .cmos18, .pullDown)
  | .sbSel => (.input, some .cmos18, .pullDown)
  | .xspiSel => (.input, some .cmos18, .pullDown)
  | .testmode => (.input, some .cmos18, .pullDown)
  | .rsvd _ => (.passive, none, .none)

/-- The supply domain of a signal (R46, R49, R50, R52, R54); a reserved ball has none. -/
def Signal.domain : Signal → Option Domain
  | .tx .. | .rx .. | .refclk .. | .pcieRcal => some .pciePhy
  | .perstN _ | .clkreqN _ | .sbScl | .sbSda | .alertN => some .vddio33
  | .dq .. | .dqs .. | .ca .. | .csN .. | .ck .. | .dramResetN | .dramAlertN | .ddrRcal => some .vddq
  | .rd .. | .wd .. | .psclk _ | .psdata _ | .psen _ | .wgate _ | .sgate _ | .pfaultN _ | .v12Sns | .v5Sns | .snsGnd
  | .acc .. | .ts .. => some .vddAfe18
  | .rsvd _ => none
  | _ => some .vddio18

/-- The block that takes an output over during boot (R44); `none` for inputs, passive pins and the test access port. -/
def Signal.owner : Signal → Option PinOwner
  | .tx p l _ => some (if l = 0 then .pcie p else .pcieNative p)
  | .clkreqN p => some (.pcieNative p)
  | .csN _ rank | .ck _ rank _ => some (if rank = 0 then .ddr else .ddrRank1)
  | .dq .. | .dqs .. | .ca .. | .dramResetN => some .ddr
  | .wd n _ | .psclk n | .psdata n | .psen n | .wgate n | .sgate n => some (.lane n)
  | .mlTxclk _ | .mlTxd _ | .safeStopN => some .motor
  | .ts i _ => some (.kiln i)
  | .xspiClk | .xspiCsN | .xspiDq _ | .xspiResetN => some .flash
  | .sbScl | .sbSda | .alertN | .chnOut => some .sideband
  | .avsClk | .avsMdata => some .avs
  | _ => none

/-- Whether an output or bidirectional signal is in its reset state: its supply domain is within range and its owner has not
taken it over (R44, R58). -/
def State.inResetState (s : State) (x : Signal) : Bool :=
  (x.domain.any s.pins.domains.contains) &&
    match x.owner with
    | some o => !s.pins.taken.contains o
    | none => x.row.1 == .output || x.row.1 == .both

/-- The level of an output that the rules drive as a logic level: low or high from its table in the reset state, else what the
machine holds. -/
def State.outputLevel (s : State) (x : Signal) : Option Bool :=
  if s.inResetState x then
    match x.row.2.2 with
    | .low => some false
    | .high => some true
    | _ => none
  else
    match x with
    | .clkreqN p => some (!s.hif.ports[p].clkreqLow)
    | .wgate n => some (s.lane n).fmt.wgate
    | .sgate n => some (s.lane n).fmt.sgate
    | .safeStopN => some s.pins.safeStopN
    | .xspiResetN => some s.pins.xspiResetN
    | .alertN => some (!s.pins.alertLow)
    | .chnOut => some s.pins.chnOut
    | _ => none

/-! ## The test access port (R56)

The spec names boundary scan under IEEE 1149.1 and no more; the controller, the order of the cells and the instruction codes are the model's
(log entry 176). No row of the opcode table gives an edge of TCK, so no command drives it: a TCK edge is the operation `Tap.clock`. -/

/-- The controller's next state for TMS (IEEE 1149.1). -/
def TapState.next (x : TapState) (tms : Bool) : TapState :=
  match x with
  | .testLogicReset => if tms then .testLogicReset else .runTestIdle
  | .runTestIdle => if tms then .selectDr else .runTestIdle
  | .selectDr => if tms then .selectIr else .captureDr
  | .captureDr => if tms then .exit1Dr else .shiftDr
  | .shiftDr => if tms then .exit1Dr else .shiftDr
  | .exit1Dr => if tms then .updateDr else .pauseDr
  | .pauseDr => if tms then .exit2Dr else .pauseDr
  | .exit2Dr => if tms then .updateDr else .shiftDr
  | .updateDr => if tms then .selectDr else .runTestIdle
  | .selectIr => if tms then .testLogicReset else .captureIr
  | .captureIr => if tms then .exit1Ir else .shiftIr
  | .shiftIr => if tms then .exit1Ir else .shiftIr
  | .exit1Ir => if tms then .updateIr else .pauseIr
  | .pauseIr => if tms then .exit2Ir else .pauseIr
  | .exit2Ir => if tms then .updateIr else .shiftIr
  | .updateIr => if tms then .selectDr else .runTestIdle

/-- The instruction a shifted code selects: the codes and their length stand in the BSDL file, not in the spec. -/
def tapInstr (code : List Bool) : TapInstr :=
  match (Config.tapCode code).toNat with
  | 1 => .sample
  | 2 => .extest
  | _ => .bypass

/-- One shift toward TDO: the bit shifted out first leaves, TDI enters last. -/
def shiftPath (l : List Bool) (tdi : Bool) : List Bool := l.drop 1 ++ [tdi]

/-- One rising edge of TCK with TMS and TDI; `pins` are the levels of the present signals in the order of the cells. -/
def Tap.clock (x : Tap) (pins : List Bool) (tms tdi : Bool) : Tap :=
  let y : Tap := { x with state := x.state.next tms }
  match x.state with
  | .captureIr => { y with irShift := Config.tapIrCapture }
  | .shiftIr => { y with irShift := shiftPath x.irShift tdi }
  | .updateIr => { y with instr := tapInstr x.irShift }
  | .captureDr => { y with drShift := if x.instr = .bypass then [false] else pins }
  | .shiftDr => { y with drShift := shiftPath x.drShift tdi }
  | .updateDr => if x.instr = .bypass then y else { y with update := x.drShift }
  | .testLogicReset => { y with instr := .bypass }
  | _ => y

/-- TDO: driven while a register shifts, high impedance else. -/
def Tap.tdo (x : Tap) : Option Bool :=
  match x.state with
  | .shiftIr => x.irShift.head?
  | .shiftDr => x.drShift.head?
  | _ => none

/-- What EXTEST drives on cell `i`; every other instruction leaves the pins to the chip. -/
def Tap.drives (x : Tap) (i : Nat) : Option Bool := if x.instr = .extest then x.update[i]? else none

/-! ## The ball map -/

/-- What a ball connects to (R63, R64). -/
inductive Ball where
  | signal (x : Signal)
  | vddCore | vddSram | vddq | vddPcie075 | vddPcie12 | vddAfe12 | vddAfe18 | vddio18 | vddio33 | vss | vssa
  deriving DecidableEq, Repr

/-- A pair's leg by position: even positions are the true leg. -/
def leg (j : Nat) : Bool := j % 2 == 1

/-- An index reduced to its range. -/
def ix (n : Nat) (i : Nat) (h : 0 < n := by decide) : Fin n := ⟨i % n, Nat.mod_lt _ h⟩

/-- The DDR5 region, rows A to E (1 to 5) of subchannel `k`, `j` = 1 to 16. -/
def ddrBall (r : Nat) (k : Fin 2) (j : Nat) : Ball :=
  match r with
  | 1 => .signal (.dq k (ix 40 (j - 1)))
  | 2 => .signal (.dq k (ix 40 (j + 15)))
  | 3 =>
    if j ≤ 8 then .signal (.dq k (ix 40 (j + 31)))
    else if j ≤ 12 then .signal (.ck k (ix 2 ((j - 9) / 2)) (leg (j - 9)))
    else if j ≤ 14 then .signal (.csN k (ix 2 (j - 13)))
    else .vddq
  | 4 => if j ≤ 10 then .signal (.dqs k (ix 5 ((j - 1) / 2)) (leg (j - 1))) else .signal (.ca k (ix 14 (j - 11)))
  | _ =>
    if j ≤ 8 then .signal (.ca k (ix 14 (j + 5)))
    else if k = 0 ∧ j = 9 then .signal .dramResetN
    else if k = 0 ∧ j = 10 then .signal .dramAlertN
    else if k = 0 ∧ j = 11 then .signal .ddrRcal
    else .vss

/-- The PCIe region, rows F to AH (6 to 27), columns 1 to 4. -/
def pcieBall (r c : Nat) : Ball :=
  let pair := fun (x : Bool → Signal) (supply : Ball) =>
    if c ≤ 2 then .signal (x (leg (c - 1))) else if c = 3 then .vss else supply
  let clk := fun (p : Port) => if c ≤ 2 then .signal (.refclk p (leg (c - 1))) else if c = 3 then .signal (.perstN p) else .signal (.clkreqN p)
  match r with
  | 7 => pair (.tx 0 0) .vddPcie075
  | 9 => pair (.tx 0 1) .vddPcie075
  | 11 => pair (.rx 0 0) .vddPcie12
  | 13 => pair (.rx 0 1) .vddPcie12
  | 15 => clk 0
  | 16 => if c = 4 then .signal .pcieRcal else .vss
  | 17 => pair (.tx 1 0) .vddPcie075
  | 19 => pair (.tx 1 1) .vddPcie075
  | 21 => pair (.rx 1 0) .vddPcie12
  | 23 => pair (.rx 1 1) .vddPcie12
  | 25 => clk 1
  | 27 => if c ≤ 2 then .vddPcie075 else .vddPcie12
  | _ => .vss

/-- The system region, rows F to AH (6 to 27), columns 29 to 32, written as the four balls of each row. -/
def systemRow : Nat → List Ball
  | 6 => [.signal (.mlTxclk false), .signal (.mlTxclk true), .signal (.mlTxd false), .signal (.mlTxd true)]
  | 8 => [.signal (.mlRxclk false), .signal (.mlRxclk true), .signal (.mlRxd false), .signal (.mlRxd true)]
  | 9 => [.signal .safeStopN, .signal .motorFaultN, .vss, .vddio18]
  | 10 => [.signal .v12Sns, .signal .v5Sns, .signal .snsGnd, .vddAfe18]
  | 11 => [.signal (.acc 0 false), .signal (.acc 0 true), .signal (.acc 1 false), .signal (.acc 1 true)]
  | 12 => [.signal (.ts 0 false), .signal (.ts 0 true), .signal (.ts 1 false), .signal (.ts 1 true)]
  | 13 => [.signal (.ts 2 false), .signal (.ts 2 true), .signal (.ts 3 false), .signal (.ts 3 true)]
  | 14 => [.signal (.ts 4 false), .signal (.ts 4 true), .signal (.ts 5 false), .signal (.ts 5 true)]
  | 15 => [.signal (.ts 6 false), .signal (.ts 6 true), .signal (.ts 7 false), .signal (.ts 7 true)]
  | 16 => [.vssa, .vssa, .vddAfe18, .vddAfe18]
  | 17 => [.signal .xspiClk, .signal .xspiCsN, .signal .xspiDqs, .signal .xspiResetN]
  | 18 => [.signal (.xspiDq 0), .signal (.xspiDq 1), .signal (.xspiDq 2), .signal (.xspiDq 3)]
  | 19 => [.signal (.xspiDq 4), .signal (.xspiDq 5), .signal (.xspiDq 6), .signal (.xspiDq 7)]
  | 20 => [.vss, .vddio18, .vss, .vddio18]
  | 21 => [.signal .sbScl, .signal .sbSda, .signal .alertN, .vddio33]
  | 22 => [.signal .chnIn, .signal .chnOut, .vddio33, .vss]
  | 23 => [.signal .xtalIn, .signal .xtalOut, .signal .ref25, .vss]
  | 24 => [.signal .avsClk, .signal .avsMdata, .signal .avsSdata, .signal .porN]
  | 25 => [.signal .tck, .signal .tms, .signal .tdi, .signal .tdo]
  | 26 => [.signal .trstN, .signal .modeSel, .signal .sbSel, .signal .xspiSel]
  | 27 => [.signal .testmode, .signal (.rsvd 0), .signal (.rsvd 1), .signal (.rsvd 2)]
  | _ => [.vss, .vss, .vss, .vss]

/-- The lane region, rows AJ to AN (28 to 32) of lane `n`, `j` = 1 to 8. -/
def laneBall (r : Nat) (n : Lane) (j : Nat) : Ball :=
  match r, j with
  | 32, 3 => .vssa
  | 32, 6 => .vssa
  | 32, j => .signal (.rd n (ix 3 ((j - 1) / 3)) (leg ((j - 1) % 3)))
  | 30, 1 => .signal (.wd n false)
  | 30, 2 => .signal (.wd n true)
  | 30, 4 => .signal (.psclk n)
  | 30, 5 => .signal (.psdata n)
  | 30, 6 => .signal (.psen n)
  | 30, 7 => .signal (.wgate n)
  | 30, 8 => .signal (.sgate n)
  | 29, 1 => .signal (.pfaultN n)
  | 29, 3 => .vddAfe18
  | 29, 4 => .vddAfe18
  | 29, j => if 5 ≤ j then .vddAfe12 else .vssa
  | _, _ => .vssa

/-- The core region, rows F to AH, columns 5 to 28: ground where row plus column is even. -/
def coreBall (r c : Nat) : Ball :=
  if (r + c) % 2 = 0 then (if r ≤ 24 then .vss else .vssa)
  else if r ≤ 8 then .vddq
  else if r ≤ 21 then .vddCore
  else if r ≤ 24 then .vddSram
  else if r ≤ 26 then .vddAfe12
  else .vddAfe18

/-- The ball at row `r` (A is 1, AN is 32) and column `c` (R63). -/
def ballAt (r c : Nat) : Ball :=
  if r ≤ 5 then ddrBall r (if c ≤ 16 then 0 else 1) ((c - 1) % 16 + 1)
  else if 28 ≤ r then laneBall r (ix 4 ((c - 1) / 8)) ((c - 1) % 8 + 1)
  else if c ≤ 4 then pcieBall r c
  else if 29 ≤ c then (systemRow r).getD (c - 29) .vss
  else coreBall r c

/-- How many balls a net has (R64); `none` counts the signals. -/
def ballCount (net : Option Ball) : Nat :=
  ((List.range 32).flatMap fun r => (List.range 32).map fun c => ballAt (r + 1) (c + 1)).foldl
    (fun k b => match net, b with
      | none, .signal _ => k + 1
      | some x, b => if b = x then k + 1 else k
      | _, _ => k) 0

end Sys2Proof.Machine
end

