-- ==== Sys2Proof/Safety.lean ====
section
/-! DEFINITION. What claims about runs are stated in: the canonical form of the memories and register maps, and the promises that no
step may break. -/

namespace Sys2Proof.Machine

/-- Whether the byte memories and the register map are in canonical form: registers, flash, mover SRAM, page store. -/
def State.canonical (s : State) : Bool :=
  Sparse.wf resetOf s.regs && Memory.wf flashDefault s.flash && Memory.wf bufDefault s.mover.sram &&
    Memory.wf bufDefault s.buf.mem

/-- Whether the write gate of every lane that Lookout has cut is low (R51, R652). -/
def State.gatesSafe (s : State) : Bool :=
  (List.finRange 4).all fun n => s.get ⟨0xA0000, 16 + n.val, 16 + n.val⟩ == 0 || !(s.lane n).fmt.wgate

/-- Whether SAFE_STOP_N is driven low whenever Wheel has not taken over the Motor Link or someone holds it (R52, R411). -/
def State.stopSafe (s : State) : Bool := !s.pins.safeStopN || (s.motorTaken && s.whl.holders.isEmpty)

/-! ## Micro-sequencers -/

/-- A sequencer is due to execute word `w`, fetched from `pc`: it runs, stalls in no WAIT, no privileged source is due, the watchdog has
not tripped, the word before left no fault, and the word is not illegal (R146 to R165). -/
def State.executes (s : State) (q : SeqIx) (f : Fetch) (w : BitVec 128) (pc : Nat) : Prop :=
  s.powered = true ∧ (s.seq q).run = .running ∧ (s.seq q).item = none ∧ (s.seq q).held = none ∧ (s.seq q).since < 4096 ∧
    (s.seq q).pendingRank = none ∧ s.fetchWord q.val (s.seq q).ctx.pc f.rom = .word w pc ∧ (s.seq q).errPending = none ∧
    wordIllegal w (s.seq q).ctx.rank = false

/-- From `s` to `t` the sequencers other than `q` stay as they are, but that one stalled in WAIT may have been handed its item (R202). -/
def State.othersServed (s t : State) (q : SeqIx) : Prop :=
  ∀ r, r ≠ q → t.seq r = s.seq r ∨
    ((s.seq r).run = .stalled ∧ ∃ i, t.seq r = { s.seq r with run := .running, item := some i })

/-- A word without a register-window access, an event and a safe point. -/
def plainWord (w : BitVec 128) : Prop := wPort w = 0 ∧ wEmit w = false ∧ wSp w = false

/-- From `s` to `t` only sequencer `q` ran one word that is no safe point: its checkpoint and latches and every other part of the
state stay. -/
def State.ranWord (s t : State) (q : SeqIx) : Prop :=
  t = { s with seqs := t.seqs } ∧ (∀ r, r ≠ q → t.seq r = s.seq r) ∧ (t.seq q).chk = (s.seq q).chk ∧
    (t.seq q).latches = (s.seq q).latches ∧ (t.seq q).run = .running ∧ (t.seq q).since = (s.seq q).since + 1

/-! ## Controllers -/

/-- A controller as a reset leaves it (R71, R519): disabled, not ready, without queues, and with none of its commands left but writes
whose data had wholly arrived. -/
def State.controllerGone (t : State) (p : Port) : Prop :=
  (t.ctl p).cc = 0 ∧ (t.ctl p).rdy = false ∧ (t.ctl p).sqs = [] ∧ (t.ctl p).cqs = [] ∧
    ∀ c ∈ t.hif.cmds, c.port = p → c.isAta = true ∨ c.sq = sqKept

/-- The command of a sequence number has ended with a status and DW0, and its entry is to be posted. -/
def State.endedWith (t : State) (seq status dw0 : Nat) : Prop := ∃ c ∈ t.hif.cmds, c.seq = seq ∧ c.phase = .committed status dw0

/-- The cache has room for the blocks of a command without freeing an extent, writes complete from the cache, and the buffer serves. -/
def State.roomFor (s : State) (c : Command) : Prop :=
  s.cache.extents.length + c.nlb ≤ descriptors ∧ s.pagesUsed + c.nlb ≤ s.cachePages ∧ s.cache.through = 0 ∧ s.cache.wce = true ∧
    c.fua = false ∧ s.bufDown = false ∧ s.lko.tripPeriod = none

/-- From `s` to `t` the blocks of command `c` took the contents `f` as extents of a kind, and no other block changed. -/
def State.tookContent (s t : State) (c : Command) (k : ExtentKind) (f : Nat → BlockData) : Prop :=
  (∀ b ∈ s.blocksOf c, (t.extent c.nsid b).map (fun x => (x.kind, x.data)) = some (k, f b)) ∧
    (∀ ns b, ¬ (ns = c.nsid ∧ b ∈ s.blocksOf c) → t.extent ns b = s.extent ns b) ∧
    t.cache.wunc = cutRanges c.nsid c.slba c.nlb s.cache.wunc

/-- From `s` to `t` no reset of a controller touches media, the disk's heads, the spindle, the buffer, the cache or the image. -/
def State.onlyHost (s t : State) : Prop :=
  t.media = s.media ∧ t.whl = s.whl ∧ t.buf = s.buf ∧ t.cache = s.cache ∧ t.boot = s.boot ∧ t.flash = s.flash

/-! ## Lookout (chapter 19) -/

/-- In `t` lane `n` is in LANE_RETRACT (R649): out of service, its cut latched, its heads parked or on their way; if they were loaded in
`s`, the gate is low. -/
def State.retracted (s t : State) (n : Lane) : Prop :=
  t.laneOut n.val = true ∧ t.cutLatched n = true ∧ (t.lane n).sek.phase ∈ [SekPhase.parked, .retracting, .latching true] ∧
    ((s.lane n).sek.phase ∉ [SekPhase.parked, .retracting, .latching true] → (t.lane n).sek.phase = .retracting ∧ (t.lane n).fmt.wgate = false)

/-- From `s` to `t` LANE_RETRACT took lane `n` for a cause, and no other lane, the spindle, the cache or the buffer. -/
def State.laneSafe (s t : State) (n : Lane) (cause : Nat) : Prop :=
  s.retracted t n ∧ t.get (Reg.LKO_LANE_CAUSE n.val) = cause ∧
    (∀ m : Lane, m ≠ n → t.lane m = s.lane m ∧ t.laneOut m.val = s.laneOut m.val) ∧ t.whl = s.whl ∧ t.cache = s.cache ∧ t.buf = s.buf

/-- In `t` the device is in a safe state: 2 DEVICE_STOP, 3 SUPPLY, 4 HARD, for a cause, and every lane loaded in `s` retracts. -/
def State.deviceSafe (s t : State) (state cause : Nat) : Prop :=
  t.devState = state ∧ t.get Reg.LKO_STATUS_DEV_CAUSE = cause ∧ (∀ n, s.loaded n = true → s.retracted t n) ∧ t.buf = s.buf

/-- In `t` Lookout holds SAFE_STOP_N low, and Wheel is in its hard stop. -/
def State.stopLow (t : State) : Prop := t.pins.safeStopN = false ∧ StopHolder.lookout ∈ t.whl.holders ∧ t.whlState = 7

/-! ## The ATA device (chapter 17) -/

/-- The device takes command `c` and it alone is new: no lock, no failed device, no clash with a tag, and no media work that waits for
a stopped spindle. -/
def State.ataAccepts (s : State) (c : Command) : Prop :=
  s.ataOpen = true ∧ s.get Reg.HIF_SATA_NCQ_LOCK = 0 ∧ s.lko.fatal = false ∧ (∀ d ∈ s.hif.cmds, d.seq ≠ s.hif.nextSeq) ∧
    (∀ d ∈ s.hif.cmds, d.isAta = true → c.queuedAta = true ∧ d.cid ≠ c.cid) ∧
    (s.get Reg.HIF_SATA_STANDBY = 0 ∨ ∀ o ∈ s.sched 0, o.host = false)

/-- The same for a command that is not queued and works on no sectors. -/
def State.ataTakes (s : State) : Prop :=
  s.ataOpen = true ∧ s.get Reg.HIF_SATA_NCQ_LOCK = 0 ∧ s.lko.fatal = false ∧ (∀ d ∈ s.hif.cmds, d.seq ≠ s.hif.nextSeq ∧ d.isAta = false) ∧
    (s.get Reg.HIF_SATA_STANDBY = 0 ∨ ∀ o ∈ s.sched 0, o.host = false)

/-- From `s` to `t` a command came and ended: `l` went out (newest first) and nothing is left of it; media, lanes, schedulers, buffer and
flash are as before. -/
def State.ataDone (s t : State) (l : List Output) : Prop :=
  t.out = l ++ s.out ∧ t.hif.cmds = s.hif.cmds ∧ t.media = s.media ∧ t.lanes = s.lanes ∧ t.scheds = s.scheds ∧ t.buf = s.buf ∧
    t.flash = s.flash

/-- What an ATA command with 2^28 or 2^48 addresses ends with, newest first: its data where it is a read, its status, and for a queued
command the FIS that accepted it. -/
def ataEnding (c : Command) (data : List Output) : List Output :=
  if c.queuedAta then .setBitsFis 0x40 0 [c.cid] :: (data ++ [.registerFis 0x50 0 0 c.slba])
  else if c.pioIn then .pioSetupFis 0x50 0 :: data
  else .registerFis 0x50 0 0 (c.cdw.headD 0) :: data

/-- The bytes of `c`'s logical sector `i` after a write of `data` over what the cache holds of its block. -/
def State.sectorAfter (s : State) (c : Command) (data : List HostBlock) (l : Nat) : List Byte :=
  if c.slba ≤ l ∧ l < c.slba + c.nlb then padTo 512 (data.getD (l - c.slba) ⟨[], []⟩).data
  else ((((s.extent 1 (l / 8)).map (·.data.data)).getD []).drop (512 * (l % 8))).take 512

/-- Outputs that report a command as ended. -/
def Output.completes : Output → Bool
  | .registerFis _ _ _ _ => true
  | .pioSetupFis _ _ => true
  | .setBitsFis _ _ _ => true
  | .cqEntry _ _ _ _ => true
  | _ => false

end Sys2Proof.Machine
end

