-- ==== Sys2Proof/Certificates/Slice0/Obligations.lean ====
section
/-! DEFINITION. The statements about the machine, from the numbered rules of the spec. -/

open Sys2Proof Sys2Proof.Machine

/-! ## Steps, the queue and reset -/

/-- For every command and state, a step of the state with the command at the front of its queue is the command's effect on the state
itself, with the rest of the queue. -/
def Obligations.StepRunsFrontCommand : Prop :=
  ∀ (c : Instr) (s : State), step (s.offer c) = exec c s

/-- For every command and every state the command's effect is a next state: no command of the block faults and none is refused. What each
next state holds, the statements of its family say. -/
def Obligations.EveryCommandAnswersANextState : Prop :=
  ∀ (c : Instr) (s : State), ∃ t, exec c s = .next t

/-- On an empty queue a step answers a next state and leaves the queue empty; with POR_N high and TESTMODE 0 the operating time is 1 ms
later, up to its 40 bits, and no lane, media, buffer or flash differs. That an empty queue lets a millisecond pass is the model's
choice, log entry 40. -/
def Obligations.IdleStepIsATick : Prop :=
  ∀ s : State, s.pending = [] → ∃ t, step s = .next t ∧ t.pending = [] ∧ t.lanes = s.lanes ∧ t.media = s.media ∧
    t.buf = s.buf ∧ t.flash = s.flash ∧ (s.powered = true → t.crn.opTime = satAdd (2 ^ 40 - 1) s.crn.opTime 1)

/-- The rows of the opcode table give no bits: no word decodes, and putting a word at the front of the queue changes nothing. -/
def Obligations.NoWordSpellsACommand : Prop :=
  (∀ nbits w : Nat, decodeTableWord nbits w = none) ∧
    ∀ (s : State) (nbits w : Nat), s.withFetchWord nbits w = s

/-- State.reset has its registers, flash, mover SRAM and page store in canonical form, every write gate low and SAFE_STOP_N driven
low, with nothing in the queue. -/
def Obligations.ResetIsCanonicalAndSafe : Prop :=
  State.reset.canonical = true ∧ State.reset.gatesSafe = true ∧ State.reset.stopSafe = true ∧ State.reset.pending = []

/-- From every state whose register map, flash, mover SRAM and page store are in canonical form (strictly rising keys, no entry at its
default), a step that answers a next state gives a state in which they are. -/
def Obligations.StepKeepsCanonicalForm : Prop :=
  ∀ s t : State, s.canonical = true → step s = .next t → t.canonical = true

/-- A step that answers a next state leaves the variant and the grade of the die, and every fuse that was burned stays burned:
PROGRAMMED and REVOKED of each key slot, and SIGNED_ONLY. -/
def Obligations.StepKeepsDieAndFuses : Prop :=
  ∀ s t : State, step s = .next t →
    t.fuses.variant = s.fuses.variant ∧ t.fuses.gradeX = s.fuses.gradeX ∧
      (∀ i : Fin 3, s.fuses.keys[i].programmed = true → t.fuses.keys[i].programmed = true) ∧
      (∀ i : Fin 3, s.fuses.keys[i].revoked = true → t.fuses.keys[i].revoked = true) ∧
      (s.fuses.signedOnly = true → t.fuses.signedOnly = true)

/-! ## Reset and boot (chapters 2 and 3) -/

/-- R58, R44: from every state with POR_N high, POR_N_FALL answers a next state with POR_N low in which every output and bidirectional
signal of a domain within range is in its reset state, every write gate is low, no command in a slot is left, and flash, fuses, on-disk
system areas and the queue are unchanged. With POR_N low, POR_N_RISE answers a next state with POR_N high, the straps captured, the
stage FUSE, nothing locked or held, and the boot running unless TESTMODE was captured as 1; and SUPPLY_DOMAIN_IN_RANGE answers one in
which the domain is within range and all else is unchanged. -/
def Obligations.PorFallResetsAndRiseStartsBoot : Prop :=
  (∀ s : State, s.pins.porN = true → ∃ t, exec .porNFall s = .next t ∧ t.pins.porN = false ∧ t.pins.taken = [] ∧
    (∀ (x : Signal) (d : Domain), x.row.1 = .output ∨ x.row.1 = .both → x.domain = some d → t.pins.domains.contains d = true →
      t.inResetState x = true) ∧
    (∀ n : Lane, (t.lane n).fmt.wgate = false) ∧ t.hif.cmds = [] ∧
    t.flash = s.flash ∧ t.fuses = s.fuses ∧ (∀ n : Lane, (t.lane n).sys = (s.lane n).sys) ∧ t.pending = s.pending) ∧
  (∀ (s : State) (straps : Straps), s.pins.porN = false → ∃ t, exec (.porNRise straps) s = .next t ∧ t.pins.porN = true ∧
    t.boot.straps = straps ∧ t.stage = 0 ∧ t.locked = false ∧ t.held = false ∧ t.boot.running = !straps.testMode ∧
    t.flash = s.flash ∧ t.fuses = s.fuses ∧ t.pending = s.pending) ∧
  (∀ (s : State) (d : Domain), s.pins.porN = false → ∃ t, exec (.supplyDomainInRange d) s = .next t ∧
    t.pins.domains.contains d = true ∧ t = { s with pins := { s.pins with domains := t.pins.domains } })

/-- In the FUSE stage, FUSE_STAGE_END answers a next state that has released XSPI_RESET_N and ended the FUSE stage: with good fuses the
stage is PROBE, with an uncorrectable ECC the device holds with FUSE_ECC, MODE_SEL and the variant deciding the mode. In the PROBE
stage, a flash of 16 to 128 MiB answers a next state that shows its density, holds the commands taken from SFDP, and SLOW_FLASH exactly where XSPI_SEL is 0 and the change
to 8D-8D-8D was not made; without an answer it holds with FLASH_NO_RESPONSE, and with another density with FLASH_DENSITY. In a stage up
to BULK, STAGE_TIMEOUT answers a next state that holds with STAGE_TIMEOUT and the stage it stood in. -/
def Obligations.FuseAndProbeStagesEnd : Prop :=
  (∀ s : State, s.inStage 0 = true → s.boot.fuseEnded = false → ∃ t, exec (.fuseStageEnd true) s = .next t ∧ t.stage = 1 ∧
    t.held = false ∧ t.pins.xspiResetN = true ∧ t.boot.fuseEnded = true ∧ t.lanes = s.lanes ∧ t.fuses = s.fuses) ∧
  (∀ s : State, s.inStage 0 = true → s.boot.fuseEnded = false → ∃ t, exec (.fuseStageEnd false) s = .next t ∧ t.held = true ∧
    t.get Reg.IMG_BOOT_STATUS_ERR = 0x01 ∧ t.stage = 0 ∧ t.locked = true ∧ t.pins.xspiResetN = true ∧
    t.boot.compat = s.strapCompat ∧ t.fuses = s.fuses) ∧
  (∀ (s : State) (size : Nat) (octal : Bool) (cmds : FlashCommands), s.inStage 1 = true → 16777216 ≤ size → size ≤ 134217728 →
    ∃ t, exec (.probeStageEnd (.found size octal cmds)) s = .next t ∧ t.boot.density = size ∧ t.boot.flashCmds = cmds ∧ t.get Reg.IMG_FLASH_SIZE_DENSITY = size ∧
      t.get Reg.IMG_BOOT_STATUS_SLOW_FLASH = flag (!s.boot.straps.xspiSel && !octal) ∧ t.stage = 2 ∧
      (t.held = true ↔ s.held = true ∨ t.boot.cands = some [])) ∧
  (∀ (s : State) (size : Nat) (octal : Bool) (cmds : FlashCommands), s.inStage 1 = true → size < 16777216 ∨ 134217728 < size →
    ∃ t, exec (.probeStageEnd (.found size octal cmds)) s = .next t ∧ t.held = true ∧ t.get Reg.IMG_BOOT_STATUS_ERR = 0x03) ∧
  (∀ s : State, s.inStage 1 = true → ∃ t, exec (.probeStageEnd .noResponse) s = .next t ∧ t.held = true ∧
    t.get Reg.IMG_BOOT_STATUS_ERR = 0x02) ∧
  (∀ s : State, s.powered = true → s.boot.running = true → s.held = false → s.stage ≤ 5 →
    ∃ t, exec .stageTimeout s = .next t ∧ t.held = true ∧ t.get Reg.IMG_BOOT_STATUS_ERR = 0x3F ∧ t.stage = s.stage)

/-- In the SELECT stage with a candidate first in the list: a read error that was not retried yet only marks the retry; a candidate that
passes every check is committed, its slot reads chosen, SLOT and IMAGE_KIND name it and the stage is LOCK; one that fails reads invalid
with its error and section index, and the device holds with NO_VALID_IMAGE exactly when none is left. In the LOCK stage with no monitor
failing its self-test, LOCK_STAGE_END answers a next state that is locked, in the MEMORY stage, not held, with Mend holding the words of
PATCHES. -/
def Obligations.SlotChosenAndPatchLocked : Prop :=
  (∀ (s : State) (c : Candidate) (rest : List Candidate), s.inStage 2 = true → s.boot.cands = some (c :: rest) →
    s.boot.readRetried = false →
    exec (.slotVerificationPass true) s = .next { s with boot := { s.boot with readRetried := true } }) ∧
  (∀ (s : State) (c : Candidate) (rest : List Candidate) (m : Image), s.inStage 2 = true → s.boot.cands = some (c :: rest) →
    s.verify c = .ok m → (∀ x ∈ rest, x.slotB ≠ c.slotB) → ∃ t, exec (.slotVerificationPass false) s = .next t ∧ t.stage = 3 ∧
      t.boot.image = some m ∧ t.get (Reg.IMG_SLOT_RESULT_STATE (flag c.slotB)) = 2 ∧
      t.get Reg.IMG_BOOT_STATUS_SLOT = (if c.slotB then 2 else 1) ∧ t.get Reg.IMG_BOOT_STATUS_IMAGE_KIND = (if c.dv40 then 2 else 1) ∧
      t.get Reg.IMG_BOOT_STATUS_KEY_SLOT = m.keySlot % 4 ∧ t.flash = s.flash ∧ t.fuses = s.fuses) ∧
  (∀ (s : State) (c : Candidate) (rest : List Candidate) (e i : Nat), s.inStage 2 = true → s.boot.cands = some (c :: rest) →
    s.verify c = .error (e, i) → e < 256 → i < 256 → e ≠ 0x10 → ∃ t, exec (.slotVerificationPass false) s = .next t ∧
      t.get (Reg.IMG_SLOT_RESULT_STATE (flag c.slotB)) = 4 ∧ t.get (Reg.IMG_SLOT_RESULT_ERR (flag c.slotB)) = e ∧
      t.get (Reg.IMG_SLOT_RESULT_SECTION_INDEX (flag c.slotB)) = i ∧ (t.held = true ↔ rest = []) ∧
      (rest = [] → t.get Reg.IMG_BOOT_STATUS_ERR = 0x20) ∧ t.flash = s.flash ∧ t.fuses = s.fuses) ∧
  (∀ (s : State) (fails : List Nat), s.inStage 3 = true → ∃ t, exec (.lockStageEnd fails []) s = .next t ∧ t.locked = true ∧ t.boot.lockEnded = true ∧
    t.stage = 4 ∧ t.held = false ∧
    t.mend = mendOf (if s.hasSection secPatches then s.section secPatches else []) ∧ t.flash = s.flash ∧ t.media = s.media)

/-- In the MEMORY stage: training without a failing chip or check answers a next state with BUF.STATE.TRAINED 1 and not held; one failing
chip of a fitted group puts that group into shard mode where the DDR5 section allows it, else it holds with DDR_TRAINING; a failed
checker injection holds with MEMORY_CHECKER. The March test of a trained buffer ends with MARCH.DONE 1, FILL_MARK 0 and the stage BULK
where it and Cairn together name at most 4,096 pages, and holds with MEMORY_TEST where a test that ran found more. From BULK on,
BUFFER_FILL_END answers a next state whose fill mark is the number of pages and FILL_DONE 1. In BULK, a read error holds with
BULK_DIGEST, sections that match their digests end BULK, and with sections that do not it holds too. -/
def Obligations.MemoryAndBulkStagesEnd : Prop :=
  (∀ (s : State) (found : Nat × Nat × Nat), s.inStage 4 = true → s.boot.memTrained = false →
    ∃ t, exec (.ddr5TrainingEnd [] found false) s = .next t ∧ t.boot.memTrained = true ∧ t.get Reg.BUF_STATE_TRAINED = 1 ∧
      t.held = false ∧ t.stage = 4) ∧
  (∀ (s : State) (found : Nat × Nat × Nat), s.inStage 4 = true → s.boot.memTrained = false →
    ∃ t, exec (.ddr5TrainingEnd [] found true) s = .next t ∧ t.held = true ∧ t.get Reg.IMG_BOOT_STATUS_ERR = 0x31) ∧
  (∀ (s : State) (found : Nat × Nat × Nat) (g c : Nat), s.inStage 4 = true → s.boot.memTrained = false →
    (∀ m, s.boot.image = some m → m.dv40 = false) → g < 4 → c < 5 → s.groupFitted g = true →
    (bit (s.sec8 secDdr5 4) 1 = false → ∃ t, exec (.ddr5TrainingEnd [(g, c)] found false) s = .next t ∧ t.held = true ∧
      t.get Reg.IMG_BOOT_STATUS_ERR = 0x30) ∧
    (bit (s.sec8 secDdr5 4) 1 = true → ∃ t, exec (.ddr5TrainingEnd [(g, c)] found false) s = .next t ∧ t.held = false ∧
      t.boot.memTrained = true ∧ t.groupState g = 8 + c)) ∧
  (∀ (s : State) (faults : List Nat), s.inStage 4 = true → s.boot.memTrained = true → s.sec32 secDdr5 0x14 ≠ 0 → faults.Nodup →
    (∀ p ∈ faults, p < s.bufPages) → 4096 < faults.length → ∃ t, exec (.marchCEnd faults) s = .next t ∧ t.held = true ∧
      t.get Reg.IMG_BOOT_STATUS_ERR = 0x32) ∧
  (∀ (s : State) (faults : List Nat), s.inStage 4 = true → s.boot.memTrained = true →
    s.loggedPages.length + faults.length ≤ 4096 → ∃ t, exec (.marchCEnd faults) s = .next t ∧ t.stage = 5 ∧ t.held = false ∧
      t.get Reg.BUF_MARCH_DONE = 1 ∧ t.get Reg.BUF_FILL_MARK_PAGE = 0 ∧ t.buf.mem = s.buf.mem) ∧
  (∀ s : State, 5 ≤ s.stage → s.held = false → s.get Reg.BUF_STATE_FILL_DONE = 0 → ∃ t, exec .bufferFillEnd s = .next t ∧
    t.get Reg.BUF_FILL_MARK_PAGE = s.bufPages % 2 ^ 23 ∧ t.get Reg.BUF_STATE_FILL_DONE = 1 ∧ t = { s with regs := t.regs }) ∧
  (∀ (s : State) (e : Bool), s.inStage 5 = true → e = true ∨ s.bulkOk = false → ∃ t, exec (.bulkStageEnd e) s = .next t ∧ t.held = true ∧
    t.get Reg.IMG_BOOT_STATUS_ERR = 0x21) ∧
  (∀ s : State, s.inStage 5 = true → s.bulkOk = true → ∃ t, exec (.bulkStageEnd false) s = .next t ∧ t.boot.bulkEnded = true ∧
    t.flash = s.flash ∧ t.fuses = s.fuses ∧ t.media = s.media)

/-- A lane in code 2 that locks on track, whose preamp has told version 1 in PROFILE or tells it now, answers a next state in which it
waits for its system area, with the stage SYSTEM_AREA where no other used lane has still to end SERVO; one whose servo does not lock, or
whose preamp told another version or none, gets SERVO_FAIL. A lane that reads its system area becomes ready with the pending list, the
grown defects and the remaps that it holds, and one that reads neither copy gets SYSTEM_AREA_FAIL; where another used lane has still to
end, the stage goes on. -/
def Obligations.LanesEndServoAndSystemArea : Prop :=
  (∀ (s : State) (n : Lane) (a : PspAnswer), s.used n.val = true → s.held = false → s.stage = 7 → s.laneCode n.val = 2 →
    (s.lane n).fmt.profile = some true ∨ ((s.lane n).fmt.profile = none ∧ ∃ v, pspValue 0 a = some v ∧ v % 256 = 1) →
    (s.lane n).sek.phase = .onTrack → ∃ t, exec (.servoLock n true a) s = .next t ∧ t.laneCode n.val = 3 ∧
      ((∀ m : Lane, s.used m.val = true → m ≠ n → s.laneCode m.val = 3) → s.shutState = 0 → t.stage = 8)) ∧
  (∀ (s : State) (n : Lane) (locked : Bool) (a : PspAnswer), s.used n.val = true → s.held = false → s.stage = 7 → s.laneCode n.val = 2 →
    (∃ m : Lane, s.used m.val = true ∧ s.laneCode m.val < 3 ∧ m ≠ n) →
    locked = false ∨ (s.lane n).fmt.profile = some false ∨
      ((s.lane n).fmt.profile = none ∧ ∀ v, pspValue 0 a = some v → v % 256 ≠ 1) →
    ∃ t, exec (.servoLock n locked a) s = .next t ∧ t.laneCode n.val = 9 ∧ t.stage = 7) ∧
  (∀ (s : State) (n : Lane), s.used n.val = true → s.held = false → s.stage = 7 ∨ s.stage = 8 → s.laneCode n.val = 3 →
    (∃ m : Lane, s.used m.val = true ∧ s.laneCode m.val < 4 ∧ m ≠ n) → ∃ t, exec (.systemAreaReadEnd n true) s = .next t ∧
      t.laneCode n.val = 4 ∧ (t.lane n).rcv.pending = (s.lane n).sys.pending ∧ (t.lane n).rcv.grown = (s.lane n).sys.grown ∧
      (t.lane n).rcv.remap = (s.lane n).sys.remap) ∧
  (∀ (s : State) (n : Lane), s.used n.val = true → s.held = false → s.stage = 7 ∨ s.stage = 8 → s.laneCode n.val = 3 →
    (∃ m : Lane, s.used m.val = true ∧ s.laneCode m.val < 4 ∧ m ≠ n) → ∃ t, exec (.systemAreaReadEnd n false) s = .next t ∧ t.laneCode n.val = 0xA)

/-! ## Power and media time (chapter 4) -/

/-- While crystal edges come, CRYSTAL_STOPPED answers a next state whose operating time is 4 ms later (up to its 40 bits), with
KLN.STATUS.LKO_PACED 1 and the crystal declared stopped; CRYSTAL_EDGE_RETURN then answers one with the operating time unchanged and
LKO_PACED 0. Neither touches a lane, the media, the buffer or the queue. -/
def Obligations.CrystalStopsAndReturns : Prop :=
  (∀ s : State, s.pwr.crystalStopped = false → ∃ t, exec .crystalStopped s = .next t ∧ t.pwr.crystalStopped = true ∧
    t.get Reg.KLN_STATUS_LKO_PACED = 1 ∧ t.lanes = s.lanes ∧ t.media = s.media ∧ t.buf = s.buf ∧ t.pending = s.pending) ∧
  (∀ s : State, s.pwr.crystalStopped = true → ∃ t, exec .crystalEdgeReturn s = .next t ∧ t.pwr.crystalStopped = false ∧
    t.get Reg.KLN_STATUS_LKO_PACED = 0 ∧ t.crn.opTime = s.crn.opTime ∧ t.lanes = s.lanes ∧ t.media = s.media ∧ t.buf = s.buf ∧
    t.pending = s.pending) ∧
  (∀ s : State, s.pwr.crystalStopped = false → s.crn.opTime + 4 < 2 ^ 40 → ∃ t, exec .crystalStopped s = .next t ∧
    t.crn.opTime = s.crn.opTime + 4)

/-- Once the LOCK stage has ended, with a request in force: AVS_STEP_UP answers a next state whose TARGET is the next multiple of 5 mV,
where it, VMIN, VMAX and the floor allow it, and sends it; AVS_STEP_DOWN one with the multiple of 5 mV below, never below the floor; before
the stage has ended neither changes anything. AVS_RESPONSE shows the read-back voltage and ends the request, with a Voltage read and a
Status read where a request was in force. AVS_NO_RESPONSE sends the request again twice, and the third time sets NO_RESPONSE and keeps from
lowering the voltage; then AVS_STEP_DOWN changes nothing. -/
def Obligations.CoreVoltageRequests : Prop :=
  (∀ (s : State) (floor v : Nat), s.boot.lockEnded = true → s.pwr.raiseOnly = false → s.get Reg.PWR_AVS_STATUS_TARGET ≠ 0 →
    v % 5 = 0 → s.get Reg.PWR_AVS_STATUS_TARGET < v → v ≤ s.get Reg.PWR_AVS_STATUS_TARGET + 5 →
    s.get Reg.PWR_AVS_CTRL_VMIN ≤ v → floor ≤ v → v ≤ s.get Reg.PWR_AVS_CTRL_VMAX → ∃ t, exec (.avsStepUp floor) s = .next t ∧
      t.get Reg.PWR_AVS_STATUS_TARGET = v ∧ t.out = .avs 0 (.voltageWrite v) :: s.out ∧ t.pwr.avsRequest = some v) ∧
  (∀ (s : State) (floor v : Nat), s.boot.lockEnded = true → s.pwr.raiseOnly = false → v % 5 = 0 → v < s.get Reg.PWR_AVS_STATUS_TARGET →
    s.get Reg.PWR_AVS_STATUS_TARGET ≤ v + 5 → s.get Reg.PWR_AVS_CTRL_VMIN ≤ v → floor ≤ v → v ≤ s.get Reg.PWR_AVS_CTRL_VMAX →
    ∃ t, exec (.avsStepDown floor) s = .next t ∧ t.get Reg.PWR_AVS_STATUS_TARGET = v ∧
      t.out = .avs 0 (.voltageWrite v) :: s.out ∧ t.pwr.avsRequest = some v) ∧
  (∀ (s : State) (floor : Nat) (i : Instr), i ∈ [Instr.avsStepUp floor, .avsStepDown floor] → s.boot.lockEnded = false →
    exec i s = .next s) ∧
  (∀ (s : State) (floor : Nat), s.pwr.raiseOnly = true → exec (.avsStepDown floor) s = .next s) ∧
  (∀ (s : State) (mv : Nat), mv < 1024 → ∃ t, exec (.avsResponse mv) s = .next t ∧ t.get Reg.PWR_AVS_STATUS_READBACK = mv ∧
    t.pwr.avsRequest = none ∧ t.get Reg.PWR_AVS_STATUS_TARGET = s.get Reg.PWR_AVS_STATUS_TARGET ∧
    (s.pwr.avsRequest ≠ none → t.out = .avs 0 .statusRead :: .avs 0 .voltageRead :: s.out)) ∧
  (∀ (s : State) (mv : Nat), s.pwr.avsRequest = some mv → s.pwr.avsTries < 2 → exec .avsNoResponse s =
    .next { s with out := .avs 0 (.voltageWrite mv) :: s.out, pwr := { s.pwr with avsTries := s.pwr.avsTries + 1 } }) ∧
  (∀ (s : State) (mv : Nat), s.pwr.avsRequest = some mv → 2 ≤ s.pwr.avsTries → ∃ t, exec .avsNoResponse s = .next t ∧
    t.get Reg.PWR_AVS_STATUS_NO_RESPONSE = 1 ∧ t.pwr.raiseOnly = true ∧ t.pwr.avsRequest = none)

/-- For a present block that is not the core of a port in L0, with IDLE_US above 0, GATE_IDLE_EXPIRY answers a next state whose gate bit is 1
and in which nothing but that register differs; with IDLE_US 0, or for a port in L0, nothing changes. BLOCK_WAKE of a present and used
block answers one whose gate bit is 0 and in which nothing but that register differs. -/
def Obligations.BlocksGateAndWake : Prop :=
  (∀ (s : State) (b : GateBlock), s.get Reg.PWR_GATE_IDLE_IDLE_US ≠ 0 → s.gatePresent b = true →
    (∀ p, b = .hif p → s.hif.ports[p].linkUp = false ∨ s.hif.ports[p].inL1 = true) →
    ∃ t, exec (.gateIdleExpiry b) s = .next t ∧ t.get (gateField b) = 1 ∧ t = { s with regs := t.regs } ∧
      (∀ off, off ≠ 0xD0014 → t.reg off = s.reg off)) ∧
  (∀ (s : State) (b : GateBlock), s.get Reg.PWR_GATE_IDLE_IDLE_US = 0 → exec (.gateIdleExpiry b) s = .next s) ∧
  (∀ (s : State) (p : Port), s.hif.ports[p].linkUp = true → s.hif.ports[p].inL1 = false →
    exec (.gateIdleExpiry (.hif p)) s = .next s) ∧
  (∀ (s : State) (b : GateBlock), s.gatePresent b = true → s.gateUsable b = true → ∃ t, exec (.blockWake b) s = .next t ∧
    t.get (gateField b) = 0 ∧ t = { s with regs := t.regs } ∧ (∀ off, off ≠ 0xD0014 → t.reg off = s.reg off))

/-! ## Micro-sequencers (chapter 5) -/

/-- For a sequencer that is due to execute a legal word without an access, an event or a safe point: each of the nine sequencing
operations answers a next state in which the sequencer's context is the one after the ALU result, at the address (and with the return
stack, the loop counter, IN_DISP and the handler rank) that R146 gives; CALL needs a stack that is not full, RET, RETD and RETP one that
is not empty. Only that sequencer differs; its checkpoint and latches stay, and one more instruction counts since the last safe point. -/
def Obligations.WordsGoOnWhereSeqSays : Prop :=
  ∀ (s : State) (q : SeqIx) (f : Fetch) (w : BitVec 128) (pc : Nat), s.executes q f w pc → plainWord w →
    (wSeq w = 0 → ∃ t, exec (.next q f) s = .next t ∧ s.ranWord t q ∧
      (t.seq q).ctx = { (s.seq q).ctx.results w with pc := (pc + 1) % 65536 }) ∧
    (wSeq w = 1 → ∃ t, exec (.jump q f) s = .next t ∧ s.ranWord t q ∧
      (t.seq q).ctx = { (s.seq q).ctx.results w with pc := wTarget w }) ∧
    (wSeq w = 2 → ∃ t, exec (.jt q f) s = .next t ∧ s.ranWord t q ∧ (t.seq q).ctx =
      { (s.seq q).ctx.results w with
        pc := if (s.seq q).ctx.cond w (decide (0 < (s.queue (seqQueue q)).pkts)) (s.seq q).lastErr then wTarget w else (pc + 1) % 65536 }) ∧
    (wSeq w = 3 → ∃ t, exec (.jf q f) s = .next t ∧ s.ranWord t q ∧ (t.seq q).ctx =
      { (s.seq q).ctx.results w with
        pc := if (s.seq q).ctx.cond w (decide (0 < (s.queue (seqQueue q)).pkts)) (s.seq q).lastErr then (pc + 1) % 65536 else wTarget w }) ∧
    (wSeq w = 4 → (s.seq q).ctx.stack.length < 8 → ∃ t, exec (.call q f) s = .next t ∧ s.ranWord t q ∧ (t.seq q).ctx =
      { (s.seq q).ctx.results w with pc := wTarget w, stack := (pc + 1) % 65536 :: (s.seq q).ctx.stack }) ∧
    (∀ a rest, (s.seq q).ctx.stack = a :: rest →
      (wSeq w = 5 → ∃ t, exec (.ret q f) s = .next t ∧ s.ranWord t q ∧
        (t.seq q).ctx = { (s.seq q).ctx.results w with pc := a, stack := rest }) ∧
      (wSeq w = 8 → ∃ t, exec (.retd q f) s = .next t ∧ s.ranWord t q ∧
        (t.seq q).ctx = { (s.seq q).ctx.results w with pc := a, stack := rest, inDisp := false }) ∧
      (wSeq w = 9 → ∃ t, exec (.retp q f) s = .next t ∧ s.ranWord t q ∧ (t.seq q).ctx =
        { (s.seq q).ctx.results w with
          pc := a, stack := rest, rank := (s.seq q).ctx.ranks.headD 0, ranks := (s.seq q).ctx.ranks.drop 1 })) ∧
    (wSeq w = 6 → ∃ t, exec (.loop q f) s = .next t ∧ s.ranWord t q ∧ (t.seq q).ctx =
      { (s.seq q).ctx.results w with
        lc := ((s.seq q).ctx.results w).lc - 1
        pc := if ((s.seq q).ctx.results w).lc ≤ 1 then (pc + 1) % 65536 else wTarget w })

/-- For a sequencer due to execute a legal word without an access: WAIT on an empty queue answers a state in which the sequencer is
stalled at the address of its word and nothing else differs; on a queue with an item, without an event, it pops the item, loads G29 to
G31 from it after the ALU result, goes on at the next address, and the checkpoint is the context reached, with CONSEC 0. A stalled WAIT
that was handed an item ends in the same way. A NEXT word that is a safe point, with a packet waiting, IN_DISP 0, no deferral in force and
room on the stack, goes on at the dispatch entry with its next address pushed and IN_DISP set, the checkpoint being the context before;
while a deferral lasts it takes the checkpoint only. A NEXT word with EMIT raises EVID with the SRCB register as payload and does the
rest as without. -/
def Obligations.WaitSafePointAndEmit : Prop :=
  (∀ (s : State) (q : SeqIx) (f : Fetch) (w : BitVec 128) (pc : Nat), s.executes q f w pc → wPort w = 0 →
    (wSeq w = 7 → (s.queue (seqQueue q)).depth = 0 → ∃ t, exec (.wait q f) s = .next t ∧
      t = s.setSeq q { s.seq q with run := .stalled, held := some w, fresh := false, ctx := { (s.seq q).ctx with pc := pc } }) ∧
    (wSeq w = 7 → wEmit w = false → ∀ i u, s.popQueue (seqQueue q) = some (i, u) → (s.queue (seqQueue q)).depth ≠ 0 →
      ∃ t, exec (.wait q f) s = .next t ∧
      (t.seq q).ctx = { ((s.seq q).ctx.results w).loadItem i with pc := (pc + 1) % 65536 } ∧ (t.seq q).chk = (t.seq q).ctx ∧
      (t.seq q).since = 0 ∧ t.get ⟨seqFaultReg q, 27, 24⟩ = 0 ∧ t.queues = u.queues ∧ (∀ r, r ≠ q → t.seq r = s.seq r)) ∧
    (wSeq w = 0 → wEmit w = false → wSp w = true → 0 < (s.queue (seqQueue q)).pkts → ((s.seq q).ctx.results w).inDisp = false →
      (s.seq q).deferredIn (s.seq q).ctx.ranks = none → ((s.seq q).ctx.results w).stack.length < 8 → ∃ t, exec (.next q f) s = .next t ∧
      (t.seq q).chk = { (s.seq q).ctx.results w with pc := (pc + 1) % 65536 } ∧ (t.seq q).ctx = { (t.seq q).chk with
        pc := segBase q.val + 0x20, stack := (pc + 1) % 65536 :: ((s.seq q).ctx.results w).stack, inDisp := true } ∧
      (t.seq q).since = 0 ∧ t = { s with seqs := t.seqs, regs := t.regs }) ∧
    (wSeq w = 0 → wEmit w = false → wSp w = true → (s.seq q).deferredIn (s.seq q).ctx.ranks ≠ none → ∃ t, exec (.next q f) s = .next t ∧
      (t.seq q).ctx = { (s.seq q).ctx.results w with pc := (pc + 1) % 65536 } ∧ (t.seq q).chk = (t.seq q).ctx ∧
      (t.seq q).since = 0 ∧ t = { s with seqs := t.seqs, regs := t.regs }) ∧
    (wSeq w = 0 → wEmit w = true → wSp w = false → ∃ t, exec (.next q f) s = .next t ∧
      t = { s.raise (wEvid w) ((s.seq q).ctx.read (wSrcB w)) with seqs := t.seqs } ∧ s.othersServed t q ∧
      (t.seq q).ctx = { (s.seq q).ctx.results w with pc := (pc + 1) % 65536 } ∧ (t.seq q).chk = (s.seq q).chk ∧
      (t.seq q).run = .running ∧ (t.seq q).since = (s.seq q).since + 1)) ∧
  (∀ (s : State) (q : SeqIx) (f : Fetch) (w : BitVec 128) (i : Item), s.powered = true →
    (s.seq q).run = .running ∨ (s.seq q).run = .stalled → (s.seq q).since < 4096 → (s.seq q).item = some i → (s.seq q).held = some w →
    (s.seq q).errPending = none → wordIllegal w (s.seq q).ctx.rank = false → wPort w = 0 → wEmit w = false → wSeq w = 7 →
    ∃ t, exec (.wait q f) s = .next t ∧
      (t.seq q).ctx = { ((s.seq q).ctx.results w).loadItem i with pc := ((s.seq q).ctx.pc + 1) % 65536 } ∧
      (t.seq q).chk = (t.seq q).ctx ∧ (t.seq q).run = .running ∧ (t.seq q).item = none ∧ (t.seq q).held = none ∧ t.queues = s.queues ∧
      (∀ r, r ≠ q → t.seq r = s.seq r))

/-- A running sequencer whose fetch faults, or that has executed 4,096 instructions since its last safe point (WATCHDOG_TRIP), with its
lane's write gate low and FAULT_LIMIT not reached, answers a state in which it restarts, SEQ.FAULT_s has the cause (2 for the watchdog),
one more CONSEC and COUNT, and its context, checkpoint and latches stay. SEQ_RESTART_RESUME of a restarting sequencer answers a next state
with the checkpoint in force and the sequencer running, and nothing else differs. A privileged source of a present lane sets its latch,
or, where that is set, adds 1 to its SEQ.PRIV_LOST_n field. With a source of rank r due and room on the stack, the word at its vector
executes with the address pushed (after a safe point that dispatched, from the checkpoint), the latch clear, a stall in WAIT abandoned and
the rank recorded. -/
def Obligations.FaultsRestartsAndPrivilegedSources : Prop :=
  (∀ (s : State) (q : SeqIx) (f : Fetch) (c : Nat), s.powered = true → (s.seq q).run = .running → (s.seq q).held = none →
    (s.seq q).since < 4096 → (s.seq q).pendingRank = none → s.fetchWord q.val (s.seq q).ctx.pc f.rom = .fault c →
    s.get ⟨seqFaultReg q, 27, 24⟩ + 1 < s.sec8 secSeqParams 0 → s.get ⟨seqFaultReg q, 27, 24⟩ < 15 →
    (∀ h : q.val < 4, (s.lane ⟨q.val, h⟩).fmt.wgate = false) →
    ∀ i ∈ [Instr.next q f, .jump q f, .jt q f, .jf q f, .call q f, .ret q f, .loop q f, .wait q f, .retd q f, .retp q f],
    ∃ t, exec i s = .next t ∧ t.get ⟨seqFaultReg q, 31, 28⟩ = c ∧
      t.get ⟨seqFaultReg q, 27, 24⟩ = s.get ⟨seqFaultReg q, 27, 24⟩ + 1 ∧
      t.seq q = { s.seq q with run := .restarting, errPending := none, fresh := false } ∧ s.othersServed t q ∧ t.lanes = s.lanes) ∧
  (∀ (s : State) (q : SeqIx), 4096 ≤ (s.seq q).since → (s.seq q).run = .running ∨ (s.seq q).run = .stalled →
    s.get ⟨seqFaultReg q, 27, 24⟩ + 1 < s.sec8 secSeqParams 0 → s.get ⟨seqFaultReg q, 27, 24⟩ < 15 →
    (∀ h : q.val < 4, (s.lane ⟨q.val, h⟩).fmt.wgate = false) → ∃ t, exec (.watchdogTrip q) s = .next t ∧
      t.get ⟨seqFaultReg q, 31, 28⟩ = 2 ∧ t.get ⟨seqFaultReg q, 15, 0⟩ = satAdd 0xFFFF (s.get ⟨seqFaultReg q, 15, 0⟩) 1 ∧
      t.seq q = { s.seq q with run := .restarting, errPending := none, held := none, fresh := false } ∧ t.lanes = s.lanes) ∧
  (∀ (s : State) (q : SeqIx), (s.seq q).run = .restarting → ∃ t, exec (.seqRestartResume q) s = .next t ∧
    t = s.setSeq q { s.seq q with
      ctx := (s.seq q).chk, run := .running, since := 0, deferred := (s.seq q).deferredIn (s.seq q).chk.ranks }) ∧
  (∀ (s : State) (n : Lane) (src : PrivSource), s.powered = true → s.present n = true →
    (s.seq (laneSeq n)).latches.toList.getD (privRank src - 1) false = false → ∃ t,
      exec (.privilegedSourceAssert n src) s = .next t ∧ t = { s with seqs := t.seqs } ∧ (t.seq (laneSeq n)).ctx = (s.seq (laneSeq n)).ctx ∧
      (∀ i : Fin 5, (t.seq (laneSeq n)).latches[i] = (decide (i.val = privRank src - 1) || (s.seq (laneSeq n)).latches[i]))) ∧
  (∀ (s : State) (n : Lane) (src : PrivSource), s.powered = true → s.present n = true →
    (s.seq (laneSeq n)).latches.toList.getD (privRank src - 1) false = true → ∃ t,
      exec (.privilegedSourceAssert n src) s = .next t ∧ (t.seq (laneSeq n)).latches = (s.seq (laneSeq n)).latches ∧
      (t.seq (laneSeq n)).ctx = (s.seq (laneSeq n)).ctx ∧
      t.get (privLostField n (privRank src)) = satAdd 63 (s.get (privLostField n (privRank src))) 1) ∧
  (∀ (s : State) (q : SeqIx) (r : Nat) (x : SeqCtx), q.val < 4 → (s.seq q).pendingRank = some r →
    x = (if (s.seq q).fresh then (s.seq q).chk else (s.seq q).ctx) → x.stack.length < 8 → ∃ y,
    (s.seq q).takePriv true = some y ∧ y.ctx = { x with
      pc := 0x40 + 4 * (r - 1), stack := x.pc % 65536 :: x.stack, rank := r, ranks := x.rank :: x.ranks } ∧
    y.latches.toList.getD (r - 1) true = false ∧ y.held = none ∧ y.run = .running ∧
    ∀ (f : Fetch) (w : BitVec 128) (pc : Nat), s.powered = true → (s.seq q).run = .running ∨ (s.seq q).run = .stalled →
      (s.seq q).item = none → (s.seq q).since < 4096 → s.fetchWord q.val y.ctx.pc f.rom = .word w pc → wSeq w = 0 →
      exec (.next q f) s = .next ((s.setSeq q y).runWord q w pc f.portError))

/-- R155: a fetch from a ROM address that its class may fetch, at which the match register with index i is enabled and none of a lower
index is, gives the Mend word at PATCH_ADDR of register i and goes on from there, whatever the ROM holds. R153: a fetch from Mend gives
the Mend word at its own address, whatever the match registers hold. -/
def Obligations.LowestMatchRegisterDecides : Prop :=
  (∀ (s : State) (q : SeqIx) (a i : Nat) (rom : BitVec 128), romOk q a = true → i < 32 →
    s.get ⟨0x21000 + 0x80 * q + 4 * i, 31, 31⟩ = 1 → s.get ⟨0x21000 + 0x80 * q + 4 * i, 15, 0⟩ = a →
    (∀ j < i, ¬(s.get ⟨0x21000 + 0x80 * q + 4 * j, 31, 31⟩ = 1 ∧ s.get ⟨0x21000 + 0x80 * q + 4 * j, 15, 0⟩ = a)) →
    s.fetchWord q a rom = .word (s.mendWord (0xC000 + s.get ⟨0x21000 + 0x80 * q + 4 * i, 26, 16⟩))
      (0xC000 + s.get ⟨0x21000 + 0x80 * q + 4 * i, 26, 16⟩)) ∧
  (∀ (s : State) (q : SeqIx) (a : Nat) (rom : BitVec 128), 0xC000 ≤ a → a < 0xC800 → s.fetchWord q a rom = .word (s.mendWord a) a)

/-- For 32-bit words A and B the ALU's results are those of 32-bit arithmetic: sums, differences, bitwise operations, shifts and the
rotation by B[4:0], minima and maxima, products; the carry of ADD and ADDC is the carry out of bit 31, V the signed overflow; C of SUB
and CMP is 1 where A is not below B (no borrow, as SUBB takes it), and SATADD saturates exactly where the signed sum overflows. -/
def Obligations.AluIsWordArithmetic : Prop :=
  ∀ (x : SeqCtx) (a b : BitVec 32),
    ((x.alu 0x02 a.toNat b.toNat).1 = some (a + b).toNat ∧
      (x.alu 0x02 a.toNat b.toNat).2.c = BitVec.carry 32 a b false ∧ (x.alu 0x02 a.toNat b.toNat).2.v = a.saddOverflow b ∧
      (x.alu 0x02 a.toNat b.toNat).2.z = (a + b == 0#32) ∧ (x.alu 0x02 a.toNat b.toNat).2.n = (a + b).msb) ∧
    ((x.alu 0x03 a.toNat b.toNat).1 = some (a + b + (BitVec.ofBool x.c).setWidth 32).toNat ∧
      (x.alu 0x03 a.toNat b.toNat).2.c = BitVec.carry 32 a b x.c) ∧
    ((x.alu 0x04 a.toNat b.toNat).1 = some (a - b).toNat ∧ (x.alu 0x04 a.toNat b.toNat).2.c = b.ule a ∧
      (x.alu 0x04 a.toNat b.toNat).2.v = a.ssubOverflow b ∧ (x.alu 0x04 a.toNat b.toNat).2.z = (a == b) ∧
      (x.alu 0x04 a.toNat b.toNat).2.n = (a - b).msb) ∧
    ((x.alu 0x05 a.toNat b.toNat).1 = some (a - b - (BitVec.ofBool !x.c).setWidth 32).toNat) ∧
    (x.alu 0x0D a.toNat b.toNat = (none, (x.alu 0x04 a.toNat b.toNat).2)) ∧
    ((x.alu 0x06 a.toNat b.toNat).1 = some (a &&& b).toNat ∧ (x.alu 0x07 a.toNat b.toNat).1 = some (a ||| b).toNat ∧
      (x.alu 0x08 a.toNat b.toNat).1 = some (a ^^^ b).toNat) ∧
    ((x.alu 0x09 a.toNat b.toNat).1 = some (a <<< (b.toNat % 32)).toNat ∧
      (x.alu 0x0A a.toNat b.toNat).1 = some (a >>> (b.toNat % 32)).toNat ∧
      (x.alu 0x0B a.toNat b.toNat).1 = some (a.sshiftRight (b.toNat % 32)).toNat ∧
      (x.alu 0x0C a.toNat b.toNat).1 = some (a.rotateLeft (b.toNat % 32)).toNat) ∧
    ((x.alu 0x11 a.toNat b.toNat).1 = some (if a.saddOverflow b then (if a.msb then 0x80000000#32 else 0x7FFFFFFF#32) else a + b).toNat ∧
      (x.alu 0x11 a.toNat b.toNat).2.v = a.saddOverflow b ∧ (x.alu 0x11 a.toNat b.toNat).2.c = false) ∧
    ((x.alu 0x15 a.toNat b.toNat).1 = some (a * b).toNat ∧
      (x.alu 0x16 a.toNat b.toNat).1 = some ((a.signExtend 64 * b.signExtend 64) >>> 32).toNat)

/-! ## Events and queues (chapter 6) -/

/-- EVENT_RAISE of an event that no chapter defines, or of an absent unit, changes nothing. For a defined event of a present unit: with
routing word 0 it changes nothing; routed to a sequencer's queue alone it puts one item with its ID, PRIO, END 1 and payload at the end
of the filling bank, where that has room, no level is crossed and the sequencer does not stall in WAIT, and changes nothing else; to the
empty queue of a sequencer that stalls it hands the item to it; refused by a full queue whose OVERRUN is already 1 it only adds 1 to the
drop count, up to 255; routed to ALERT or an MSI-X vector alone it leaves its status bit 1. A pop of a queue that is in no packet takes
from the draining bank (the filling bank where that was empty) an item that no item there has a higher priority than, and DEPTH falls
by 1. -/
def Obligations.EventsReachTheirTargets : Prop :=
  (∀ (s : State) (id : Fin 2048) (p : Nat), s.powered = true →
    (definedEvent id.val = false ∨ s.absentEvent id.val = true → exec (.eventRaise id [p]) s = .next s) ∧
    (s.get (Reg.EVT_ROUTE_WORD id.val) = 0 → exec (.eventRaise id [p]) s = .next s)) ∧
  (∀ (s : State) (id : Fin 2048) (p : Nat), s.powered = true → definedEvent id.val = true → s.absentEvent id.val = false →
    (∀ (q : Fin 7) (prio : Fin 4), s.get (Reg.EVT_ROUTE_WORD id.val) = 0x1000 + 0x400 * prio.val + q.val →
      ((s.seq q).run ≠ .stalled → (s.queue ⟨q.val, by omega⟩).fill.length < 64 →
        (s.queue ⟨q.val, by omega⟩).depth + 1 ≠ s.get (Reg.EVT_Q_CTRL_LEVEL q.val) → ∃ t, exec (.eventRaise id [p]) s = .next t ∧
        t = s.setQueue ⟨q.val, by omega⟩ { s.queue ⟨q.val, by omega⟩ with
          fill := (s.queue ⟨q.val, by omega⟩).fill ++ [⟨id.val, prio.val, true, p % 2 ^ 48⟩] }) ∧
      ((s.seq q).run = .stalled → (s.seq q).item = none → 4 ≤ q.val ∨ (s.seq q).pendingRank = none →
        (s.queue ⟨q.val, by omega⟩).depth = 0 → (s.queue ⟨q.val, by omega⟩).half = none → s.get (Reg.EVT_Q_CTRL_LEVEL q.val) ≠ 1 →
        ∃ t, exec (.eventRaise id [p]) s = .next t ∧ (t.queue ⟨q.val, by omega⟩).depth = 0 ∧
          t.seq q = { s.seq q with run := .running, item := some ⟨id.val, prio.val, true, p % 2 ^ 48⟩ } ∧
          t = { s with seqs := t.seqs, queues := t.queues }) ∧
      ((s.seq q).run ≠ .stalled → (s.queue ⟨q.val, by omega⟩).fill.length = 64 → (s.queue ⟨q.val, by omega⟩).drain.length = 64 →
        s.get (Reg.EVT_Q_STATUS_OVERRUN q.val) = 1 → ∃ t, exec (.eventRaise id [p]) s = .next t ∧
          t.get (Reg.EVT_Q_DROPS_COUNT q.val) = satAdd 255 (s.get (Reg.EVT_Q_DROPS_COUNT q.val)) 1 ∧ t.queues = s.queues ∧
          t = { s with regs := t.regs })) ∧
    (s.get (Reg.EVT_ROUTE_WORD id.val) = 0x4000 ∨ (∃ v, v < 0x1000 ∧ s.get (Reg.EVT_ROUTE_WORD id.val) = 0x2000 + v) →
      ∃ t, exec (.eventRaise id [p]) s = .next t ∧ t.get ⟨0x12000 + 4 * (id.val / 32), id.val % 32, id.val % 32⟩ = 1 ∧
        t.queues = s.queues ∧ t.crn = s.crn ∧ t.lanes = s.lanes)) ∧
  (∀ (x : Queue), x.half = none → x.drain ++ x.fill ≠ [] → (∀ i ∈ x.drain ++ x.fill, i.prio < 4) →
    ∃ i y, x.pop = some (i, y) ∧ y.depth + 1 = x.depth ∧
      i ∈ (if x.drain = [] then x.fill else x.drain) ∧ (∀ j ∈ (if x.drain = [] then x.fill else x.drain), i.prio ≤ j.prio))

/-- After the patch lock, TQ_POP_LO_READ by a port whose BAR is open: with an item in the queue it answers a state that sends the low half
of the item that a pop takes and has captured its high half for that port; on an empty queue the read waits and nothing else differs;
TQ_POP_TIMEOUT of a waiting read sends 0x0000_8000 and captures 0, the read no longer waits and the queue is as it was. Q_STATUS_WRITE by
a port of 1 to LVL_HIT and OVERRUN clears both, leaves the items, and arms the queue exactly where DEPTH is below LEVEL or it was armed.
MSIX_UNMASK of a vector that is pending, with MSI-X enabled and the function not masked, sends its message with the address and data of its table entry; masking only masks it. -/
def Obligations.TelemetryReadsAndQueueFlags : Prop :=
  (∀ (s : State) (p : Port), s.barOpen p = true → s.locked = true →
    (∀ i u, s.popQueue 7 = some (i, u) → ∃ t, exec (.tqPopLoRead (.port p)) s = .next t ∧ t.queues = u.queues ∧
      t.out = .readData (.port p) (BitVec.ofNat 32 (i.word % 2 ^ 32)) :: s.out ∧ t.captured p.val tqPopLo = i.word / 2 ^ 32 % 2 ^ 32) ∧
    ((s.queue 7).depth = 0 → ∃ t, exec (.tqPopLoRead (.port p)) s = .next t ∧ t = { s with tqWait := s.tqWait ++ [.port p] }) ∧
    (s.tqWait.contains (.port p) = true → ∃ t, exec (.tqPopTimeout (.port p)) s = .next t ∧ t.queues = s.queues ∧
      t.out = .readData (.port p) 0x8000 :: s.out ∧ t.captured p.val tqPopLo = 0 ∧ t.tqWait = s.tqWait.erase (.port p)) ∧
    (∀ q : QIx, (q.val < 7 → s.seqPresent q.val = true) → ∃ t, exec (.qStatusWrite (.port p) q 0x60000000) s = .next t ∧
      t.get (Reg.EVT_Q_STATUS_LVL_HIT q.val) = 0 ∧ t.get (Reg.EVT_Q_STATUS_OVERRUN q.val) = 0 ∧
      (t.queue q).fill = (s.queue q).fill ∧ (t.queue q).drain = (s.queue q).drain ∧
      ((t.queue q).armed = true ↔ (s.queue q).armed = true ∨ (s.queue q).depth < s.get (Reg.EVT_Q_CTRL_LEVEL q.val)))) ∧
  (∀ (s : State) (p : Port) (v : Nat), s.memReach p = true → v < 2048 → (s.port p).msixEnabled = true →
    (s.port p).msixFnMask = false → (s.port p).msixPending = [v] → ∃ t, exec (.msixUnmask p v false) s = .next t ∧
      t.out = .msix p v ((s.port p).msixEntry v).1 ((s.port p).msixEntry v).2 :: s.out ∧ (t.port p).msixPending = [] ∧ t.regs = s.regs) ∧
  (∀ (s : State) (p : Port) (v : Nat), s.memReach p = true → v < 2048 → exec (.msixUnmask p v true) s =
    .next (s.setPort p { s.port p with msixUnmasked := (s.port p).msixUnmasked.filter (· != v) }))

/-! ## Read channel (chapter 7) -/

/-- SECTOR_PREAMBLE_START of a used lane with room in its bank and RECOVERY 0 puts the sector at the end of the bank with the preset and
weight set chosen then. SECTOR_DECODE_END of a framed sector outside recovery and measurement takes it out of the bank. With `m` what the
decoder measures of it (from its samples, or as reported) and P iterations in each of G passes: without a cap the limit is LOCAL_MAX, or
G P; with one it is the reduced limit. With checks that hold within it, a good CRC and known media that pass and agree, the sector is
delivered, LAST_CAUSE is 0 and the media stay. With checks that do not, it fails with cause 1 at the limit. With a CRC that does not match,
it fails with cause 2, whatever the decoder says of a sector whose media do not pass. With 12 sectors in the bank and a decode that the
next layer does not end well, the oldest fails with cause 3 and the arriving one takes its slot. READ_FIFO_OVERFLOW fails the sector with
cause 4. -/
def Obligations.SectorsDecodeInBankOrder : Prop :=
  (∀ (s : State) (n : Lane) (index pba : Nat) (cut : DecodeResult), s.used n.val = true → (s.lane n).chan.bank.length < 12 →
    s.get (Reg.CHN_CTRL_RECOVERY n.val) = 0 → ∃ t b, exec (.sectorPreambleStart n index pba cut) s = .next t ∧
      (t.lane n).chan = { (s.lane n).chan with
        bank := (s.lane n).chan.bank ++ [b]
        loaded := if index = 0 then (s.lane n).chan.refined else (s.lane n).chan.loaded } ∧ b.index = index ∧ b.pba = pba ∧
      b.preset = s.get (Reg.CHN_CTRL_PRESET_SEL n.val) ∧ b.wset = s.get (Reg.CHN_CTRL_WSET n.val) ∧ b.framed = none ∧
      t.get (Reg.CHN_STATUS_BANK_USED n.val) = (s.lane n).chan.bank.length + 1 ∧ t.media = s.media ∧
      (∀ m, m ≠ n → t.lane m = s.lane m)) ∧
  (∀ (s : State) (n : Lane) (r m : DecodeResult) (next : Bool) (llr : List Int) (b : BankSector) (rest : List BankSector) (g p limit : Nat),
    (s.lane n).chan.bank = b :: rest → b.framed.isSome = true → b.recovery = false → b.margin = false → b.measure r = (m, next, llr) →
    b.shape = (g, p) → 1 ≤ p →
    (s.get (Reg.CHN_STATUS_CAP n.val) = 0 ∧ limit = min b.localMax (g * p) ∨
      s.get (Reg.CHN_STATUS_CAP n.val) ≠ 0 ∧ s.sec8 secThermal 3 ≠ 0 ∧ m.ran < limit ∧
        limit = min (min b.localMax (s.get (Reg.CHN_STATUS_CAP n.val))) (min g (s.sec8 secThermal 3) * p)) →
    (1 ≤ m.needs → m.needs ≤ limit → m.crcOk = true → s.mediaPasses b.pba = true → (s.mediaAt b.pba).isSome = true →
      s.agrees b.pba m = true → ∃ t, exec (.sectorDecodeEnd n r) s = .next t ∧ (t.lane n).chan.bank = rest ∧
        (t.lane n).chan.delivered = (s.lane n).chan.delivered ++ [b.pba] ∧ (t.lane n).chan.failed = (s.lane n).chan.failed ∧
        t.get (Reg.CHN_STATUS_LAST_CAUSE n.val) = 0 ∧ t.get (Reg.CHN_STATUS_LAST_LOCAL n.val) = m.needs % 128 ∧
        t.get (Reg.CHN_STATUS_LAST_PASSES n.val) = (m.needs + p - 1) / p % 32 ∧ t.media = s.media ∧
        (∀ k, k ≠ n → t.lane k = s.lane k)) ∧
    (m.needs = 0 ∨ limit < m.needs → ∃ t, exec (.sectorDecodeEnd n r) s = .next t ∧ (t.lane n).chan.bank = rest ∧
        t.get (Reg.CHN_STATUS_LAST_LOCAL n.val) = limit % 128 ∧
        (t.lane n).chan.delivered = (s.lane n).chan.delivered ∧
        (t.lane n).chan.failed = (s.lane n).chan.failed ++ [(b.pba, 1)] ∧ t.media = s.media) ∧
    (1 ≤ m.needs → m.needs ≤ limit → m.crcOk = false ∨ s.mediaPasses b.pba = false → ∃ t, exec (.sectorDecodeEnd n r) s = .next t ∧
        (t.lane n).chan.bank = rest ∧ (t.lane n).chan.delivered = (s.lane n).chan.delivered ∧
        (t.lane n).chan.failed = (s.lane n).chan.failed ++ [(b.pba, 2)] ∧ t.media = s.media)) ∧
  (∀ (s : State) (n : Lane) (index pba : Nat) (cut m : DecodeResult) (llr : List Int) (b : BankSector) (rest : List BankSector) (g p : Nat),
    s.used n.val = true → (s.lane n).chan.bank = b :: rest → rest.length = 11 → b.recovery = false → b.margin = false →
    b.measure cut = (m, false, llr) → b.shape = (g, p) → m.ran < min b.localMax (g * p) →
    s.get (Reg.CHN_CTRL_RECOVERY n.val) = 0 → ∃ t x, exec (.sectorPreambleStart n index pba cut) s = .next t ∧
      (t.lane n).chan.bank = rest ++ [x] ∧ x.pba = pba ∧ (t.lane n).chan.failed = (s.lane n).chan.failed ++ [(b.pba, 3)]) ∧
  (∀ (s : State) (n : Lane) (index floor : Nat) (b : BankSector), (s.lane n).chan.bank.find? (·.index == index) = some b →
    b.recovery = false → b.margin = false → ∃ t, exec (.readFifoOverflow n index floor) s = .next t ∧
      (t.lane n).chan.bank = (s.lane n).chan.bank.filter (·.index != index) ∧
      (t.lane n).chan.failed = (s.lane n).chan.failed ++ [(b.pba, 4)] ∧ t.get (Reg.CHN_STATUS_LAST_CAUSE n.val) = 4 ∧
      t.get (Reg.CHN_STATUS_LAST_LOCAL n.val) = 0 ∧ t.get (Reg.CHN_STATUS_LAST_PASSES n.val) = 0 ∧ t.media = s.media)

/-- By a port whose BAR is open, after the lock, on a present lane: MARGIN_RUN with a sector count not 0, while no measurement runs,
answers a state with RUN 1, SECTORS as written and the results 0; MARGIN_ABORT one with RUN 0 in which nothing but that register
differs, so that no event was raised. ADDRESS_MARK_MISSED of a used lane that is not parked coasts and counts the miss; with the heads
over the disk it is the third in a row that, with media time not lost, declares media time lost with LOCKED 0 and the write gate low; media
stay where no sector was being written. -/
def Obligations.MarginRunsAndMissedMarks : Prop :=
  (∀ (s : State) (n : Lane) (p : Port) (v : Word), s.barOpen p = true → s.locked = true → s.present n.val = true →
    s.get (Reg.CHN_MARGIN_CTRL_RUN n.val) = 0 → v.toNat % 65536 ≠ 0 → ∃ t, exec (.marginRun n (.port p) v) s = .next t ∧
      t.get (Reg.CHN_MARGIN_CTRL_RUN n.val) = 1 ∧ t.get (Reg.CHN_MARGIN_CTRL_SECTORS n.val) = v.toNat % 65536 ∧
      t.get (Reg.CHN_MARGIN_SECT_DELIVERED n.val) = 0 ∧ t.get (Reg.CHN_MARGIN_SECT_FAILED n.val) = 0 ∧
      t.get (Reg.CHN_MARGIN_BITS_LO_BITS n.val) = 0 ∧ t.get (Reg.CHN_MARGIN_BITS_HI_BITS n.val) = 0 ∧ t.media = s.media) ∧
  (∀ (s : State) (n : Lane) (p : Port), s.barOpen p = true → s.locked = true → s.present n.val = true → ∃ t, exec (.marginAbort n (.port p)) s = .next t ∧
      t.get (Reg.CHN_MARGIN_CTRL_RUN n.val) = 0 ∧ t = { s with regs := t.regs } ∧
      (∀ off, off ≠ laneBase n + 0xC0 → off ≠ 0xD0014 → t.reg off = s.reg off)) ∧
  (∀ (s : State) (n : Lane), s.used n.val = true → (s.lane n).sek.phase ≠ .parked → (s.lane n).mts.misses < 2 →
    ∃ t, exec (.addressMarkMissed n) s = .next t ∧ (t.lane n).mts = ⟨(s.lane n).mts.misses + 1, 0, (s.lane n).mts.lost, true⟩ ∧
      t.get (Reg.FMT_MTS_STATUS_COAST n.val) = 1 ∧ t = { s with regs := t.regs, lanes := t.lanes }) ∧
  (∀ (s : State) (n : Lane), s.used n.val = true → s.onDisk n = true → 2 ≤ (s.lane n).mts.misses →
    (s.lane n).mts.lost = false → ∃ t, exec (.addressMarkMissed n) s = .next t ∧ (t.lane n).mts.lost = true ∧
      t.get (Reg.FMT_MTS_STATUS_LOCKED n.val) = 0 ∧ (t.lane n).fmt.wgate = false ∧
      ((s.lane n).fmt.wgate = false → t.media = s.media))

/-! ## Sector format and write path (chapter 8) -/

/-- FRAMING_DECISION of an unframed sector outside recovery, decided by R274 from the marks' distances (computed from its cells where they
are given) with the settings latched at its preamble: an outcome other than NO_SYNC shows in FRAME_STATUS and lets the sector go on to
detection; NO_SYNC fails it and takes it out of the bank. WRITE_STEP_START of a write operation without a step, Ln_PFAULT_N high and
preheat wedges to wait: the step holds its sectors with nothing done, HEAD is to be written with PREHEAT 1, the groups written in part are
stale, and the media and the gate are as before. With the preheat over, the gate low and every condition of the gate met it raises the
gate on its course, for the sectors not yet written, and nothing else differs; with Ln_PFAULT_N low the gate stays. PFAULT_N_FALL with the
gate high, and WRITE_FIFO_UNDERRUN at a sector of the step, answer a state with the gate low in which the sector in progress does not pass
its CRC. -/
def Obligations.FramingAndWriteSteps : Prop :=
  (∀ (s : State) (n : Lane) (index : Nat) (pm : List (Nat × Nat)) (bm : BackupView) (b : BankSector) (f : Framing),
    (s.lane n).chan.bank.find? (·.index == index) = some b → b.framed = none → b.recovery = false → b.margin = false →
    framing b.setup.win b.setup.thr b.setup.force (b.marksOf pm bm.backup bm.cells).1 (b.marksOf pm bm.backup bm.cells).2 = f →
    (f.outcome ≠ 8 → ∃ t, exec (.framingDecision n index pm bm) s = .next t ∧ t.get (Reg.FMT_FRAME_STATUS_OUTCOME n.val) = f.outcome ∧
      (t.lane n).chan.bank = (s.lane n).chan.bank.map (fun x => if x.index = index then { x with
        framed := some f.outcome, start := dataStart f.outcome f.offset, loops := b.loops.feedAll b.setup bm.cells } else x) ∧
      (t.lane n).chan.failed = (s.lane n).chan.failed ∧ t.media = s.media) ∧
    (f.outcome = 8 → ∃ t, exec (.framingDecision n index pm bm) s = .next t ∧ t.get (Reg.FMT_FRAME_STATUS_OUTCOME n.val) = 8 ∧
      (t.lane n).chan.bank = (s.lane n).chan.bank.filter (·.index != index) ∧
      (t.lane n).chan.failed = (s.lane n).chan.failed ++ [(b.pba, 8)] ∧ t.media = s.media)) ∧
  (∀ (s : State) (n : Lane) (pbas : List Nat) (o : MediaOp), s.writeOp n pbas = some o →
    ((s.lane n).fmt.write = none → (s.lane n).fmt.pfaultN = true → 0 < s.get (Reg.FMT_WRITE_CTRL_PREHEAT_WEDGES n.val) →
      ∃ t, exec (.writeStepStart n pbas) s = .next t ∧ (t.lane n).fmt.write = some ⟨o.sectors.filter (pbas.contains ·.pba), 0,
        s.get (Reg.FMT_WRITE_CTRL_PREHEAT_WEDGES n.val), 0⟩ ∧ bit ((t.lane n).fmt.next 1) 3 = true ∧
        (t.lane n).fmt.wgate = (s.lane n).fmt.wgate ∧ t.media = s.media ∧ (∀ g, (g, false) ∈ s.stepGroups pbas → g ∈ t.stale)) ∧
    (∀ w, (s.lane n).fmt.write = some w → w.preheatLeft = 0 → s.gateAllowed n = true → (s.lane n).fmt.wgate = false →
      ∃ t l, exec (.writeStepStart n pbas) s = .next t ∧ l = ((w.sectors.drop w.done).map (·.pba)) ∧
        t = (s.setFmt n { (s.lane n).fmt with wgate := true, write := some { w with wedge := s.nextWedge n l } }).emit
          (.writeGate n (s.gateCourse n l))) ∧
    (∀ w, (s.lane n).fmt.write = some w → (s.lane n).fmt.pfaultN = false → ∃ t, exec (.writeStepStart n pbas) s = .next t ∧
      (t.lane n).fmt = (s.lane n).fmt ∧ t.media = s.media)) ∧
  (∀ (s : State) (n : Lane) (fault : PspAnswer) (w : WriteStep) (x : WriteSector), s.used n.val = true → (s.lane n).fmt.wgate = true →
    (s.lane n).fmt.write = some w → w.sectors[w.done]? = some x → ∃ t, exec (.pfaultNFall n fault) s = .next t ∧
      (t.lane n).fmt.wgate = false ∧ t.mediaPasses x.pba = false ∧ ((t.lane n).fmt.pfaultN = true ↔ (pspValue 0x0A fault).isSome = true)) ∧
  (∀ (s : State) (n : Lane) (index floor : Nat) (w : WriteStep) (x : WriteSector), (s.lane n).fmt.wgate = true →
    (s.lane n).fmt.write = some w → w.done ≤ index → w.sectors[index]? = some x → ∃ t,
      exec (.writeFifoUnderrun n index floor) s = .next t ∧ (t.lane n).fmt.wgate = false ∧ t.mediaPasses x.pba = false)

/-- PSP_WRITE_FRAME of a register of the profile of a used lane with the gate low: a read-back, its CRC right, equal to the data at the
first or second try leaves the register with that value, and HEAD ends the refusal of the gate; two failures leave the gate refused, the
step ended and the register unknown. With the gate high a frame to WCUR, WOVS, HTR_WR or WASSIST waits. PSP_READ_FRAME of FAULT that is
read releases Ln_PFAULT_N. PSP_ACCESS_GO of a used lane, while no access runs: a write to 0x01 to 0x0A sets ERR and sends nothing; a read
shows the data and clears ERR; on an unused lane nothing is sent. PARITY_REBUILD of a stale group whose data sectors the cache holds, and
the end of its read where all were delivered, write Q0 of the current contents and erase the stale bit; until then, and with a sector that
was not delivered, it keeps the stale bit and the media. STALE_BITMAP_SAVE puts each used lane's stale bits and pending list in its system
area. -/
def Obligations.PreampPortAndTrackParity : Prop :=
  (∀ (s : State) (n : Lane) (addr data : Nat) (a retry : PspAnswer), s.used n.val = true → (s.lane n).fmt.wgate = false →
    1 ≤ addr → addr ≤ 9 →
    (pspValue addr a = some data ∨ pspValue addr retry = some data → ∃ t, exec (.pspWriteFrame n addr data a retry) s = .next t ∧
      (t.lane n).fmt.holds addr = data ∧ (t.lane n).fmt.refused = ((s.lane n).fmt.refused && addr != 1) ∧
      t = { s with lanes := t.lanes, out := t.out, regs := t.regs } ∧ (∀ off, off ≠ 0xD0014 → t.reg off = s.reg off)) ∧
    (pspValue addr a ≠ some data → pspValue addr retry ≠ some data → ∃ t, exec (.pspWriteFrame n addr data a retry) s = .next t ∧
      (t.lane n).fmt.refused = true ∧ (t.lane n).fmt.write = none ∧ (t.lane n).fmt.holds addr = pspUnwritten)) ∧
  (∀ (s : State) (n : Lane) (addr data : Nat) (a retry : PspAnswer), s.used n.val = true → (s.lane n).fmt.wgate = true →
    addr ∈ [2, 3, 5, 6] → ∃ t, exec (.pspWriteFrame n addr data a retry) s = .next t ∧ t = s.setFmt n { (s.lane n).fmt with
      waiting := (s.lane n).fmt.waiting.filter (·.1 != addr) ++ [(addr, data)] }) ∧
  (∀ (s : State) (n : Lane) (a : PspAnswer), s.used n.val = true → (pspValue 0x0A a).isSome = true → ∃ t,
    exec (.pspReadFrame n 0x0A a) s = .next t ∧ (t.lane n).fmt.pfaultN = true ∧
      t = { s with lanes := t.lanes, out := t.out, regs := t.regs }) ∧
  (∀ (s : State) (n : Lane) (p : Port) (v : Word) (a retry : PspAnswer), s.barOpen p = true → s.locked = true →
    s.present n.val = true → s.get (Reg.FMT_PSP_ACCESS_GO n.val) = 0 →
    (s.used n.val = true → bit v.toNat 30 = false → 1 ≤ bits v.toNat 22 16 → bits v.toNat 22 16 ≤ 0x0A → ∃ t,
      exec (.pspAccessGo n (.port p) v a retry) s = .next t ∧ t.get (Reg.FMT_PSP_ACCESS_ERR n.val) = 1 ∧ t = { s with regs := t.regs }) ∧
    (s.used n.val = true → bit v.toNat 30 = true → ∀ d, pspValue (bits v.toNat 22 16) a = some d → d < 65536 → ∃ t,
      exec (.pspAccessGo n (.port p) v a retry) s = .next t ∧
      t.get (Reg.FMT_PSP_ACCESS_DATA n.val) = d ∧ t.get (Reg.FMT_PSP_ACCESS_ERR n.val) = 0 ∧ t.media = s.media) ∧
    (s.used n.val = false → ∃ t, exec (.pspAccessGo n (.port p) v a retry) s = .next t ∧ t.out = s.out ∧ t.lanes = s.lanes)) ∧
  (∀ (s : State) (n : Lane) (h k g q : Nat), s.writesOpen n = true → headLane (s.section secGeometry) h = n.val → (h, k, g) ∈ s.stale →
    (∀ r ∈ s.rebuilds, r.1 ≠ (h, k, g)) →
    (s.groupParity (h, k, g) = [q] → (∀ p ∈ s.groupData (h, k, g), (s.heldSymbols p).isSome = true) → ∃ t m,
      exec (.parityRebuild n h k g) s = .next t ∧ t.stale = s.stale.erase (h, k, g) ∧ t.mediaAt q = some m ∧ m.whole = true ∧
      m.data ++ m.tag = symbolBytes (parityQ0 ((s.groupData (h, k, g)).map fun p => (s.heldSymbols p).getD [])) ∧
      t.rebuilds = s.rebuilds ∧ t.lanes = s.lanes ∧ t.cache = s.cache) ∧
    ((∃ p ∈ s.groupData (h, k, g), s.heldSymbols p = none) → ∃ t, exec (.parityRebuild n h k g) s = .next t ∧ t.stale = s.stale ∧
      t.media = s.media ∧ t.rebuilds = s.rebuilds ++ [((h, k, g), false)])) ∧
  (∀ (s : State) (n : Lane) (gaveUp : Bool) (o : MediaOp) (rest : List MediaOp) (g : GroupId) (q : Nat), s.sched n = o :: rest →
    o.write = false → o.host = false → o.rebuild = some g → s.mediaStatus n.val = 0 → (s.lane n).rcv.ladder = none →
    (s.lane n).chan.mended = [] → s.hif.cmds = [] →
    ((∀ b ∈ o.blocks, (s.lane n).chan.delivered.contains b.pba = true) → s.groupParity g = [q] →
      (∀ p ∈ s.groupData g, (s.heldSymbols p).isSome = true ∨ (s.mediaAt p).isSome = true) →
      (∀ r ∈ s.rebuilds, r.1 = g → r.2 = false) → ∃ t m, exec (.mediaOperationEnd n gaveUp) s = .next t ∧
        t.stale = s.stale.erase g ∧ t.mediaAt q = some m ∧ m.whole = true ∧
        m.data ++ m.tag = symbolBytes (parityQ0 ((s.groupData g).map fun p => (s.heldSymbols p).getD (s.mediaSymbols p)))) ∧
    ((∃ b ∈ o.blocks, (s.lane n).chan.delivered.contains b.pba = false) →
      (∀ b ∈ o.blocks, (s.lane n).chan.delivered.contains b.pba = true ∨ (b.pba, causeReported) ∈ (s.lane n).chan.failed) →
      ∃ t, exec (.mediaOperationEnd n gaveUp) s = .next t ∧ t.stale = s.stale ∧ t.media = s.media)) ∧
  (∀ s : State, ∃ t, exec .staleBitmapSave s = .next t ∧ t.stale = s.stale ∧ t.regs = s.regs ∧ t.media = s.media ∧
    (∀ n : Lane, s.used n.val = true → (t.lane n).sys.pending = (s.lane n).rcv.pending ∧
      (t.lane n).sys.stale = s.stale.filter (fun g => headLane (s.section secGeometry) g.1 == n.val)))

/-! ## Read recovery (chapter 9) -/

/-- With no ladder running, LADDER_START of a lane whose operation in work, if any, is a read, whose first applying attempt is (i, k) and
fits a limit that waits on it (MAX_TIME_MS where no command waits), answers a state in which the ladder runs that attempt on the failed
sectors of the first one's track, which are no longer listed as failed, with RECOVERY 1 and ACTIVE 1. LADDER_ATTEMPT whose targets are
all delivered ends the ladder with none left, counts each at its step and adds its time to the budgets of the parts it serves.
LADDER_TIME_LIMIT with no target delivered ends it, and each target is in the pending list if that has room. IN_PLACE_VERIFY: a good read
that is not the last leaves one less, the last takes the sector from the pending list; one that fails with no spare left keeps the sector
pending, and moves it where there is one. -/
def Obligations.LaddersRecoverOrReport : Prop :=
  (∀ (s : State) (n : Lane) (p cause i k lev limit : Nat) (rest : List (Nat × Nat)) (wait : List (Nat × Nat)),
    (s.lane n).rcv.ladder = none →
    (s.sched n = [] ∧ lev = 0 ∧ wait = [] ∨ ∃ o l, s.sched n = o :: l ∧ o.write = false ∧
      lev = (if o.host && !s.boot.compat then s.cache.rrl else 0) ∧ wait = s.opWaiting o) →
    limit = (if wait.isEmpty then s.sec16 secLadder 2 else wait.foldl (fun m x => max m x.2) 0) →
    (s.lane n).chan.failed = (p, cause) :: rest → cause < causeUntried →
    (∀ l : Ladder, l.level = lev → (∀ x ∈ l.targets, pbaHead x = pbaHead p ∧ pbaTrack x = pbaTrack p) → l.targets ≠ [] →
      (s.nextAttempt n l 160 0 0).1 = some (i, k)) →
    (∀ l : Ladder, l.waiting = wait → l.limitMs = limit → s.withinLimit n l (s.predictUs n i) = true) →
    ∃ t l, exec (.ladderStart n) s = .next t ∧
      (t.lane n).rcv.ladder = some l ∧ l.step = i ∧ l.attempt = k ∧ p ∈ l.targets ∧ l.limitMs = limit ∧ l.waiting = wait ∧
      (∀ x ∈ l.targets, pbaHead x = pbaHead p ∧ pbaTrack x = pbaTrack p) ∧ (∀ x ∈ (t.lane n).chan.failed, x.1 ∉ l.targets) ∧
      t.get (Reg.CHN_CTRL_RECOVERY n.val) = 1 ∧ t.get (Reg.CHN_RCV_STATUS_ACTIVE n.val) = 1 ∧ t.media = s.media) ∧
  (∀ (s : State) (n : Lane) (us : Nat) (unread : List Nat) (l : Ladder) (p : Nat), (s.lane n).rcv.ladder = some l → l.targets = [p] →
    p ∈ (s.lane n).chan.delivered → l.step < 16 → ∃ t, exec (.ladderAttempt n us unread) s = .next t ∧
      (t.lane n).rcv.ladder = none ∧ t.get (Reg.CHN_RCV_STATUS_ACTIVE n.val) = 0 ∧ t.get (Reg.CHN_CTRL_RECOVERY n.val) = 0 ∧
      t.get (Reg.CHN_RCV_OK_COUNT n.val l.step) = satAdd (2 ^ 32 - 1) (s.get (Reg.CHN_RCV_OK_COUNT n.val l.step)) 1 ∧
      (∀ q ∈ (if l.waiting.isEmpty then (s.partsOn n).take 1 else l.waiting.map (·.1)), us ≤ t.partUsed n q ∧
        s.partUsed n q ≤ t.partUsed n q) ∧ t.media = s.media) ∧
  (∀ (s : State) (n : Lane) (us : Nat) (l : Ladder) (p : Nat), (s.lane n).rcv.ladder = some l → l.targets = [p] →
    p ∉ (s.lane n).chan.delivered → (s.lane n).rcv.pending.length < 16384 → ∃ t, exec (.ladderTimeLimit n us) s = .next t ∧
      (t.lane n).rcv.ladder = none ∧ p ∈ (t.lane n).rcv.pending ∧
      t.get (Reg.CHN_RCV_TIMEOUT_COUNT n.val) = satAdd (2 ^ 32 - 1) (s.get (Reg.CHN_RCV_TIMEOUT_COUNT n.val)) 1 ∧
      t.get (Reg.CHN_RCV_UNREC_COUNT n.val) = satAdd (2 ^ 32 - 1) (s.get (Reg.CHN_RCV_UNREC_COUNT n.val)) 1 ∧ t.media = s.media) ∧
  (∀ (s : State) (n : Lane) (pba k : Nat), (s.lane n).rcv.marked = [(pba, k + 2)] → s.mediaPasses pba = true → ∃ t,
    exec (.inPlaceVerify n pba true) s = .next t ∧ (t.lane n).rcv.marked = [(pba, k + 1)] ∧
      (t.lane n).rcv.pending = (s.lane n).rcv.pending ∧ t.media = s.media) ∧
  (∀ (s : State) (n : Lane) (pba : Nat), (s.lane n).rcv.marked = [(pba, 1)] →
    (s.mediaPasses pba = true → ∃ t, exec (.inPlaceVerify n pba true) s = .next t ∧ (t.lane n).rcv.marked = [] ∧
      (t.lane n).rcv.pending = (s.lane n).rcv.pending.erase pba ∧ (t.lane n).rcv.remap = (s.lane n).rcv.remap ∧ t.media = s.media) ∧
    (s.freeSpare n.val pba = none → ∃ t, exec (.inPlaceVerify n pba false) s = .next t ∧ (t.lane n).rcv.marked = [] ∧
      (t.lane n).rcv.pending = (s.lane n).rcv.pending ∧ (t.lane n).rcv.grown = (s.lane n).rcv.grown ∧ t.media = s.media) ∧
    (∀ sp, s.freeSpare n.val pba = some sp → (s.lane n).rcv.grown.length < 1048576 → ∃ t, exec (.inPlaceVerify n pba false) s = .next t ∧
      (t.lane n).rcv.marked = [] ∧ (t.lane n).rcv.grown = (s.lane n).rcv.grown ++ [pba] ∧
      (t.lane n).rcv.pending = (s.lane n).rcv.pending.erase pba ∧ (t.lane n).sys.grown = (t.lane n).rcv.grown ∧
      (t.lane n).rcv.remap.any (fun e => e.2 == sp) = true))

/-! ## Servo control engine (chapter 10) -/

/-- SERVO_SAMPLE of a used lane that is not parked. Invalid (SAM missed, parity bad or late), with ARM 0 in SEEK, SETTLE or FOLLOW: the
commands sent are the previous ones, no history, integrator or SAT changes, DWELL_CNT is 0, VALID is 0, and the run of invalid samples
and its counter grow; the third enters HOLD with u_ma at 0. With ARM 1 the shadow bank becomes active, ARM is 0, CNT_SWAP counts and
integrators, ev_f and SAT stay. A valid sample on track in FOLLOW without swap, injection or held offset, with |e_tf| not above OUTER:
u_vcm is q of the law's sum over the state before, a saturated output before freezes the integrator, and FOLLOW stays; above OUTER the
engine enters SETTLE. An entered law with INTEG and BUMPLESS whose integrator does not saturate sums to the last u_vcm. -/
def Obligations.ServoSamples : Prop :=
  (∀ (s : State) (n : Lane) (d : Demod) (e : SampleEnv), s.used n.val = true → (s.lane n).sek.phase ≠ .parked →
    (samFound d = false ∨ fieldsHold d = false ∨ e.late = true) →
    (s.get (Reg.SVE_CTRL_ARM n.val) = 0 → (s.lane n).sve.mode ∈ [1, 2, 3] →
      (s.get (Reg.SVE_STATUS_INVALID_RUN n.val) < 2 → ∃ t, exec (.servoSample n d e) s = .next t ∧
        t.whl.acts[n] = some ((s.lane n).sve.u1, (s.lane n).sve.uma) ∧ (t.lane n).sve.mode = (s.lane n).sve.mode ∧
        (t.lane n).sve.follow = (s.lane n).sve.follow ∧ (t.lane n).sve.settle = (s.lane n).sve.settle ∧ (t.lane n).sve.ma = (s.lane n).sve.ma ∧
        (t.lane n).sve.followI = (s.lane n).sve.followI ∧ (t.lane n).sve.settleI = (s.lane n).sve.settleI ∧
        (t.lane n).sve.sat = (s.lane n).sve.sat ∧ (t.lane n).sve.u1 = (s.lane n).sve.u1 ∧ (t.lane n).sve.u2 = (s.lane n).sve.u2 ∧
        t.get (Reg.SVE_STATUS_DWELL_CNT n.val) = 0 ∧ t.get (Reg.SVE_STATUS_VALID n.val) = 0 ∧
        t.get (Reg.SVE_STATUS_INVALID_RUN n.val) = s.get (Reg.SVE_STATUS_INVALID_RUN n.val) + 1 ∧
        t.get (Reg.SVE_CNT_INVALID_COUNT n.val) = satAdd (2 ^ 32 - 1) (s.get (Reg.SVE_CNT_INVALID_COUNT n.val)) 1 ∧
        (∀ m, m ≠ n → (t.lane m).sve = (s.lane m).sve)) ∧
      (s.get (Reg.SVE_STATUS_INVALID_RUN n.val) = 2 → ∃ t, exec (.servoSample n d e) s = .next t ∧ (t.lane n).sve.mode = 4 ∧
        (t.lane n).sve.uma = 0 ∧ (t.lane n).sve.followI = (s.lane n).sve.followI ∧ (t.lane n).sve.settleI = (s.lane n).sve.settleI ∧
        (t.lane n).sve.sat = (s.lane n).sve.sat ∧ t.get (Reg.SVE_STATUS_MODE n.val) = 4)) ∧
    (s.get (Reg.SVE_CTRL_ARM n.val) = 1 → (s.lane n).sve.nextBand = none → ∃ t, exec (.servoSample n d e) s = .next t ∧
      (t.lane n).sve.active = (s.lane n).sve.shadow ∧ t.get (Reg.SVE_CTRL_ARM n.val) = 0 ∧
      t.get (Reg.SVE_CNT_SWAP_COUNT n.val) = satAdd (2 ^ 32 - 1) (s.get (Reg.SVE_CNT_SWAP_COUNT n.val)) 1 ∧
      (t.lane n).sve.followI = (s.lane n).sve.followI ∧ (t.lane n).sve.settleI = (s.lane n).sve.settleI ∧
      (t.lane n).sve.evf = (s.lane n).sve.evf ∧ (t.lane n).sve.sat = (s.lane n).sve.sat)) ∧
  (∀ (s : State) (n : Lane) (d : Demod) (e : SampleEnv) (etf : Int), s.used n.val = true → (s.lane n).sek.phase = .onTrack →
    (s.lane n).sek.queued = none → (s.lane n).sve.mode = 3 → (s.checkSample n d).ok = true → e.late = false → e.acc = [] →
    s.get (Reg.SVE_CTRL_ARM n.val) = 0 → (s.lane n).sve.nextBand = none → (s.lane n).sve.inj = none → (s.lane n).sve.injStart = false →
    (s.lane n).sve.injStop = false → (s.lane n).sve.offsetHeld = none →
    etf = sat15 (sat15 (s.position n d - 4096 * ((s.lane n).sek.target : Int)) - (s.lane n).sve.offset) →
    (etf.natAbs ≤ u16 (s.lane n).sve.active 0x170 → ∃ t c i acc ff sat v, exec (.servoSample n d e) s = .next t ∧
      s.trackLaw n (s.lane n).sve false etf 0 (sat15 (s.lane n).sek.accel) (s.supplyDev e.v12) = (v, c, i, acc, ff, sat) ∧
      (t.lane n).sve.mode = 3 ∧ (t.lane n).sve.u1 = q acc ∧ (t.lane n).sve.u2 = (s.lane n).sve.u1 ∧ (t.lane n).sve.followI = i ∧
      (t.lane n).sve.settleI = (s.lane n).sve.settleI ∧ (t.lane n).sve.follow = v.follow ∧
      (t.lane n).sve.sat = decide (q acc ≠ qRaw acc) ∧ ((s.lane n).sve.sat = true → (t.lane n).sve.followI = (s.lane n).sve.followI) ∧
      t.whl.acts[n] = some (q acc, (t.lane n).sve.uma) ∧ t.get (Reg.SVE_STATUS_VALID n.val) = 1 ∧
      t.get (Reg.SVE_STATUS_INVALID_RUN n.val) = 0 ∧ t.get (Reg.SVE_PES_E_TF n.val) = twos 16 etf) ∧
    (u16 (s.lane n).sve.active 0x170 < etf.natAbs → ∃ t, exec (.servoSample n d e) s = .next t ∧ (t.lane n).sve.mode = 2 ∧
      t.get (Reg.SVE_STATUS_MODE n.val) = 2 ∧ t.get (Reg.SVE_STATUS_DWELL_CNT n.val) = 0 ∧
      (t.lane n).sve.followI = (s.lane n).sve.followI)) ∧
  (∀ (s : State) (n : Lane) (v w : Sve) (x own delta c i acc ff : Int) (sat : Bool),
    s.trackLaw n v true x 0 own delta = (w, c, i, acc, ff, sat) →
    u8 v.active ((if v.mode = 3 then 0 else 0xA0) + 1) % 4 = 3 → -(2 ^ 31) < i → i < 2 ^ 31 - 1 → acc = wide v.u1)

/-- By a port whose BAR is open, after the lock, on a present lane: SVE_ARM sets ARM with AUTO 0 and leaves it with AUTO 1.
TF_OFFSET_WRITE of a value beyond ±1,024 changes nothing; else it is the offset at once with the write gate low, and held with it high.
INJ_RUN while RUN is 0 stores the settings and starts a sine or pseudo-random test with RUN 1, and sets ERR for a sweep with RATE 0.
INJ_STOP while RUN is 1 only asks for the stop. CAP_GO with no capture armed or running arms one with nothing written; CAP_ABORT of one
ends it, changes only that register and raises no event. -/
def Obligations.ServoRegisterCommands : Prop :=
  ∀ (s : State) (n : Lane) (p : Port), s.barOpen p = true → s.locked = true → s.present n.val = true →
    (s.get (Reg.SVE_CTRL_AUTO n.val) = 0 → ∃ t, exec (.sveArm n (.port p)) s = .next t ∧ t.get (Reg.SVE_CTRL_ARM n.val) = 1 ∧
      t.get (Reg.SVE_CTRL_AUTO n.val) = 0 ∧ t = { s.setSve n { (s.lane n).sve with loaderArm := false } with regs := t.regs }) ∧
    (s.get (Reg.SVE_CTRL_AUTO n.val) = 1 → ∃ t, exec (.sveArm n (.port p)) s = .next t ∧
      t.get (Reg.SVE_CTRL_ARM n.val) = s.get (Reg.SVE_CTRL_ARM n.val) ∧ t = { s with regs := t.regs }) ∧
    (∀ v : Word, (signed 16 v.toNat < -1024 ∨ 1024 < signed 16 v.toNat → ∃ t, exec (.tfOffsetWrite n (.port p) v) s = .next t ∧ t = s) ∧
      (-1024 ≤ signed 16 v.toNat → signed 16 v.toNat ≤ 1024 → (s.lane n).fmt.wgate = false → ∃ t,
        exec (.tfOffsetWrite n (.port p) v) s = .next t ∧ (t.lane n).sve.offset = signed 16 v.toNat ∧ (t.lane n).sve.offsetHeld = none ∧
        t.get (Reg.SVE_TF_OFFSET_HELD n.val) = 0 ∧ t = { s with regs := t.regs, lanes := t.lanes }) ∧
      (-1024 ≤ signed 16 v.toNat → signed 16 v.toNat ≤ 1024 → (s.lane n).fmt.wgate = true → ∃ t,
        exec (.tfOffsetWrite n (.port p) v) s = .next t ∧ (t.lane n).sve.offset = (s.lane n).sve.offset ∧
        (t.lane n).sve.offsetHeld = some (signed 16 v.toNat) ∧ t.get (Reg.SVE_TF_OFFSET_HELD n.val) = 1 ∧
        t = { s with regs := t.regs, lanes := t.lanes })) ∧
    (∀ v : Word, s.get (Reg.SVE_INJ_CTRL_RUN n.val) = 0 →
      (bits v.toNat 26 25 ∈ [0, 2] → ∃ t, exec (.injRun n (.port p) v) s = .next t ∧ (t.lane n).sve.injStart = true ∧
        t.get (Reg.SVE_INJ_CTRL_RUN n.val) = 1 ∧ t.get (Reg.SVE_INJ_CTRL_ERR n.val) = 0 ∧
        t.get (Reg.SVE_INJ_CTRL_POINT n.val) = bits v.toNat 28 27 ∧ t.get (Reg.SVE_INJ_CTRL_WAVE n.val) = bits v.toNat 26 25 ∧
        t = { s with regs := t.regs, lanes := t.lanes }) ∧
      (bits v.toNat 26 25 = 1 → s.get (Reg.SVE_INJ_SWEEP_RATE n.val) = 0 → ∃ t, exec (.injRun n (.port p) v) s = .next t ∧
        t.get (Reg.SVE_INJ_CTRL_RUN n.val) = 0 ∧ t.get (Reg.SVE_INJ_CTRL_ERR n.val) = 1 ∧ t = { s with regs := t.regs })) ∧
    (s.get (Reg.SVE_INJ_CTRL_RUN n.val) = 1 → ∃ t,
      exec (.injStop n (.port p)) s = .next t ∧ t = s.setSve n { (s.lane n).sve with injStop := true }) ∧
    (s.get (Reg.SVE_CAP_STATUS_ARMED n.val) = 0 → s.get (Reg.SVE_CAP_STATUS_RUN n.val) = 0 → ∀ v : Word, ∃ t,
      exec (.capGo n (.port p) v) s = .next t ∧ t.get (Reg.SVE_CAP_STATUS_ARMED n.val) = 1 ∧ t.get (Reg.SVE_CAP_STATUS_WRITTEN n.val) = 0 ∧
      t.get (Reg.SVE_CAP_STATUS_INVALID n.val) = 0 ∧ t.get (Reg.SVE_CAP_CTRL_TRIG n.val) = bits v.toNat 29 28 ∧
      t = { s with regs := t.regs }) ∧
    (s.get (Reg.SVE_CAP_STATUS_ARMED n.val) = 1 ∨ s.get (Reg.SVE_CAP_STATUS_RUN n.val) = 1 → ∃ t,
      exec (.capAbort n (.port p)) s = .next t ∧ t.get (Reg.SVE_CAP_STATUS_ARMED n.val) = 0 ∧ t.get (Reg.SVE_CAP_STATUS_RUN n.val) = 0 ∧
      t = { s with regs := t.regs } ∧ (∀ off, off ≠ (Reg.SVE_CAP_STATUS_RUN n.val).off → t.reg off = s.reg off))

/-! ## Actuators and seeks (chapter 11) -/

/-- On a used lane. SEEK on track: to the targeted head and track it ends with GO 0 and neither mode nor phase changes; to another it waits
for its start, and with a new head the engine is in HOLD. While a command runs SEEK waits with GO 1. A parked lane takes LOAD with the
spindle at speed and refuses it with ERR else; it ends PARK without effect beside SEK.CMD. PARK on track starts the seek to the ramp's
track. LOAD_TIMEOUT ends a load in the drive toward the ramp with the engine in IDLE; PARK_LOW_VELOCITY and RETRACT_DRIVE_END go on to
the latch hold, and LATCH_END parks the lane with no current, no head and its synthesizer unlocked. A seek of a parked lane sets ERR: the
model's choice (log entry 148). -/
def Obligations.SekTakesCommands : Prop :=
  (∀ (s : State) (n : Lane) (head target : Nat), s.used n.val = true →
    ((s.lane n).sek.phase = .onTrack → (s.lane n).sek.head = some head → (s.lane n).sek.target = target → ∃ t,
      exec (.seek n head target) s = .next t ∧ t.get (Reg.SEK_CMD_GO n.val) = 0 ∧ t = { s with regs := t.regs } ∧
      t.get (Reg.SVE_STATUS_MODE n.val) = s.get (Reg.SVE_STATUS_MODE n.val)) ∧
    ((s.lane n).sek.phase = .onTrack → (s.lane n).sek.head = some head → (s.lane n).sek.target ≠ target → ∃ t,
      exec (.seek n head target) s = .next t ∧ (t.lane n).sek = { (s.lane n).sek with phase := .starting ⟨1, head, target⟩ false } ∧
      (t.lane n).sve = (s.lane n).sve ∧ t.get (Reg.SEK_CMD_GO n.val) = 0 ∧ t.get (Reg.SEK_STATUS_STATE n.val) = 2) ∧
    ((s.lane n).sek.phase = .onTrack → (s.lane n).sek.head ≠ some head → ∃ t, exec (.seek n head target) s = .next t ∧
      (t.lane n).sek.phase = .starting ⟨1, head, target⟩ false ∧ (t.lane n).sek.head = some head ∧ (t.lane n).sek.fresh = true ∧
      (t.lane n).sve.mode = 4 ∧ (t.lane n).sve.followI = (s.lane n).sve.followI ∧ (∀ m, m ≠ n → t.lane m = s.lane m)) ∧
    (sekBusy (s.lane n).sek.phase = true → ∃ t, exec (.seek n head target) s = .next t ∧
      (t.lane n).sek = { (s.lane n).sek with queued := some ⟨1, head, target⟩ } ∧ t.get (Reg.SEK_CMD_GO n.val) = 1 ∧
      t = { s with regs := t.regs, lanes := t.lanes }) ∧
    ((s.lane n).sek.phase = .parked →
      (∃ t, exec (.seek n head target) s = .next t ∧ t.get (Reg.SEK_STATUS_ERR n.val) = 1 ∧ t = { s with regs := t.regs }) ∧
      (s.get Reg.WHL_STATUS_AT_SPEED = 0 → ∃ t, exec (.load n head target) s = .next t ∧ t.get (Reg.SEK_STATUS_ERR n.val) = 1 ∧
        t = { s with regs := t.regs }) ∧
      (s.get Reg.WHL_STATUS_AT_SPEED = 1 → ∃ t, exec (.load n head target) s = .next t ∧
        (t.lane n).sek.phase = .loading ⟨2, head, target⟩ 0 0 ∧ (t.lane n).sve = (s.lane n).sve ∧ t.get (Reg.SEK_CMD_GO n.val) = 0 ∧
        t.get (Reg.SEK_STATUS_STATE n.val) = 1 ∧ t = { s with regs := t.regs, lanes := t.lanes }) ∧
      (∃ t, exec (.park n) s = .next t ∧ t.get (Reg.SEK_STATUS_ERR n.val) = s.get (Reg.SEK_STATUS_ERR n.val) ∧
        t.get (Reg.SEK_CMD_GO n.val) = 0 ∧ t = { s with regs := t.regs })) ∧
    ((s.lane n).sek.phase = .onTrack → ∃ t c, exec (.park n) s = .next t ∧ (t.lane n).sek.phase = .starting c true ∧
      c.target = s.rampTrack n ((s.lane n).sek.head.getD 0) ∧ t.get (Reg.SEK_STATUS_STATE n.val) = 4 ∧
      t = { s with regs := t.regs, lanes := t.lanes })) ∧
  (∀ (s : State) (n : Lane) (c : SekCmd) (k seen : Nat), (s.lane n).sek.phase = .loading c k seen → ∃ t, exec (.loadTimeout n) s = .next t ∧
    (t.lane n).sek.phase = .parkDrive ∧ (t.lane n).sve.mode = 0 ∧ t.get (Reg.SEK_STATUS_STATE n.val) = 4 ∧ t.media = s.media) ∧
  (∀ (s : State) (n : Lane), (s.lane n).sek.phase = .parkDrive → ∃ t, exec (.parkLowVelocity n) s = .next t ∧
    (t.lane n).sek = { (s.lane n).sek with phase := .latching false } ∧ t = { s with regs := t.regs, lanes := t.lanes }) ∧
  (∀ (s : State) (n : Lane), (s.lane n).sek.phase = .retracting → ∃ t, exec (.retractDriveEnd n) s = .next t ∧
    (t.lane n).sek = { (s.lane n).sek with phase := .latching true } ∧ t = { s with regs := t.regs, lanes := t.lanes }) ∧
  (∀ (s : State) (n : Lane) (after : Bool), (s.lane n).sek.phase = .latching after → (s.lane n).sek.queued = none → ∃ t,
    exec (.latchEnd n) s = .next t ∧ (t.lane n).sek.phase = .parked ∧ (t.lane n).sek.head = none ∧ (t.lane n).sek.fresh = true ∧
    t.whl.acts[n] = some (0, 0) ∧ t.get (Reg.FMT_MTS_STATUS_LOCKED n.val) = 0 ∧ t.get (Reg.SEK_STATUS_STATE n.val) = 0 ∧ t.media = s.media)

/-- If some counts meet the limits in less than 4 + fuel samples, the plan found has Nj of at least 1 and meets the limits; no counts of a
shorter duration meet them, and among counts of the same duration that do, none has a larger Nj, nor the same Nj and a larger Na. The
reference of a plan with Nj of at least 1 is its start at sample 0, and lies its whole distance away at and after its last sample, where
its acceleration is 0. -/
def Obligations.SwitchbackPlans : Prop :=
  (∀ (d v a j : Rat) (fuel nj na nv : Nat), planSearch d v a j fuel 4 = (nj, na, nv) →
    (∃ x y z, 1 ≤ x ∧ planOk d v a j x y z = true ∧ 4 * x + 2 * y + z < 4 + fuel) →
    1 ≤ nj ∧ planOk d v a j nj na nv = true ∧ ∀ x y z, 1 ≤ x → planOk d v a j x y z = true →
      4 * nj + 2 * na + nv ≤ 4 * x + 2 * y + z ∧
      (4 * nj + 2 * na + nv = 4 * x + 2 * y + z → x < nj ∨ (x = nj ∧ y ≤ na))) ∧
  (∀ (p : Plan), 1 ≤ p.nj → p.ref 0 = p.start ∧ p.vref 0 = 0 ∧
    ∀ i, p.length ≤ i → p.ref i = (if p.up then p.start + p.dist else p.start - p.dist) ∧ (p.at i).2.2 = 0)

/-! ## Spindle control (chapter 12) -/

/-- With the link taken over and down SYNC_FRAME counts, and the eighth brings the link up; a downlink slot then sends SYNC. With the link
up: SPIN_SAMPLE shows I_PH, and a crossing in closed loop ends a run of missing ones; ACT_SAMPLE of a slow used lane keeps its current;
STATUS_FRAME shows FAULT and ends a read with its data. One or two discarded frames only count, each in the counter of its kind; the third in a row, and 1 µs without
clock, bring the link of a running spindle down: SAFE_STOP_N low, hard stop, AT_SPEED 0. MOTOR_LINK_RECOVERED with every lane parked
releases SAFE_STOP_N and starts the sense step. A slot sends a change of the bridge mode, else the ACT frame of the lowest lane that has
one. REG_ACCESS_GO while GO is 1 changes nothing, with the link down it ends with ERR, else GO is 1. -/
def Obligations.MotorLinkFrames : Prop :=
  (∀ s : State, s.motorTaken = true → s.get Reg.WHL_STATUS_LINK_UP = 0 →
    (s.whl.syncs < 7 → exec .syncFrame s = .next { s with whl := { s.whl with syncs := s.whl.syncs + 1, badRun := 0 } }) ∧
    (s.whl.syncs = 7 → ∃ t, exec .syncFrame s = .next t ∧ t.get Reg.WHL_STATUS_LINK_UP = 1 ∧ t = { s with regs := t.regs, whl := t.whl }) ∧
    (∀ v12, ∃ t, exec (.downlinkFrameSlot v12) s = .next t ∧ t.out = .mlFrame (mlFrame 0xF 0 0x5A5AA5A5C33C) :: s.out ∧ t.regs = s.regs)) ∧
  (∀ s : State, s.get Reg.WHL_STATUS_LINK_UP = 1 →
    (∀ f : SpinFrame, f.zc = false → ∃ t, exec (.spinSample f) s = .next t ∧ t.get Reg.WHL_DRIVE_IPH = twos 16 f.iPh ∧ t.whl.badRun = 0 ∧
      t = { s with regs := t.regs, whl := t.whl }) ∧
    (∀ f : SpinFrame, f.zc = true → s.whlState = 4 → s.get Reg.LKO_LIMITS_OVERSPEED_RPM = 0 → ∃ t, exec (.spinSample f) s = .next t ∧
      t.whl.missing = 0 ∧ t.whl.lastZc = some (f.time - f.zcAge) ∧ t.whlState = 4) ∧
    (∀ (n : Lane) (i v : Int), s.used n.val = true → (s.lane n).sek.phase = .onTrack → v.natAbs ≤ u16 s.safety (8 + 2 * n.val) → ∃ t,
      exec (.actSample n i v) s = .next t ∧ (t.lane n).sve = { (s.lane n).sve with iCoil := sat15 i } ∧ (t.lane n).sek = (s.lane n).sek ∧
      t = { s with whl := t.whl, lanes := t.lanes, lko := t.lko }) ∧
    (∀ m : MotorStatus, ∃ t, exec (.statusFrame m) s = .next t ∧ t.get Reg.WHL_STATUS_FAULT = m.fault % 256 ∧ t.whl.vm = m.vm ∧
      (s.whl.regSent = true → t.get Reg.WHL_REG_ACCESS_DATA = m.data % 65536 ∧ t.get Reg.WHL_REG_ACCESS_GO = 0 ∧
        t.get Reg.WHL_REG_ACCESS_ERR = 0) ∧ t = { s with regs := t.regs, whl := t.whl }) ∧
    (∀ (crc : Bool) (slot : Nat), s.motorTaken = true → slot ∈ [0, 2, 4] →
      (s.whl.badRun < 2 → ∃ t, exec (.uplinkFrameDiscard crc slot) s = .next t ∧ t.get Reg.WHL_STATUS_LINK_UP = 1 ∧
        (let f := if crc then Reg.WHL_CNT_ML_CRC_COUNT else Reg.WHL_CNT_ML_SEQ_COUNT; t.get f = satAdd (2 ^ 32 - 1) (s.get f) 1) ∧
        t.whl = { s.whl with badRun := s.whl.badRun + 1 } ∧ t = { s with regs := t.regs, whl := t.whl }) ∧
      (s.whl.badRun = 2 → s.whl.starting = false → s.whlState = 4 → ∃ t, exec (.uplinkFrameDiscard crc slot) s = .next t ∧
        t.get Reg.WHL_STATUS_LINK_UP = 0 ∧ t.pins.safeStopN = false ∧ t.whlState = 7 ∧ t.get Reg.WHL_STATUS_AT_SPEED = 0 ∧
        t.get Reg.WHL_CNT_LINK_DOWN_COUNT = satAdd (2 ^ 32 - 1) (s.get Reg.WHL_CNT_LINK_DOWN_COUNT) 1)) ∧
    (s.motorTaken = true → s.whl.starting = false → s.whlState = 4 → ∃ t, exec .uplinkNoClock s = .next t ∧
      t.get Reg.WHL_STATUS_LINK_UP = 0 ∧ t.pins.safeStopN = false ∧ t.whlState = 7 ∧ t.whl.mode = .off) ∧
    (s.motorTaken = true → s.whl.holders = [.link] → s.allParked = true → s.whlState = 7 → s.devState = 0 → s.shutState = 0 →
      s.whl.stopWanted = false → s.held = false → ∃ t, exec .motorLinkRecovered s = .next t ∧ t.whl.holders = [] ∧ t.pins.safeStopN = true ∧
      t.whlState = 1 ∧ t.lanes = s.lanes) ∧
    (∀ v12, s.motorTaken = true →
      (s.whl.modePending = true → ∃ t, exec (.downlinkFrameSlot v12) s = .next t ∧ t.whl.modePending = false ∧
        t.out = .mlFrame (mlFrame 1 ((s.whl.txSeq + 1) % 16) s.spinPayload) :: s.out ∧ t.whl.acts = s.whl.acts ∧ t.regs = s.regs) ∧
      (∀ (n : Lane) (u m : Int), s.whl.modePending = false → s.whl.acts[n] = some (u, m) → (∀ k : Lane, k < n → s.whl.acts[k] = none) →
        ∃ t, exec (.downlinkFrameSlot v12) s = .next t ∧ t.whl.acts[n] = none ∧ t.regs = s.regs ∧ t.out = .mlFrame (mlFrame 2 ((s.whl.txSeq + 1) % 16)
          (n.val * 2 ^ 46 + 2 ^ 44 + twos 16 u * 2 ^ 24 + twos 16 m * 2 ^ 8)) :: s.out))) ∧
  (∀ (s : State) (p : Port) (v : Word), s.barOpen p = true → s.locked = true →
    (s.get Reg.WHL_REG_ACCESS_GO = 1 → exec (.regAccessGo (.port p) v) s = .next s) ∧
    (s.get Reg.WHL_REG_ACCESS_GO = 0 → s.get Reg.WHL_STATUS_LINK_UP = 0 → ∃ t, exec (.regAccessGo (.port p) v) s = .next t ∧
      t.get Reg.WHL_REG_ACCESS_GO = 0 ∧ t.get Reg.WHL_REG_ACCESS_ERR = 1 ∧ t = { s with regs := t.regs }) ∧
    (s.get Reg.WHL_REG_ACCESS_GO = 0 → s.get Reg.WHL_STATUS_LINK_UP = 1 → ∃ t, exec (.regAccessGo (.port p) v) s = .next t ∧
      t.get Reg.WHL_REG_ACCESS_GO = 1 ∧ t.get Reg.WHL_REG_ACCESS_ADDR = bits v.toNat 23 16 ∧ t = { s with regs := t.regs, whl := t.whl }))

/-- In sensing without SAFE_STOP_N held, SENSE_END without a crossing seen and CROSSING_QUIET_TIMEOUT after one begin alignment at
ALIGN_CURRENT; ALIGN_END begins the ramp at RAMP_CURRENT. RAMP_END fails the attempt: the next senses, and after START_ATTEMPTS the state
is START_FAILED, as it is at SPINUP_TIMEOUT. COMMUTATION_STEP advances the step, in the ramp at the end of the interval, in closed loop at
the time due, where it shows the estimate s of one revolution and a current reference within I_MAX. A missing crossing steps at the predicted time; the third in a row turns the bridge off and starts
the spindle again. MOTOR_FAULT_N_FALL is ignored before the link is taken over; after it, over-current in closed loop turns the bridge
off, and MOTOR_FAULT_CLEAR starts the spindle again. -/
def Obligations.SpindleStartsAndCommutes : Prop :=
  (∀ s : State, s.whlState = 1 → s.whl.holders = [] →
    (s.whl.seen = false → ∃ t, exec .senseEnd s = .next t ∧ t.whlState = 2 ∧ t.whl.mode = .run ∧
      t.get Reg.WHL_DRIVE_IREF = s.spin16 0x0C % 65536 ∧ t = { s with regs := t.regs, whl := t.whl }) ∧
    (s.whl.seen = true → ∃ t, exec .crossingQuietTimeout s = .next t ∧ t.whlState = 2 ∧ t.whl.mode = .run ∧ t.whl.seen = false ∧
      t = { s with regs := t.regs, whl := t.whl })) ∧
  (∀ (s : State) (time : Nat), s.whlState = 2 → ∃ t, exec (.alignEnd time) s = .next t ∧ t.whlState = 3 ∧ t.whl.rampStart = some time ∧
    t.get Reg.WHL_DRIVE_IREF = s.spin16 0x14 % 65536 ∧ t = { s with regs := t.regs, whl := t.whl }) ∧
  (∀ s : State, s.whlState = 3 →
    (s.whl.attempt < s.sec8 secSpindle 1 → ∃ t, exec .rampEnd s = .next t ∧ t.whlState = 1 ∧ t.whl.attempt = s.whl.attempt + 1 ∧
      t.whl.mode = .off ∧ t.get Reg.WHL_CNT_START_FAIL_COUNT = satAdd (2 ^ 32 - 1) (s.get Reg.WHL_CNT_START_FAIL_COUNT) 1 ∧ t.lanes = s.lanes) ∧
    (s.sec8 secSpindle 1 ≤ s.whl.attempt → ∃ t, exec .rampEnd s = .next t ∧ t.whlState = 8 ∧ t.whl.starting = false ∧ t.whl.mode = .off) ∧
    (∀ now, s.whl.lastStep + (s.rampInterval s.whl.lastStep).floor.toNat ≤ now → ∃ t, exec (.commutationStep now) s = .next t ∧
      t.whl.step = (s.whl.step + 1) % 6 ∧ t.whl.lastStep = s.whl.lastStep + (s.rampInterval s.whl.lastStep).floor.toNat ∧ t = { s with whl := t.whl })) ∧
  (∀ (s : State) (time now : Nat), s.whlState = 4 → s.whl.due = some time → time ≤ now → s.spin16 0x1A ≤ 32767 → ∃ t, exec (.commutationStep now) s = .next t ∧ t.whlState = 4 ∧
    t.whl.step = (s.whl.step + 1) % 6 ∧ t.whl.intervals = ((time - s.whl.lastStep) :: s.whl.intervals).take (6 * s.polePairs) ∧
    t.get Reg.WHL_SPEED_S = s.speedEstimate t.whl.intervals % 65536 ∧ (signed 16 (t.get Reg.WHL_DRIVE_IREF)).natAbs ≤ s.spin16 0x1A) ∧
  (∀ (s : State) (now : Nat), s.whlState = 4 → s.whl.due = none → s.whl.lastStep + s.whl.lastInterval ≤ now →
    (s.whl.missing < 2 → ∃ t, exec (.zeroCrossingMissing now) s = .next t ∧ t.whlState = 4 ∧ t.whl.missing = s.whl.missing + 1 ∧
      t.whl.lastStep = s.whl.lastStep + s.whl.lastInterval ∧ t.whl.step = (s.whl.step + 1) % 6) ∧
    (2 ≤ s.whl.missing → ∃ t, exec (.zeroCrossingMissing now) s = .next t ∧ t.whlState = 1 ∧ t.whl.mode = .off ∧ t.whl.attempt = 1 ∧
      t.get Reg.WHL_STATUS_AT_SPEED = 0 ∧ t.get Reg.WHL_SPEED_S = 0 ∧ t.lanes = s.lanes)) ∧
  (∀ s : State, s.whl.starting = true → s.shutState = 0 → ∃ t, exec .spinupTimeout s = .next t ∧ t.whlState = 8 ∧ t.whl.starting = false ∧
    t.whl.mode = .off) ∧
  (∀ (s : State) (fault vm : Nat),
    (s.motorTaken = false → exec (.motorFaultNFall fault vm) s = .next { s with pins := { s.pins with motorFaultN := false } }) ∧
    (s.motorTaken = true → s.whl.starting = false → s.whlState = 4 → bit fault 0 = true → ∃ t, exec (.motorFaultNFall fault vm) s = .next t ∧
      t.whlState = 0 ∧ t.whl.mode = .off ∧ t.whl.faultOff = true ∧ t.get Reg.WHL_STATUS_MOTOR_FAULT = 1 ∧
      t.get Reg.WHL_STATUS_FAULT = fault % 256 ∧ t.lanes = s.lanes)) ∧
  (∀ s : State, s.whl.faultOff = true → s.devState = 0 → s.shutState = 0 → s.whl.stopWanted = false → s.whl.starting = false → ∃ t,
    exec .motorFaultClear s = .next t ∧ t.pins.motorFaultN = true ∧ t.get Reg.WHL_STATUS_MOTOR_FAULT = 0 ∧ t.whlState = 1 ∧
    t.whl.faultOff = false ∧ t.whl.attempt = 1)

/-- A decision in native mode with ready namespaces in closed loop: a used lane busy at U_HIGH or above in the short window makes P
BAND_MAX_RPM; with the busiest above U_TARGET and below U_HIGH P rises to the grid speed at or above s × u / U_TARGET; at or below it P
stays while a decrease is less than DOWN_DWELL_S ago, and afterwards falls to the grid speed of the long window's share where that is
lower. US and UL show the exact shares, rounded as the operands say (R439 states no rounding). Outside closed loop nothing changes. WHL_OVERRIDE_WRITE in compatibility mode or with EN and a speed off the grid changes nothing; else both fields are stored, and
with EN in an image-run device without Cone 2 T is that speed. ORDERLY_STOP with a lane not parked changes nothing; with all parked and
nothing to flush it turns the bridge off and the spindle stops. SPINDLE_REST ends the stop. RECTIFY_END with all parked and no flush
running turns the bridge off. -/
def Obligations.SpinPolicyAndStops : Prop :=
  (∀ s : State, s.boot.compat = false → s.boot.nsReadyRaised = true → s.whlState = 4 → s.sec8 secSpinPolicy 6 < s.sec8 secSpinPolicy 7 →
    (∀ (n : Lane) (us ul : Rounding), s.used n.val = true → (s.sec8 secSpinPolicy 7 : Rat) ≤ s.busyShare n (s.sec16 secSpinPolicy 8) → ∃ t,
      exec (.spinPolicyDecision us ul) s = .next t ∧ t.whl.policy = s.sec16 secSpinPolicy 2 ∧ t.whl.decided = true ∧
      t.whl.lastDecrease = s.whl.lastDecrease ∧ t.lanes = s.lanes) ∧
    (∀ (us ul : Rounding) (u v : Rat), s.busyMost (s.sec16 secSpinPolicy 8) = u → s.busyMost (s.sec16 secSpinPolicy 0x0A * 1000) = v → s.whl.decided = true → ∃ t,
      exec (.spinPolicyDecision us ul) s = .next t ∧ t.get Reg.WHL_POLICY_US = wholePercent us u % 256 ∧ t.get Reg.WHL_POLICY_UL = wholePercent ul v % 256 ∧ t.lanes = s.lanes ∧
      (let grid := fun x : Rat => s.gridAbove ((s.get Reg.WHL_SPEED_S : Rat) * x / (s.sec8 secSpinPolicy 6 : Rat))
       ((s.sec8 secSpinPolicy 6 : Rat) < u → u < (s.sec8 secSpinPolicy 7 : Rat) → t.whl.policy = max s.whl.policy (grid u)) ∧
       (∀ at_, u ≤ (s.sec8 secSpinPolicy 6 : Rat) → s.whl.lastDecrease = some at_ → s.crn.elapsed - at_ < s.sec16 secSpinPolicy 0x0C * 1000 →
         t.whl.policy = s.whl.policy ∧ t.whl.lastDecrease = s.whl.lastDecrease) ∧
       (u ≤ (s.sec8 secSpinPolicy 6 : Rat) → v < (s.sec8 secSpinPolicy 6 : Rat) → s.whl.lastDecrease = none →
         t.whl.policy = min s.whl.policy (grid v))))) ∧
  (∀ (s : State) (us ul : Rounding), s.whlState ≠ 4 → ∃ t, exec (.spinPolicyDecision us ul) s = .next t ∧ t = s) ∧
  (∀ (s : State) (q : SeqIx) (v : Word), s.powered = true → (s.seq q).run ≠ .off →
    (s.boot.compat = true ∨ (bit v.toNat 31 = true ∧ s.onGrid (v.toNat % 65536) = false) → exec (.whlOverrideWrite (.seq q) v) s = .next s) ∧
    (s.boot.compat = false → (bit v.toNat 31 = false ∨ s.onGrid (v.toNat % 65536) = true) → ∃ t,
      exec (.whlOverrideWrite (.seq q) v) s = .next t ∧ t.get Reg.WHL_OVERRIDE_EN = bits v.toNat 31 31 ∧
      t.get Reg.WHL_OVERRIDE_RPM = v.toNat % 65536 ∧
      (bit v.toNat 31 = true → 7 ≤ s.stage → s.get Reg.KLN_STATUS_CONE2 = 0 → t.get Reg.WHL_TARGET_T = v.toNat % 65536) ∧
      t.lanes = s.lanes ∧ t.media = s.media)) ∧
  (∀ s : State, s.whl.stopWanted = true → s.whlState = 4 →
    (s.allParked = false → exec .orderlyStop s = .next s) ∧
    (s.allParked = true → s.crn.flushing = false → s.startFlush.crn.flushing = false → s.shutState = 0 → ∃ t,
      exec .orderlyStop s = .next t ∧ t.whlState = 5 ∧ t.whl.mode = .off ∧ t.whl.stopWanted = false ∧ t.get Reg.WHL_STATUS_AT_SPEED = 0)) ∧
  (∀ s : State, s.whlState = 5 → ∃ t, exec .spindleRest s = .next t ∧ t.whlState = 0 ∧ t.whl.mode = .off ∧ t.lanes = s.lanes) ∧
  (∀ s : State, s.whlState = 6 → s.allParked = true → s.crn.flushing = false → ∃ t, exec .rectifyEnd s = .next t ∧ t.whlState = 0 ∧
    t.whl.mode = .off ∧ t.lko.supplyDone = true ∧ t = { s with regs := t.regs, whl := t.whl, lko := t.lko })

/-! ## Buffer memory (chapter 13) -/

/-- After training. CA_PARITY_ALERT counts and raises the transient bucket by 1; at the threshold LEVEL becomes half of it and OVF grows,
saturating. The leaks lower LEVEL by 1, never below 0, and leave OVF. PAGE_CORRECTION_END of a page that is not poisoned: a correction that
names one data chip below its threshold raises that chip's bucket by 1 and counts; one that names none raises chip 4's outside shard mode;
an error that recurs is a hard fault and the page is to be retired. An uncorrectable page enters the poison table, and from then reads of
it return no data; with the table full the buffer has failed and the page is treated as poisoned. A poisoned page is not corrected. -/
def Obligations.BufferErrorsAreAccounted : Prop :=
  (∀ s : State, s.get Reg.BUF_STATE_TRAINED = 1 →
    (s.get Reg.BUF_TBUCKET_LEVEL + 1 < s.sec16 secDdr5 0x0A → ∃ t, exec .caParityAlert s = .next t ∧
      t.get Reg.BUF_TBUCKET_LEVEL = s.get Reg.BUF_TBUCKET_LEVEL + 1 ∧ t.get Reg.BUF_TBUCKET_OVF = s.get Reg.BUF_TBUCKET_OVF ∧
      t.get Reg.BUF_CNT_CA_PARITY_COUNT = satAdd (2 ^ 32 - 1) (s.get Reg.BUF_CNT_CA_PARITY_COUNT) 1 ∧ t = { s with regs := t.regs }) ∧
    (s.sec16 secDdr5 0x0A ≤ s.get Reg.BUF_TBUCKET_LEVEL + 1 → s.get Reg.BUF_TBUCKET_LEVEL < 65535 → ∃ t, exec .caParityAlert s = .next t ∧
      t.get Reg.BUF_TBUCKET_LEVEL = s.sec16 secDdr5 0x0A / 2 ∧ t.get Reg.BUF_TBUCKET_OVF = satAdd 15 (s.get Reg.BUF_TBUCKET_OVF) 1 ∧
      t.buf = s.buf ∧ t.media = s.media)) ∧
  (∀ s : State, (∃ t, exec .chipBucketLeak s = .next t ∧ t = { s with regs := t.regs } ∧ ∀ g c, g < 4 → c < 5 →
      t.get (Reg.BUF_BUCKET_LEVEL c g) = s.get (Reg.BUF_BUCKET_LEVEL c g) - 1 ∧ t.get (Reg.BUF_BUCKET_OVF c g) = s.get (Reg.BUF_BUCKET_OVF c g)) ∧
    (∃ t, exec .transientBucketLeak s = .next t ∧ t = { s with regs := t.regs } ∧
      t.get Reg.BUF_TBUCKET_LEVEL = s.get Reg.BUF_TBUCKET_LEVEL - 1 ∧ t.get Reg.BUF_TBUCKET_OVF = s.get Reg.BUF_TBUCKET_OVF)) ∧
  (∀ (s : State) (p : Nat) (w : Bool), p < s.bufPages → s.pagePoisoned p = false → s.get Reg.BUF_STATE_TRAINED = 1 →
    (∀ c, c < 4 → s.get (Reg.BUF_BUCKET_LEVEL c (s.pageGroup p)) + 1 < s.sec16 secDdr5 6 →
      (∃ t, exec (.pageCorrectionEnd p (.corrected [c] none) w) s = .next t ∧
        t.get (Reg.BUF_BUCKET_LEVEL c (s.pageGroup p)) = s.get (Reg.BUF_BUCKET_LEVEL c (s.pageGroup p)) + 1 ∧
        t.get Reg.BUF_CNT_CORRECTED_COUNT = satAdd (2 ^ 32 - 1) (s.get Reg.BUF_CNT_CORRECTED_COUNT) 1 ∧
        t.buf.mem = s.buf.mem ∧ t.buf.poisoned = s.buf.poisoned ∧ t = { s with regs := t.regs, buf := t.buf }) ∧
      (∀ line, ∃ t, exec (.pageCorrectionEnd p (.corrected [c] (some (c, line))) w) s = .next t ∧
        t.buf.toRetire = s.buf.toRetire ++ [(p, false)] ∧ t.buf.poisoned = s.buf.poisoned ∧
        t.get Reg.BUF_CNT_HARD_FAULT_COUNT = satAdd (2 ^ 32 - 1) (s.get Reg.BUF_CNT_HARD_FAULT_COUNT) 1)) ∧
    (s.sharded (s.pageGroup p) = false → s.get (Reg.BUF_BUCKET_LEVEL 4 (s.pageGroup p)) + 1 < s.sec16 secDdr5 6 → ∃ t,
      exec (.pageCorrectionEnd p (.corrected [] none) w) s = .next t ∧
      t.get (Reg.BUF_BUCKET_LEVEL 4 (s.pageGroup p)) = s.get (Reg.BUF_BUCKET_LEVEL 4 (s.pageGroup p)) + 1) ∧
    (s.buf.poisoned.length < 2048 → ∃ t, exec (.pageCorrectionEnd p .uncorrectable w) s = .next t ∧ p ∈ t.buf.poisoned ∧
      t.buf.poisoned.length = s.buf.poisoned.length + 1 ∧ t.get Reg.BUF_POISON_ENTRIES = s.buf.poisoned.length + 1 ∧
      (t.bufRead (4096 * p) 4096).1 = none ∧ t.buf.mem = s.buf.mem) ∧
    (2048 ≤ s.buf.poisoned.length → ∃ t, exec (.pageCorrectionEnd p .uncorrectable w) s = .next t ∧ p ∈ t.buf.overflow ∧
      t.buf.failed = true ∧ t.bufDown = true ∧ (t.bufRead (4096 * p) 4096).1 = none)) ∧
  (∀ (s : State) (p : Nat) (r : PageResult) (w : Bool), s.pagePoisoned p = true → exec (.pageCorrectionEnd p r w) s = .next s)

/-- By a port whose BAR is open, after the lock. DEAD_REQ: refused for a group not fitted or lost and a chip already dead, with ERR and
nothing else changed; for a working group the switch of the chip waits, GO 0 and ERR 0; for another chip of a group in shard mode the
group is lost. SHARD_MODE_SWITCH puts the oldest waiting group into shard mode. RETIRE_REQ is refused for a retired page and beyond the
store, else BS is to act with GO 1. PAGE_RETIRE of a hard fault takes the lowest free entry, where the page lies from then on, written anew; with
4,096 entries used none changes. PATROL_SCRUB_PASS counts the pages of the groups in shard mode, and changes nothing else while no
error is found. BUF_INJECT_ARM stores its fields and
arms, and changes no data. -/
def Obligations.BufferShardModeAndRetirement : Prop :=
  (∀ (s : State) (p : Port) (v : Word), s.barOpen p = true → s.locked = true → bits v.toNat 2 0 ≤ 4 →
    (s.deadRefused (2 * bits v.toNat 4 4 + bits v.toNat 5 5) (bits v.toNat 2 0) = true → ∃ t, exec (.deadReq (.port p) v) s = .next t ∧
      t.get Reg.BUF_DEAD_REQ_ERR = 1 ∧ t.get Reg.BUF_DEAD_REQ_GO = 0 ∧ t = { s with regs := t.regs } ∧ ∀ g, t.groupState g = s.groupState g) ∧
    (s.groupFitted (2 * bits v.toNat 4 4 + bits v.toNat 5 5) = true → s.groupState (2 * bits v.toNat 4 4 + bits v.toNat 5 5) = 0 →
      s.buf.switching = [] → ∃ t, exec (.deadReq (.port p) v) s = .next t ∧
      t.buf = { s.buf with switching := [(2 * bits v.toNat 4 4 + bits v.toNat 5 5, bits v.toNat 2 0)] } ∧
      t.get Reg.BUF_DEAD_REQ_ERR = 0 ∧ t.get Reg.BUF_DEAD_REQ_GO = 0 ∧ (∀ g, t.groupState g = s.groupState g)) ∧
    (s.groupFitted (2 * bits v.toNat 4 4 + bits v.toNat 5 5) = true → s.sharded (2 * bits v.toNat 4 4 + bits v.toNat 5 5) = true →
      s.groupState (2 * bits v.toNat 4 4 + bits v.toNat 5 5) ≠ 8 + bits v.toNat 2 0 → s.buf.switching = [] → ∃ t,
      exec (.deadReq (.port p) v) s = .next t ∧ t.groupState (2 * bits v.toNat 4 4 + bits v.toNat 5 5) = 0xF ∧ t.bufDown = true)) ∧
  (∀ (s : State) (g c : Nat) (rest : List (Nat × Nat)), s.buf.switching = (g, c) :: rest → g < 4 → c < 5 → ∃ t,
    exec .shardModeSwitch s = .next t ∧ t.groupState g = 8 + c ∧ t.sharded g = true ∧ t.buf = { s.buf with switching := rest } ∧
    t.media = s.media) ∧
  (∀ (s : State) (p : Port) (v : Word), s.barOpen p = true → s.locked = true → s.get Reg.BUF_RETIRE_REQ_GO = 0 →
    (s.retireRefused (bits v.toNat 22 0) = true → ∃ t, exec (.retireReq (.port p) v) s = .next t ∧
      t.get Reg.BUF_RETIRE_REQ_ERR = 1 ∧ t.get Reg.BUF_RETIRE_REQ_GO = 0 ∧ t = { s with regs := t.regs }) ∧
    (s.retireRefused (bits v.toNat 22 0) = false → ∃ t, exec (.retireReq (.port p) v) s = .next t ∧
      t.get Reg.BUF_RETIRE_REQ_ERR = 0 ∧ t.get Reg.BUF_RETIRE_REQ_GO = 1 ∧
      t.buf = { s.buf with toRetire := s.buf.toRetire ++ [(bits v.toNat 22 0, true)] } ∧ t = { s with regs := t.regs, buf := t.buf })) ∧
  (∀ (s : State) (p : Nat) (rest : List (Nat × Bool)), s.buf.toRetire = (p, false) :: rest → p < 2 ^ 23 →
    (s.get Reg.BUF_RETIRE_STATUS_ENTRIES < 4096 → ∃ t, exec .pageRetire s = .next t ∧
      t.buf = { s.buf.clean (64 * p) (64 * p + 64) with toRetire := rest } ∧
      t.spareOf p = some (s.get Reg.BUF_RETIRE_STATUS_ENTRIES) ∧
      t.get Reg.BUF_RETIRE_STATUS_ENTRIES = s.get Reg.BUF_RETIRE_STATUS_ENTRIES + 1 ∧ t.media = s.media) ∧
    (4096 ≤ s.get Reg.BUF_RETIRE_STATUS_ENTRIES → ∃ t, exec .pageRetire s = .next t ∧ t.buf.toRetire = rest ∧ t.spareOf p = s.spareOf p ∧
      t.get Reg.BUF_RETIRE_STATUS_ENTRIES = s.get Reg.BUF_RETIRE_STATUS_ENTRIES)) ∧
  (∀ s : State, s.get Reg.BUF_STATE_TRAINED = 1 → ((List.range 4).any fun g => s.sharded g) = true → ∃ t,
    exec .patrolScrubPass s = .next t ∧ (s.buf.faults = [] → t = { s with regs := t.regs }) ∧ t.get Reg.BUF_CNT_SHARD_VERIFY_COUNT =
      satAdd (2 ^ 32 - 1) (s.get Reg.BUF_CNT_SHARD_VERIFY_COUNT)
        (((List.range 4).filter fun g => s.sharded g).length * (s.bufPages / (s.bufSubs * s.bufRanks)))) ∧
  (∀ (s : State) (p : Port) (v : Word), s.barOpen p = true → s.locked = true → bits v.toNat 30 28 ≤ 4 → ∃ t,
    exec (.bufInjectArm (.port p) v) s = .next t ∧ t.get Reg.BUF_INJECT_ARM = 1 ∧ t.get Reg.BUF_INJECT_CHIP = bits v.toNat 30 28 ∧
    t.get Reg.BUF_INJECT_BEAT = bits v.toNat 27 24 ∧ t.get Reg.BUF_INJECT_MASK = bits v.toNat 7 0 ∧ t = { s with regs := t.regs })

/-! ## Block mover (chapter 14) -/

/-- By a port whose BAR is open, after the lock, at a channel from 12 up. BMV_KICK fetches on an idle enabled ring channel, and on a halted
one only sets TRIG_PEND. BMV_ABORT marks a running descriptor, and halts a channel without one. BMV_ENABLE_WRITE with EN starts an idle
ring with the written size; without EN it only disables. BMV_RESUME of a halted enabled ring channel fetches. BMV_RING_LO_WRITE sets the
base and HEAD 0 while EN is 0, and nothing while EN is 1. BMV_SHADOW_ARM of an idle enabled direct channel takes the shadow set over in
one step; while ARM is 1 it changes no shadow register. On channels 0 to 11 each of these leaves every register of the channel and the
channel itself as they are. -/
def Obligations.MoverChannelCommands : Prop :=
  (∀ (s : State) (c : ChanIx) (p : Port), s.barOpen p = true → s.locked = true → 12 ≤ c.val →
    (s.get (Reg.BMV_CH_CTRL_MODE c.val) = 0 → s.get (Reg.BMV_CH_CTRL_EN c.val) = 1 → (s.chan c).run = .idle → ∃ t,
      exec (.bmvKick c (.port p)) s = .next t ∧ t.get (Reg.BMV_CH_STATUS_TRIG_PEND c.val) = 1 ∧
      (s.get (Reg.BMV_CH_STATUS_HALTED c.val) = 0 → (t.chan c).run = .fetch) ∧
      (s.get (Reg.BMV_CH_STATUS_HALTED c.val) = 1 → t.mover = s.mover) ∧ t = { s with regs := t.regs, mover := t.mover }) ∧
    ((∀ d, (s.chan c).run ≠ .running d) → ∃ t, exec (.bmvAbort c (.port p)) s = .next t ∧
      t.get (Reg.BMV_CH_STATUS_HALTED c.val) = 1 ∧ (t.chan c).run = .idle ∧ t.mover.sram = s.mover.sram) ∧
    (∀ d, (s.chan c).run = .running d → ∃ t, exec (.bmvAbort c (.port p)) s = .next t ∧ t.chan c = ⟨.running d, true⟩ ∧
      t.get (Reg.BMV_CH_STATUS_HALTED c.val) = s.get (Reg.BMV_CH_STATUS_HALTED c.val) ∧ t = { s with regs := t.regs, mover := t.mover }) ∧
    (∀ v : Word, s.get (Reg.BMV_CH_CTRL_EN c.val) = 0 → (s.chan c).run = .idle →
      (bit v.toNat 24 = true → bit v.toNat 25 = false → s.get (Reg.BMV_CH_STATUS_HALTED c.val) = 0 → ∃ t,
        exec (.bmvEnableWrite c (.port p) v) s = .next t ∧ (t.chan c).run = .fetch ∧ t.get (Reg.BMV_CH_CTRL_EN c.val) = 1 ∧
        t.get (Reg.BMV_CH_CTRL_MODE c.val) = 0 ∧ t.get (Reg.BMV_CH_CTRL_RING_SIZE c.val) = bits v.toNat 11 0) ∧
      (bit v.toNat 24 = false → ∃ t, exec (.bmvEnableWrite c (.port p) v) s = .next t ∧ t.get (Reg.BMV_CH_CTRL_EN c.val) = 0 ∧
        (t.chan c).run = .idle ∧ t = { s with regs := t.regs, mover := t.mover })) ∧
    (s.get (Reg.BMV_CH_STATUS_HALTED c.val) = 1 → s.get (Reg.BMV_CH_CTRL_EN c.val) = 1 → s.get (Reg.BMV_CH_CTRL_MODE c.val) = 0 →
      (s.chan c).run = .idle → ∃ t, exec (.bmvResume c (.port p)) s = .next t ∧ t.get (Reg.BMV_CH_STATUS_HALTED c.val) = 0 ∧
      (t.chan c).run = .fetch ∧ t.get (Reg.BMV_CH_STATUS_HEAD c.val) = s.get (Reg.BMV_CH_STATUS_HEAD c.val)) ∧
    (∀ v : Word, ∃ t, exec (.bmvRingLoWrite c (.port p) v) s = .next t ∧ t = { s with regs := t.regs } ∧
      (s.get (Reg.BMV_CH_CTRL_EN c.val) = 0 → t.get (Reg.BMV_CH_RING_LO_BASE_LO c.val) = v.toNat / 32 ∧
        t.get (Reg.BMV_CH_STATUS_HEAD c.val) = 0) ∧
      (s.get (Reg.BMV_CH_CTRL_EN c.val) = 1 →
        t.get (Reg.BMV_CH_RING_LO_BASE_LO c.val) = s.get (Reg.BMV_CH_RING_LO_BASE_LO c.val) ∧
        t.get (Reg.BMV_CH_STATUS_HEAD c.val) = s.get (Reg.BMV_CH_STATUS_HEAD c.val))) ∧
    (∀ v : Word,
      (s.get (Reg.BMV_SH_CTL_ARM c.val) = 0 → s.get (Reg.BMV_CH_CTRL_EN c.val) = 1 → s.get (Reg.BMV_CH_CTRL_MODE c.val) = 1 →
        s.get (Reg.BMV_CH_CTRL_WAIT_TRIG c.val) = 0 → s.get (Reg.BMV_CH_STATUS_HALTED c.val) = 0 → (s.chan c).run = .idle → ∃ t d,
        exec (.bmvShadowArm c (.port p) v) s = .next t ∧ (t.chan c).run = .running d ∧ d.direct = true ∧
        d.length = (s.reg (chanBase c.val + 0x44)).toNat ∧ d.tag = bits v.toNat 7 0 ∧ t.get (Reg.BMV_SH_CTL_ARM c.val) = 0) ∧
      (s.get (Reg.BMV_SH_CTL_ARM c.val) = 1 → ∃ t, exec (.bmvShadowArm c (.port p) v) s = .next t ∧ t = { s with regs := t.regs } ∧
        ∀ k, k < 8 → t.reg (chanBase c.val + 0x40 + 4 * k) = s.reg (chanBase c.val + 0x40 + 4 * k)))) ∧
  (∀ (s : State) (c : ChanIx) (p : Port) (v : Word) (i : Instr), s.barOpen p = true → s.locked = true → c.val < 12 →
    i ∈ [Instr.bmvKick c (.port p), .bmvAbort c (.port p), .bmvEnableWrite c (.port p) v, .bmvResume c (.port p),
      .bmvRingLoWrite c (.port p) v, .bmvShadowArm c (.port p) v] → ∃ t, exec i s = .next t ∧ t = { s with regs := t.regs } ∧
      ∀ off, chanBase c.val ≤ off → off < chanBase c.val + 0x100 → t.reg off = s.reg off)

/-- BMV_DESCRIPTOR_FETCH of an enabled channel with its ring in the SRAM runs the descriptor at HEAD where OWN is 1, idles where it is 0,
and on a failed read halts with FETCH and HEAD in place. BMV_DESCRIPTOR_COMPLETE of a direct descriptor without abort: one that fails a check shows the code of the first with MOVED 0, leaves the SRAM and the page store, and halts. One within
the SRAM without errors leaves the source bytes at the destination, the CRC of R496 in CH_CRC, every SRAM byte outside the destination and
its CRC block as it was, and MOVED and code OK in CH_RESULT. With a source beat in error it ends with SRC_ERROR: the bytes before the beat
are moved, the beat holds the pattern, the lines after its line are untouched unless the CRC block lies there, and the channel halts. With
a destination line in error it ends with DST_ERROR, the lines from that one on untouched. -/
def Obligations.MoverMovesData : Prop :=
  (∀ (s : State) (c : ChanIx) (a : Nat), (s.chan c).run = .fetch → s.get (Reg.BMV_CH_CTRL_EN c.val) = 1 →
    s.get (Reg.BMV_CH_STATUS_HALTED c.val) = 0 → s.get (Reg.BMV_CH_RING_HI_BASE_HI c.val) = 0x1000 →
    a = s.get (Reg.BMV_CH_RING_LO_BASE_LO c.val) * 32 → a + 32 * s.ringSize c ≤ 0x8000 →
    (∀ l, l = Memory.read bufDefault s.mover.sram (a + 32 * s.get (Reg.BMV_CH_STATUS_HEAD c.val)) 32 → ∃ t,
      exec (.bmvDescriptorFetch c false) s = .next t ∧ t.get (Reg.BMV_CH_STATUS_TRIG_PEND c.val) = 0 ∧ t.mover.sram = s.mover.sram ∧
      (bit (u32 l 0) 31 = true → (t.chan c).run = .running (descriptorOf l (2 ^ 44 + a + 32 * s.get (Reg.BMV_CH_STATUS_HEAD c.val))
        (s.get (Reg.BMV_CH_STATUS_HEAD c.val)))) ∧
      (bit (u32 l 0) 31 = false → (t.chan c).run = .idle)) ∧
    (∃ t, exec (.bmvDescriptorFetch c true) s = .next t ∧ t.get (Reg.BMV_CH_STATUS_HALTED c.val) = 1 ∧ (t.chan c).run = .idle ∧
      t.reg (chanBase c.val + 0x10) = 0x0C000000 ∧ t.get (Reg.BMV_CH_STATUS_HEAD c.val) = s.get (Reg.BMV_CH_STATUS_HEAD c.val) ∧
      t.mover.sram = s.mover.sram)) ∧
  (∀ (s : State) (c : ChanIx) (d : Descriptor) (e : MoveEnv), s.chan c = ⟨.running d, false⟩ → d.direct = true →
    (∀ k, s.checkDescriptor d = k → k ≠ 0 → ∃ t, exec (.bmvDescriptorComplete c e) s = .next t ∧
      t.reg (chanBase c.val + 0x10) = BitVec.ofNat 32 (k * 2 ^ 24) ∧ t.get (Reg.BMV_CH_STATUS_HALTED c.val) = 1 ∧
      t.mover.sram = s.mover.sram ∧ t.buf = s.buf) ∧
    (s.checkDescriptor d = 0 → bmvSpace d.src = 1 → bmvSpace d.dst = 1 →
      (e.srcError = none → e.dstError = none → ∃ t, exec (.bmvDescriptorComplete c e) s = .next t ∧
        Memory.read bufDefault t.mover.sram (bmvOffset d.dst) d.length = Memory.read bufDefault s.mover.sram (bmvOffset d.src) d.length ∧
        (∀ x, x < bmvOffset d.dst ∨ bmvOffset d.dst + d.dstLen ≤ x →
          Sparse.get bufDefault t.mover.sram x = Sparse.get bufDefault s.mover.sram x) ∧
        t.reg (chanBase c.val + 0x10) = BitVec.ofNat 32 (d.length / 64) ∧
        t.reg (chanBase c.val + 0x18) = BitVec.ofNat 32 (crc64 d.seed (Memory.read bufDefault s.mover.sram (bmvOffset d.src) d.length)) ∧
        t.get (Reg.BMV_CH_STATUS_HALTED c.val) = s.get (Reg.BMV_CH_STATUS_HALTED c.val) ∧ t.buf = s.buf ∧ t.media = s.media) ∧
      (∀ b, e.srcError = some b → b < d.length / 16 → e.dstError = none → ∃ t, exec (.bmvDescriptorComplete c e) s = .next t ∧
        Memory.read bufDefault t.mover.sram (bmvOffset d.dst) (16 * b) = Memory.read bufDefault s.mover.sram (bmvOffset d.src) (16 * b) ∧
        Memory.read bufDefault t.mover.sram (bmvOffset d.dst + 16 * b) 16 = poisonBeat ∧
        (d.noapp = true → ∀ x, bmvOffset d.dst + 64 * (b / 4 + 1) ≤ x →
          Sparse.get bufDefault t.mover.sram x = Sparse.get bufDefault s.mover.sram x) ∧
        t.reg (chanBase c.val + 0x10) = BitVec.ofNat 32 (0x08800000 + b / 4 + 1) ∧ t.get (Reg.BMV_CH_STATUS_HALTED c.val) = 1) ∧
      (∀ i, e.srcError = none → e.dstError = some i → i < d.length / 64 → ∃ t, exec (.bmvDescriptorComplete c e) s = .next t ∧
        (∀ x, x < bmvOffset d.dst ∨ bmvOffset d.dst + 64 * i ≤ x →
          Sparse.get bufDefault t.mover.sram x = Sparse.get bufDefault s.mover.sram x) ∧
        t.reg (chanBase c.val + 0x10) = BitVec.ofNat 32 (0x0A000000 + i + (if 64 * (i + 1) = d.length then 0 else 0x800000)) ∧
        t.get (Reg.BMV_CH_STATUS_HALTED c.val) = 1)))

/-! ## Ports, queues and completions (chapter 15) -/

/-- PERST_N_ASSERT, HOT_RESET and LINK_DOWN leave the port's link down, configuration space and the controller reset. FUNCTION_LEVEL_RESET
does so with the link up; CC_EN_WRITE with EN falling keeps configuration space, the link and the admin queue attributes; NSSR_WRITE with
its magic value resets every serving controller and takes their links down. None of them touches media, spindle, buffer, cache or image
where no command's data has arrived and no self-test runs. PERST_N_RELEASE raises the pin; PCIE_LINK_UP shows the link. L1_ENTRY and L1_EXIT
move CLKREQ_N as R518 says. CONFIGURATION_REQUEST reads IDs, CAP and VS, and sets MSI-X and its table, ASPM, power state or a dword.
CC_EN_WRITE with EN rising makes the admin queues, ready once BULK has ended and not in hold. CC_SHN_WRITE ends fetching; with no dirty
extent, no command and nothing for Cairn to flush SHST is 2. -/
def Obligations.PortLinksAndResets : Prop :=
  (∀ (s : State) (p : Port), s.portServes p = true →
    (∀ i, i = Instr.perstNAssert p ∨ (i = .hotReset p ∨ i = .linkDown p) ∧ (s.port p).linkUp = true → ∃ t, exec i s = .next t ∧
      t.controllerGone p ∧ (t.ctl p).aqa = 0 ∧ (t.port p).linkUp = false ∧ (t.port p).cfg = [] ∧ (t.port p).msixEnabled = false ∧
      (t.port p).perstN = (if i = .perstNAssert p then false else (s.port p).perstN) ∧
      ((∀ c ∈ s.hif.cmds, c.port = p → c.transferred = false) → s.cache.selfTest = none → s.onlyHost t)) ∧
    (s.portReach p = true → ∃ t, exec (.functionLevelReset p) s = .next t ∧ t.controllerGone p ∧ (t.ctl p).aqa = 0 ∧
      (t.port p).linkUp = true ∧ (t.port p).speed = (s.port p).speed ∧ (t.port p).cfg = [] ∧ (t.port p).msixEnabled = false ∧
      ((∀ c ∈ s.hif.cmds, c.port = p → c.transferred = false) → s.cache.selfTest = none → s.onlyHost t)) ∧
    (s.memReach p = true → ∀ cc aqa asq acq, bit (s.ctl p).cc 0 = true → bit cc 0 = false → ∃ t,
      exec (.ccEnWrite p cc aqa asq acq) s = .next t ∧ t.controllerGone p ∧ (t.ctl p).aqa = (s.ctl p).aqa ∧
      (t.ctl p).asq = (s.ctl p).asq ∧ (t.ctl p).acq = (s.ctl p).acq ∧ (t.ctl p).arbitration = 3 ∧ (t.ctl p).coalescing = 0 ∧
      (t.port p).linkUp = true ∧ (t.port p).cfg = (s.port p).cfg ∧
      ((∀ c ∈ s.hif.cmds, c.port = p → c.transferred = false) → s.cache.selfTest = none → s.onlyHost t)) ∧
    (s.memReach p = true → ∃ t, exec (.nssrWrite p 0x4E564D65) s = .next t ∧
      (∀ r : Port, s.portServes r = true → t.controllerGone r ∧ (t.port r).linkUp = false ∧ (t.ctl r).aqa = (s.ctl r).aqa) ∧
      ((∀ c ∈ s.hif.cmds, c.transferred = false) → s.cache.selfTest = none → s.onlyHost t))) ∧
  (∀ (s : State) (p : Port), s.portPresent p = true →
    exec (.perstNRelease p) s = .next (s.setPort p { s.port p with perstN := true })) ∧
  (∀ (s : State) (p : Port) (speed width : Nat), s.portServes p = true → (s.port p).perstN = true → s.boot.fuseEnded = true →
    (s.port p).linkUp = false → 1 ≤ speed → speed ≤ 5 → 1 ≤ width → width ≤ 2 → ∃ t, exec (.pcieLinkUp p speed width) s = .next t ∧
      (t.port p).linkUp = true ∧ (t.port p).speed = speed ∧ (t.port p).width = width ∧ (t.port p).inL1 = false ∧
      (t.port p).clkreqLow = true ∧ (s.get Reg.SBD_STATUS_HOST_LINK_LOST = 0 → s.onlyHost t)) ∧
  (∀ (s : State) (p : Port), s.portReach p = true → s.boot.fuseEnded = true →
    (∀ sub, (s.port p).aspmL1 = true →
      exec (.l1Entry p sub) s = .next (s.setPort p { s.port p with inL1 := true, clkreqLow := !sub })) ∧
    (∀ sub, (s.port p).aspmL1 = false → exec (.l1Entry p sub) s = .next s) ∧
    ((s.port p).inL1 = true → ∃ t, exec (.l1Exit p) s = .next t ∧ t.port p = { s.port p with inL1 := false, clkreqLow := true } ∧
      t.lanes = s.lanes ∧ s.onlyHost t) ∧
    (exec (.configurationRequest p (.read 0)) s =
      .next (s.emit (.configData p (BitVec.ofNat 32 (0x1F5D + variantDevice s.fuses.variant * 65536))))) ∧
    (exec (.configurationRequest p (.read 2)) s = .next (s.emit (.configData p 0x01080211))) ∧
    (∀ dw v, ∃ t, exec (.configurationRequest p (.write dw v)) s = .next t ∧
      Sparse.get (fun _ => 0) (t.port p).cfg dw = BitVec.ofNat 32 v ∧ t.ctl p = s.ctl p ∧ t.regs = s.regs) ∧
    (∀ e m, ∃ t, exec (.configurationRequest p (.msix e m)) s = .next t ∧ (t.port p).msixEnabled = e ∧ (t.port p).msixFnMask = m ∧
      t.regs = s.regs ∧ ((s.port p).msixPending = [] → t = s.setPort p { s.port p with msixEnabled := e, msixFnMask := m })) ∧
    (∀ b, exec (.configurationRequest p (.aspm b)) s = .next (s.setPort p { s.port p with aspmL1 := b })) ∧
    (∀ b, ∃ t, exec (.configurationRequest p (.power b)) s = .next t ∧ (t.port p).d3hot = b ∧ t.regs = s.regs ∧
      (b = true ∨ (s.port p).msixPending = [] → t = s.setPort p { s.port p with d3hot := b })) ∧
    ((s.port p).d3hot = false → ∀ off v, (off, v) ∈ [(0x00, 0xFF03FFFF), (0x04, 0x00400030), (0x08, 0x00020000)] →
      exec (.configurationRequest p (.barRead off)) s = .next (s.emit (.mmio p v))) ∧
    ((s.port p).d3hot = false → ∀ i d : Nat, i < 2048 → d < 2 ^ 32 → ∃ t, exec (.configurationRequest p (.barWrite (0x10008 + 16 * i) d)) s = .next t ∧
      (t.port p).msixEntry i = (((s.port p).msixEntry i).1, d) ∧ (∀ j, j ≠ i → (t.port p).msixEntry j = (s.port p).msixEntry j) ∧
      t.regs = s.regs ∧ t.out = s.out)) ∧
  (∀ (s : State) (p : Port), s.memReach p = true →
    (∀ cc aqa asq acq, bit (s.ctl p).cc 0 = false → (s.ctl p).rdy = false → bit cc 0 = true →
      1 ≤ bits aqa 11 0 → 1 ≤ bits aqa 27 16 → ∃ t, exec (.ccEnWrite p cc aqa asq acq) s = .next t ∧ (t.ctl p).cc = cc ∧
      (t.ctl p).sqs = [⟨0, bits aqa 11 0 + 1, asq, 0, 0, 0, 0⟩] ∧ (t.ctl p).cqs = [⟨0, bits aqa 27 16 + 1, acq, 0, true, 0, 0, true⟩] ∧
      (t.ctl p).rdy = (s.boot.bulkEnded && !s.held) ∧ t.media = s.media ∧ t.cache = s.cache ∧ t.lanes = s.lanes) ∧
    (∀ shn, bit (s.ctl p).cc 0 = true → shn = 1 ∨ shn = 2 → ∃ t, exec (.ccShnWrite p shn) s = .next t ∧
      (t.ctl p).shst ≠ 0 ∧ t.fetches p = false ∧ bits (t.ctl p).cc 15 14 = shn ∧ t.media = s.media ∧
      (s.cache.extents = [] → s.hif.cmds = [] → s.startFlush.crn.flushing = false → s.sbd.lossDestage = false → (t.ctl p).shst = 2)))

/-- On an enabled controller in D0. SQ_TAIL_DOORBELL sets the tail of its queue; CQ_HEAD_DOORBELL sets the head where it releases entries
posted. One that names no queue or an invalid value leaves every queue and reports 0x506 + p. COMMAND_FETCH, where the arbiters choose SQ q:
q's head advances, the entry takes a slot and the next sequence number; a CID in flight on q or an unknown opcode completes it at once with
status 0x003 or 0x001, else it is queued; no command leaves, and no lane, media or cache differs. Arbitration never chooses an empty SQ or
one without a slot; a round begins with the admin SQ, then (AMS 0) every I/O SQ once; with AMS 1 a ready urgent SQ goes before the other I/O
SQs; a turn lasts 2^AB entries (65,536 for AB 7). The port served last waits while the other has work and no turn runs. -/
def Obligations.DoorbellsAndFetch : Prop :=
  (∀ (s : State) (p : Port) (q v : Nat), s.memReach p = true → bit (s.ctl p).cc 0 = true →
    (∀ x, (s.ctl p).sqs.find? (·.id == q) = some x →
      (v < x.size → ∃ t, exec (.sqTailDoorbell p q v) s = .next t ∧
        (t.ctl p).sqs = ((s.ctl p).sqs.map fun y => if y.id = q then { y with tail := v } else y) ∧ (t.ctl p).cqs = (s.ctl p).cqs ∧
        t.media = s.media ∧ t.lanes = s.lanes ∧ t.cache = s.cache ∧
        ((∀ r, (s.ctl r).aers = []) → (t.get Reg.HIF_SLOTS_PAUSED = 1 ↔
          ∃ r, t.fetches r = true ∧ ∃ y ∈ (t.ctl r).sqs, y.head ≠ y.tail ∧ t.slotFor r (y.id == 0) = false))) ∧
      (x.size ≤ v → ∃ t u : State, exec (.sqTailDoorbell p q v) s = .next t ∧
        t = u.raise (0x506 + p.val) (q % 2 ^ 11 + v % 2 ^ 16 * 2 ^ 16) ∧ (t.ctl p).sqs = (s.ctl p).sqs ∧ (t.ctl p).cqs = (s.ctl p).cqs)) ∧
    ((s.ctl p).sqs.find? (·.id == q) = none → ∃ t u : State, exec (.sqTailDoorbell p q v) s = .next t ∧
      t = u.raise (0x506 + p.val) (q % 2 ^ 11 + v % 2 ^ 16 * 2 ^ 16) ∧ (t.ctl p).sqs = (s.ctl p).sqs ∧ (t.ctl p).cqs = (s.ctl p).cqs) ∧
    (∀ x, (s.ctl p).cqs.find? (·.id == q) = some x →
      (v < x.size → (v + x.size - x.head) % x.size ≤ (x.tail + x.size - x.head) % x.size → ∃ t, exec (.cqHeadDoorbell p q v) s = .next t ∧
        (t.ctl p).cqs = ((s.ctl p).cqs.map fun y => if y.id = q then { y with head := v } else y) ∧ (t.ctl p).sqs = (s.ctl p).sqs ∧
        t.hif.cmds = s.hif.cmds ∧ t.out = s.out) ∧
      (x.size ≤ v ∨ (x.tail + x.size - x.head) % x.size < (v + x.size - x.head) % x.size → ∃ t u : State, exec (.cqHeadDoorbell p q v) s = .next t ∧
        t = u.raise (0x506 + p.val) (q % 2 ^ 11 + 2 ^ 11 + v % 2 ^ 16 * 2 ^ 16) ∧ (t.ctl p).cqs = (s.ctl p).cqs))) ∧
  (∀ (s : State) (p : Port) (e : SqEntry) (q : Nat) (k : Controller), s.pick p = some (q, k) → s.portsTurn p = true →
    (∀ c ∈ s.hif.cmds, c.seq ≠ s.hif.nextSeq) → (∀ r, s.hif.nextSeq ∉ (s.ctl r).aers) → ∃ t c, exec (.commandFetch p e) s = .next t ∧
      (t.ctl p).sqs = ((s.ctl p).sqs.map fun y => if y.id = q then { y with head := (y.head + 1) % y.size } else y) ∧
      t.hif.nextSeq = (s.hif.nextSeq + 1) % 2 ^ 48 ∧ c ∈ t.hif.cmds ∧ c.seq = s.hif.nextSeq ∧ c.port = p ∧ c.sq = q ∧
      c.cid = e.cid % 65536 ∧ c.opcode = e.opcode % 256 ∧
      c.phase = (if ∃ d ∈ s.hif.cmds, d.port = p ∧ d.sq = q ∧ d.cid = e.cid % 65536 then .committed 0x003 0
        else if e.opcode % 256 ∈ (if q = 0 then adminOpcodes else ioOpcodes) then .queued else .committed 0x001 0) ∧
      (∀ d ∈ s.hif.cmds, ∃ d' ∈ t.hif.cmds, d'.seq = d.seq) ∧ t.lanes = s.lanes ∧ t.media = s.media ∧ t.cache = s.cache) ∧
  (∀ (s : State) (p : Port) (q : Nat) (k : Controller), s.pick p = some (q, k) →
    (∃ x ∈ (s.ctl p).sqs, x.id = q ∧ x.head ≠ x.tail ∧ s.slotFor p (q == 0) = true) ∧
    ((s.ctl p).turn = none → ∃ l, k.turn = some (q, l) ∧
      l + 1 = if bits (s.ctl p).arbitration 2 0 = 7 then 65536 else 2 ^ bits (s.ctl p).arbitration 2 0) ∧
    ((s.ctl p).turn = none → (s.ctl p).round = [] → (∃ x ∈ (s.ctl p).sqs, x.id = 0 ∧ s.sqReady p x = true) → q = 0) ∧
    ((s.ctl p).turn = none → (s.ctl p).wrr = true → (∀ x ∈ (s.ctl p).sqs, x.id = 0 → s.sqReady p x = false) →
      (∃ x ∈ (s.ctl p).sqs, x.id ≠ 0 ∧ x.prio = 0 ∧ s.sqReady p x = true) →
      ∃ x ∈ (s.ctl p).sqs, x.id = q ∧ q ≠ 0 ∧ x.prio = 0)) ∧
  (∀ k : Controller, k.wrr = false → ∃ l, k.newRound = 0 :: l ∧ l.Perm ((k.sqs.filter (·.id != 0)).map (·.id))) ∧
  (∀ (s : State) (p : Port) (e : SqEntry), s.hif.lastPort = p.val → s.midTurn p = false → (s.pick (1 - p)).isSome = true →
    exec (.commandFetch p e) s = .next s)

/-- COMPLETION_POST of a committed command that is the first of its CQ, whose ring has room, on a controller in D0: the 16 bytes of R529
with the ring's phase tag and the SQ's head go to the ring's tail; the tail advances and the phase turns at the ring's end; the slot is
free. With IEN and a vector that is not coalesced the message follows the entry. With THR and TIME not 0 the first entry of a vector only
counts; COALESCING_TIMEOUT then sends the message. Into a full ring, or before another entry of the ring that committed earlier, nothing is
posted and nothing changes. -/
def Obligations.CompletionsAndMessages : Prop :=
  (∀ (s : State) (seq status dw0 : Nat) (c : Command) (q : CompQueue) (x : SubQueue), s.cmd seq = some c →
    c.phase = .committed status dw0 → s.postable c = some q → (s.ctl c.port).sqs.find? (·.id == c.sq) = some x →
    s.memReach c.port = true → ∃ t e a b, exec (.completionPost seq) s = .next t ∧
      e = leBytes 4 dw0 ++ zeros 4 ++ leBytes 2 x.head ++ leBytes 2 x.id ++
        leBytes 4 (c.cid + flag q.phase * 65536 + statusField status * 131072) ∧
      t.out = a ++ Output.cqEntry c.port q.id q.tail e :: b ∧ b = s.out ∧ t.cmd seq = none ∧ t.media = s.media ∧
      (t.ctl c.port).cqs = ((s.ctl c.port).cqs.map fun y => if y.id = q.id then
        { y with tail := (q.tail + 1) % q.size, phase := if (q.tail + 1) % q.size = 0 then !y.phase else y.phase } else y) ∧
      (q.ien = true → q.vector < 2048 → (s.port c.port).msixEnabled = true → (s.port c.port).msixFnMask = false →
        (s.port c.port).msixUnmasked.contains q.vector = true →
        (q.vector = 0 ∨ q.id = 0 ∨ q.vector ∈ (s.ctl c.port).noCoalesce ∨ (s.ctl c.port).coalescing = 0 →
          Output.msix c.port q.vector ((s.port c.port).msixEntry q.vector).1 ((s.port c.port).msixEntry q.vector).2 ∈ a)) ∧
      (q.ien = true → q.vector ≠ 0 → q.id ≠ 0 → q.vector ∉ (s.ctl c.port).noCoalesce → (s.ctl c.port).coalescing % 256 ≠ 0 →
        (s.ctl c.port).coalescing / 256 % 256 ≠ 0 → (s.ctl c.port).coalesced = [] → (t.ctl c.port).coalesced = [(q.vector, 1)])) ∧
  (∀ (s : State) (seq : Nat) (c d : Command) (q : CompQueue) (x : SubQueue), s.cmd seq = some c →
    (s.ctl c.port).sqs.find? (·.id == c.sq) = some x → (s.ctl c.port).cqs.find? (·.id == x.cq) = some q →
    ((q.tail + 1) % q.size = q.head → exec (.completionPost seq) s = .next s) ∧
    (s.hif.cmds.find? (fun k => k.ended && k.port == c.port && !k.isAta && k.sq == c.sq) = some d → d.seq ≠ seq →
      (∀ y ∈ (s.ctl c.port).sqs, y.cq = x.cq → y.id = c.sq) → exec (.completionPost seq) s = .next s)) ∧
  (∀ (s : State) (p : Port) (v n : Nat), (s.ctl p).coalesced = [(v, n)] → s.boot.compat = false → s.portPresent p = true → v < 2048 →
    (s.port p).msixEnabled = true → (s.port p).msixFnMask = false → (s.port p).msixUnmasked.contains v = true → (s.port p).d3hot = false → ∃ t,
      exec (.coalescingTimeout p v) s = .next t ∧ t.out = .msix p v ((s.port p).msixEntry v).1 ((s.port p).msixEntry v).2 :: s.out ∧ (t.ctl p).coalesced = [] ∧ t.regs = s.regs)


/-- FORMAT_NVM refused by a check ends with its status and starts nothing; else it clears the covered blocks from the cache and the
uncorrectable list, keeps every other extent, gives encrypted namespaces a new key pair at once where SES is not 1, aborts a self-test and
puts a first record into flash. SANITIZE 2 and 4 also empty the page store, the stale bits and the pending lists and end with success
as the operation starts; SANACT 1 leaves the failure mode where AUSE allows, else ends with 0x01D; other actions end with 0x002.
PROGRESS_RECORD keeps the greatest progress, begins the next pass, or ends the operation with DONE; a lane that failed boot ends it with
FAILED and status 0x280. DEVICE_SELF_TEST starts, fails with 0x11D while one runs, and with STC 0xF aborts with result 1. SELF_TEST_RESUME
lets a lane go on. -/
def Obligations.FormatSanitizeAndSelfTest : Prop :=
  (∀ (s : State) (seq : Nat) (c : Command), s.dueAdmin seq 0x80 = some c → c.sq = 0 → (∀ r, seq ∉ (s.ctl r).aers) →
    (s.formatStatus c ≠ 0 → ∃ t, exec (.formatNvm seq) s = .next t ∧ t.endedWith seq (s.formatStatus c) 0 ∧ t.cache = s.cache ∧
      t.media = s.media ∧ t.flash = s.flash) ∧
    (s.formatStatus c = 0 → s.busyNs seq (s.nsNamed c.nsid) = false → (s.cache.progressAt).2 < 1024 → c.nsid < 2 ^ 32 →
      c.dw 10 < 2 ^ 32 → c.dw 11 < 2 ^ 32 → s.cache.progressSeq < 2 ^ 48 → ∃ t, exec (.formatNvm seq) s = .next t ∧
      t.cache.admin = some ⟨opFormat, c.nsid, c.dw 10, c.dw 11, 0, [0, 0, 0, 0], some seq⟩ ∧ t.cache.lastOp = 1 ∧
      t.cache.selfTest = none ∧ (∀ x, x ∈ t.cache.extents ↔ x ∈ s.cache.extents ∧ x.ns ∉ s.nsNamed c.nsid) ∧
      (∀ w, w ∈ t.cache.wunc ↔ w ∈ s.cache.wunc ∧ w.1 ∉ s.nsNamed c.nsid) ∧
      (∀ k ∈ s.nsNamed c.nsid, k ≤ s.cache.namespaces.length → s.nsEncrypts k = true → bits (c.dw 10) 11 9 ≠ 1 →
        (t.ns k).keyGen = (s.ns k).keyGen + 1) ∧
      Progress.ofBytes (Memory.read flashDefault t.flash (s.progressBase s.cache.progressAt.1 + 64 * s.cache.progressAt.2) 64) =
        some ⟨s.cache.progressSeq, 1, 0, c.nsid, c.dw 10, c.dw 11, [0, 0, 0, 0]⟩)) ∧
  (∀ (s : State) (seq : Nat) (c : Command), s.dueAdmin seq 0x84 = some c → c.sq = 0 → s.cache.admin = none → (∀ r, seq ∉ (s.ctl r).aers) →
    (c.dw 10 % 8 = 2 ∨ c.dw 10 % 8 = 4 ∧ (∀ k ∈ s.nsNamed 0xFFFFFFFF, s.nsEncrypts k = true) →
      s.busyNs seq (s.nsNamed 0xFFFFFFFF) = false → ∃ t, exec (.sanitize seq) s = .next t ∧ t.endedWith seq 0 0 ∧
      t.cache.admin = some ⟨if c.dw 10 % 8 = 2 then opOverwrite else opCrypto, 0xFFFFFFFF, c.dw 10, c.dw 11, 0, [0, 0, 0, 0], none⟩ ∧
      t.buf.mem = [] ∧ t.buf.poisoned = [] ∧ t.stale = [] ∧ (∀ n, (t.lane n).rcv.pending = []) ∧ t.sanitizing = true ∧
      ∀ x ∈ t.cache.extents, x.ns ∉ s.nsNamed 0xFFFFFFFF) ∧
    (c.dw 10 % 8 = 4 → (∃ k ∈ s.nsNamed 0xFFFFFFFF, s.nsEncrypts k = false) → ∃ t, exec (.sanitize seq) s = .next t ∧
      t.endedWith seq 0x002 0 ∧ t.cache = s.cache ∧ t.buf = s.buf) ∧
    (c.dw 10 % 8 ∉ [1, 2, 4] → ∃ t, exec (.sanitize seq) s = .next t ∧ t.endedWith seq 0x002 0 ∧ t.cache = s.cache) ∧
    (c.dw 10 % 8 = 1 → ∃ t, exec (.sanitize seq) s = .next t ∧
      (s.cache.sanitizeFailed = some false → t.endedWith seq 0x01D 0 ∧ t.cache = s.cache) ∧
      (s.cache.sanitizeFailed ≠ some false → t.endedWith seq 0 0 ∧ t.cache.sanitizeFailed = none))) ∧
  (∀ (s : State) (o : AdminOp) (done : List Nat), s.cache.admin = some o →
    ((s.opLanes o).any s.laneFailed = true → ∃ t, exec (.progressRecord done) s = .next t ∧ t.cache.admin = none ∧ t.cache.lastOp = 0x81 ∧
      ∀ q c, o.owner = some q → s.cmd q = some c → c.ended = false → c.sq = 0 → (∀ r, q ∉ (s.ctl r).aers) → t.endedWith q 0x280 0) ∧
    ((s.opLanes o).any s.laneFailed = false → (∀ n, n < 4 → s.mediaStatus n = 0) →
      ((∃ n, n < 4 ∧ done.getD n 0 < s.opMiB o n ∧ o.done.getD n 0 < s.opMiB o n) → ∃ t, exec (.progressRecord done) s = .next t ∧
        t.cache.lastOp = o.op ∧ t.cache.progressSeq = s.cache.progressSeq + 1 ∧ t.cache.admin.map (·.done) =
          some ((List.range 4).map fun n => max (o.done.getD n 0) (min (s.opMiB o n) (done.getD n 0)))) ∧
      ((∀ n, n < 4 → s.opMiB o n ≤ done.getD n 0) →
        (o.pass + 1 < o.passes → ∃ t, exec (.progressRecord done) s = .next t ∧
          t.cache.admin = some { o with pass := o.pass + 1, done := [0, 0, 0, 0] }) ∧
        (o.passes ≤ o.pass + 1 → ∃ t, exec (.progressRecord done) s = .next t ∧ t.cache.admin = none ∧ t.cache.lastOp = 0x80 ∧
          ∀ q c, o.owner = some q → s.cmd q = some c → c.ended = false → c.sq = 0 → (∀ r, q ∉ (s.ctl r).aers) → t.endedWith q 0 0)))) ∧
  (∀ (s : State) (seq : Nat) (c : Command) (fail : Bool), s.dueAdmin seq 0x14 = some c → c.sq = 0 → s.sanitizing = false →
    (∀ r, seq ∉ (s.ctl r).aers) → c.nsid = 0 ∨ s.nsNamed c.nsid ≠ [] →
    (c.dw 10 % 16 = 1 ∨ c.dw 10 % 16 = 2 → s.cache.selfTest = none → ∃ t, exec (.deviceSelfTest seq fail) s = .next t ∧
      t.endedWith seq 0 0 ∧ t.media = s.media ∧
      (fail = true → t.cache.selfTest = none ∧
        (t.cache.results.head?).map (·.take 2) = some [BitVec.ofNat 8 (7 + c.dw 10 % 16 * 16), 1]) ∧
      (fail = false → (∃ u, t.cache.selfTest = some u ∧ u.extended = decide (c.dw 10 % 16 = 2) ∧ 2 ≤ u.segment) ∨
        t.cache.selfTest = none ∧ (t.cache.results.head?).map (·.take 1) = some [BitVec.ofNat 8 (c.dw 10 % 16 * 16)])) ∧
    (c.dw 10 % 16 = 1 ∨ c.dw 10 % 16 = 2 → s.cache.selfTest.isSome = true → ∃ t, exec (.deviceSelfTest seq fail) s = .next t ∧
      t.endedWith seq 0x11D 0 ∧ t.cache = s.cache) ∧
    (∀ u, c.dw 10 % 16 = 15 → s.cache.selfTest = some u → u.owner = none → ∃ t, exec (.deviceSelfTest seq fail) s = .next t ∧
      t.endedWith seq 0 0 ∧ t.cache.selfTest = none ∧
      (t.cache.results.head?).map (·.take 1) = some [BitVec.ofNat 8 (1 + u.code * 16)])) ∧
  (∀ (s : State) (n : Lane) (u : SelfTest), s.cache.selfTest = some u → u.yielding = [n.val] → (∀ o ∈ s.sched n, o.host = false) → ∃ t,
    exec (.selfTestResume n) s = .next t ∧ t.media = s.media ∧ ∀ v, t.cache.selfTest = some v → v.yielding = [])

/-- A reservation command of a controller whose Host Identifier is 0 ends with 0x00C, and one with an admission status with that status;
no reservation changes. RESERVATION_REGISTER of a new host with a key adds a registrant and raises the generation; with 32 registrants it
ends with 0x002. Unregistering the only registrant that holds the reservation releases it. RESERVATION_ACQUIRE takes a free reservation for a
registrant with its key and ends with 0x083 while another host holds it; a preempt of the holder's key takes it over and unregisters that
host. RESERVATION_RELEASE by the holder with its type frees it. RESERVATION_REPORT returns generation and type. A read or write waits while
an earlier reservation command of its namespace has not ended. -/
def Obligations.ReservationsFollowFetchOrder : Prop :=
  (∀ (s : State) (seq op : Nat) (c : Command) (x : Xfer) (d : List Byte) (i : Instr), (i, op) ∈ [(Instr.reservationRegister seq x d, 0x0D),
      (.reservationReport seq x, 0x0E), (.reservationAcquire seq x d, 0x11), (.reservationRelease seq x d, 0x15)] →
    s.dueIo seq op = some c → s.admitResv c ≠ 0 → ∃ t, exec i s = .next t ∧ t.endedWith seq (s.admitResv c) 0 ∧ t.cache = s.cache ∧
      ((s.admissionStatus c = 0 ∧ c.nsid ≠ 0xFFFFFFFF ∧ (s.ctl c.port).hostId = 0) → s.admitResv c = 0x00C)) ∧
  (∀ (s : State) (seq : Nat) (c : Command) (d : List Byte) (n : Namespace) (host : Nat), s.admitResv c = 0 → c.ptrStatus = 0 →
    n = s.ns c.nsid → host = (s.ctl c.port).hostId → 1 ≤ c.nsid → c.nsid ≤ s.cache.namespaces.length → (∀ r, seq ∉ (s.ctl r).aers) →
    (s.dueIo seq 0x0D = some c → bits (c.dw 10) 31 30 = 0 →
      (c.dw 10 % 8 = 0 → n.reg host = none → n.regs.length < 32 → ∃ t, exec (.reservationRegister seq .ok d) s = .next t ∧
        t.endedWith seq 0 0 ∧ (t.ns c.nsid).regs = n.regs ++ [⟨host, field d 8 8, [c.port.val + 1]⟩] ∧
        (t.ns c.nsid).gen = (n.gen + 1) % 2 ^ 32 ∧ (t.ns c.nsid).holder = n.holder) ∧
      (c.dw 10 % 8 = 0 → n.reg host = none → 32 ≤ n.regs.length → ∃ t, exec (.reservationRegister seq .ok d) s = .next t ∧
        t.endedWith seq 0x002 0 ∧ t.cache = s.cache) ∧
      (∀ r, c.dw 10 % 8 = 1 → n.regs = [r] → r.host = host → r.key = field d 0 8 → ∃ t,
        exec (.reservationRegister seq .ok d) s = .next t ∧ t.endedWith seq 0 0 ∧ (t.ns c.nsid).regs = [] ∧
        (n.holder = some host → (t.ns c.nsid).holder = none))) ∧
    (∀ r, s.dueIo seq 0x11 = some c → n.reg host = some r → r.key = field d 0 8 → 1 ≤ bits (c.dw 10) 15 8 → bits (c.dw 10) 15 8 ≤ 6 →
      (c.dw 10 % 8 = 0 → n.holder = none → ∃ t, exec (.reservationAcquire seq .ok d) s = .next t ∧ t.endedWith seq 0 0 ∧
        t.ns c.nsid = { n with holder := some host, rtype := bits (c.dw 10) 15 8 }) ∧
      (c.dw 10 % 8 = 0 → n.holder.isSome = true → n.holds host = false → ∃ t, exec (.reservationAcquire seq .ok d) s = .next t ∧
        t.endedWith seq 0x083 0 ∧ t.cache = s.cache) ∧
      (∀ h k, c.dw 10 % 8 = 1 → n.holder = some h → n.rtype ≤ 4 → h ≠ host → (n.reg h).map (·.key) = some k → k ≠ 0 → k = field d 8 8 →
        ∃ t, exec (.reservationAcquire seq .ok d) s = .next t ∧ t.endedWith seq 0 0 ∧ (t.ns c.nsid).holder = some host ∧
          (t.ns c.nsid).rtype = bits (c.dw 10) 15 8 ∧ (t.ns c.nsid).reg h = none ∧ (t.ns c.nsid).gen = (n.gen + 1) % 2 ^ 32)) ∧
    (∀ r, s.dueIo seq 0x15 = some c → n.reg host = some r → r.key = field d 0 8 → c.dw 10 % 8 = 0 → n.holds host = true →
      n.rtype = bits (c.dw 10) 15 8 → ∃ t, exec (.reservationRelease seq .ok d) s = .next t ∧ t.endedWith seq 0 0 ∧
        (t.ns c.nsid).holder = none ∧ (t.ns c.nsid).regs = n.regs) ∧
    (s.dueIo seq 0x0E = some c → bit (c.dw 11) 0 = true → 1 ≤ c.dw 10 → (c.dw 10 + 1) * 4 ≤ 1048576 → ∃ t rest,
      exec (.reservationReport seq .ok) s = .next t ∧ t.endedWith seq 0 0 ∧ t.cache = s.cache ∧
      t.out = .hostData c.port seq (leBytes 4 n.gen ++ leBytes 1 n.rtype ++ rest) :: s.out)) ∧
  (∀ (s : State) (seq : Nat) (c : Command) (d : Command) (x : Xfer) (b : BufAccess) (l : List HostBlock), s.cmd seq = some c → d ∈ s.hif.cmds →
    d.isReservation = true → d.isAta = false → d.ended = false → d.nsid = c.nsid → fetchedBefore d.seq c.seq = true →
    exec (.read seq x b) s = .next s ∧ exec (.write seq l x) s = .next s)

/-- Of a due command of the admin SQ. CREATE_IO_COMPLETION_QUEUE and CREATE_IO_SUBMISSION_QUEUE with valid fields add an empty queue; IV 2,048 or
more ends with 0x108. DELETE_IO_COMPLETION_QUEUE with an SQ mapped ends with 0x10C, else removes it. DELETE_IO_SUBMISSION_QUEUE of a queue
without commands removes it; an abortable one ends with 0x008 and the deletion waits. IDENTIFY CNS 1 sends the controller's data, GET_LOG_PAGE
0xC2 a lane's pending list. ABORT ends an abortable command with 0x007 and waits for its entry; of anything else it returns DW0 1; with eight
before it 0x103. SET_FEATURES and GET_FEATURES store and return Interrupt Coalescing; 0x10D and 0x002 refuse. ASYNCHRONOUS_EVENT_REQUEST is
held, completes with a waiting event, or ends with 0x105. FIRMWARE_COMMIT and FIRMWARE_IMAGE_DOWNLOAD end with 0x001. RETIRE_BUFFER_PAGE and
DECLARE_BUFFER_CHIP_DEAD act as the register write; a refused one ends with 0x7C6. -/
def Obligations.AdminCommandsOfAController : Prop :=
  (∀ (s : State) (seq op : Nat) (c : Command), s.dueAdmin seq op = some c → c.sq = 0 → (∀ r, seq ∉ (s.ctl r).aers) →
    (op = 0x05 → 1 ≤ c.dw 10 % 65536 → c.dw 10 % 65536 ≤ 1024 → (∀ q ∈ (s.ctl c.port).cqs, q.id ≠ c.dw 10 % 65536) →
      1 ≤ c.dw 10 / 65536 → bit (c.dw 11) 0 = true → c.ptr % (s.ctl c.port).page = 0 →
      (c.dw 11 / 65536 < 2048 → ∃ t, exec (.createIoCompletionQueue seq) s = .next t ∧ t.endedWith seq 0 0 ∧ (t.ctl c.port).cqs =
        (s.ctl c.port).cqs ++ [⟨c.dw 10 % 65536, c.dw 10 / 65536 + 1, c.ptr, c.dw 11 / 65536, bit (c.dw 11) 1, 0, 0, true⟩]) ∧
      (2048 ≤ c.dw 11 / 65536 → ∃ t, exec (.createIoCompletionQueue seq) s = .next t ∧ t.endedWith seq 0x108 0 ∧
        (t.ctl c.port).cqs = (s.ctl c.port).cqs)) ∧
    (op = 0x01 → 1 ≤ c.dw 10 % 65536 → c.dw 10 % 65536 ≤ 1024 → (∀ q ∈ (s.ctl c.port).sqs, q.id ≠ c.dw 10 % 65536) →
      1 ≤ c.dw 11 / 65536 → (∃ q ∈ (s.ctl c.port).cqs, q.id = c.dw 11 / 65536) → 1 ≤ c.dw 10 / 65536 → bit (c.dw 11) 0 = true →
      c.ptr % (s.ctl c.port).page = 0 → ∃ t, exec (.createIoSubmissionQueue seq) s = .next t ∧ t.endedWith seq 0 0 ∧ (t.ctl c.port).sqs =
        (s.ctl c.port).sqs ++ [⟨c.dw 10 % 65536, c.dw 10 / 65536 + 1, c.ptr, c.dw 11 / 65536, bits (c.dw 11) 2 1, 0, 0⟩]) ∧
    (op = 0x04 → c.dw 10 % 65536 ≠ 0 → (∃ q ∈ (s.ctl c.port).cqs, q.id = c.dw 10 % 65536) →
      ((∃ q ∈ (s.ctl c.port).sqs, q.cq = c.dw 10 % 65536) → ∃ t, exec (.deleteIoCompletionQueue seq) s = .next t ∧
        t.endedWith seq 0x10C 0 ∧ (t.ctl c.port).cqs = (s.ctl c.port).cqs) ∧
      ((∀ q ∈ (s.ctl c.port).sqs, q.cq ≠ c.dw 10 % 65536) → ∃ t, exec (.deleteIoCompletionQueue seq) s = .next t ∧
        t.endedWith seq 0 0 ∧ (t.ctl c.port).cqs = (s.ctl c.port).cqs.filter (·.id != c.dw 10 % 65536))) ∧
    (op = 0x00 → c.dw 10 % 65536 ≠ 0 → (∃ q ∈ (s.ctl c.port).sqs, q.id = c.dw 10 % 65536) →
      ((∀ d ∈ s.hif.cmds, d.port = c.port → d.sq ≠ c.dw 10 % 65536) → ∃ t, exec (.deleteIoSubmissionQueue seq) s = .next t ∧
        t.endedWith seq 0 0 ∧ ∀ q ∈ (t.ctl c.port).sqs, q.id ≠ c.dw 10 % 65536) ∧
      (∀ d ∈ s.hif.cmds, s.cmd d.seq = some d → d.port = c.port → d.sq = c.dw 10 % 65536 → d.sq < 0xFFFD → d.abortable = true →
        (∀ r, d.seq ∉ (s.ctl r).aers) → (∀ k ∈ s.hif.cmds, k.sq = d.sq → k.seq ≠ seq) → ∃ t e,
        exec (.deleteIoSubmissionQueue seq) s = .next t ∧ t.endedWith d.seq 0x008 0 ∧ t.cmd seq = some e ∧ e.ended = false ∧
        d.seq ∈ e.waitFor)) ∧
    (op = 0x06 → c.ptrStatus = 0 → (c.dw 10 % 256 = 1 → ∃ t, exec (.identify seq .ok) s = .next t ∧ t.endedWith seq 0 0 ∧
        t.out = .hostData c.port seq (s.identifyController c.port) :: s.out) ∧
      (4 ≤ c.dw 10 % 256 → ∃ t, exec (.identify seq .ok) s = .next t ∧ t.endedWith seq 0x002 0 ∧ t.out = s.out)) ∧
    (op = 0x02 → c.ptrStatus = 0 → c.dw 12 = 0 → c.dw 13 = 0 → c.dw 11 % 65536 = 0 → c.dw 10 % 256 = 0xC2 → c.dw 10 < 2 ^ 32 →
      s.used (bits (c.dw 10) 14 8) = true → (c.dw 10 / 65536 + 1) * 4 ≤ (s.pendingLog (bits (c.dw 10) 14 8)).length → ∃ t,
      exec (.getLogPage seq .ok) s = .next t ∧ t.endedWith seq 0 0 ∧ t.out = .hostData c.port seq
        ((s.pendingLog (bits (c.dw 10) 14 8)).take ((c.dw 10 / 65536 + 1) * 4)) :: s.out ∧ t.lanes = s.lanes) ∧
    (op = 0x02 → c.dw 10 % 256 = 0xC5 → ∃ t, exec (.getLogPage seq .ok) s = .next t ∧ t.endedWith seq 0x109 0 ∧ t.out = s.out) ∧
    (op = 0x08 → (s.hif.cmds.filter fun d => d.port == c.port && d.sq == 0 && d.opcode == 0x08 && fetchedBefore d.seq seq).length < 8 →
      (∀ d, s.hif.cmds.find? (fun d => d.port == c.port && d.sq == c.dw 10 % 65536 && d.cid == c.dw 10 / 65536 && d.seq != seq && !d.isAta)
          = some d → d.sq < 0xFFFD → s.cmd d.seq = some d →
        (d.abortable = true → (∀ r, r ≠ c.port → d.seq ∉ (s.ctl r).aers) → ∃ t e, exec (.abort seq) s = .next t ∧ t.endedWith d.seq 0x007 0 ∧
          t.cmd seq = some e ∧ e.waitFor = [d.seq] ∧ e.ended = false ∧ t.media = s.media) ∧
        (d.abortable = false → ∃ t, exec (.abort seq) s = .next t ∧ t.endedWith seq 0 1 ∧ t.media = s.media)) ∧
      ((∀ d ∈ s.hif.cmds, ¬ (d.port = c.port ∧ d.sq = c.dw 10 % 65536 ∧ d.cid = c.dw 10 / 65536 ∧ d.seq ≠ seq ∧ d.isAta = false)) → ∃ t,
        exec (.abort seq) s = .next t ∧ t.endedWith seq 0 1)) ∧
    (op = 0x08 → 8 ≤ (s.hif.cmds.filter fun d => d.port == c.port && d.sq == 0 && d.opcode == 0x08 && fetchedBefore d.seq seq).length →
      ∃ t, exec (.abort seq) s = .next t ∧ t.endedWith seq 0x103 0) ∧
    (op = 0x09 → c.dw 10 % 256 = 0x08 → (bit (c.dw 10) 31 = false → ∃ t, exec (.setFeatures seq .ok []) s = .next t ∧
        t.endedWith seq 0 0 ∧ (t.ctl c.port).coalescing = c.dw 11 % 65536 ∧ (t.ctl c.port).sqs = (s.ctl c.port).sqs) ∧
      (bit (c.dw 10) 31 = true → ∃ t, exec (.setFeatures seq .ok []) s = .next t ∧ t.endedWith seq 0x10D 0 ∧ t.cache = s.cache)) ∧
    (op = 0x09 → c.dw 10 % 256 = 0x13 → ∃ t, exec (.setFeatures seq .ok []) s = .next t ∧ t.endedWith seq 0x002 0 ∧ t.cache = s.cache) ∧
    (op = 0x0A → c.dw 10 % 256 = 0x08 → (bits (c.dw 10) 10 8 = 0 → ∃ t, exec (.getFeatures seq .ok) s = .next t ∧
        t.endedWith seq 0 (s.ctl c.port).coalescing) ∧
      (bits (c.dw 10) 10 8 = 3 → ∃ t, exec (.getFeatures seq .ok) s = .next t ∧ t.endedWith seq 0 4)) ∧
    (op = 0x0C → ((s.ctl c.port).aers.length < 4 → (s.ctl c.port).asyncPending = [] → ∃ t, exec (.asynchronousEventRequest seq) s = .next t ∧
        (t.ctl c.port).aers = (s.ctl c.port).aers ++ [seq] ∧ t.out = s.out) ∧
      (∀ ty info dw0 rest, (s.ctl c.port).aers.length < 4 → (s.ctl c.port).asyncPending = (ty, info, dw0) :: rest → ∃ t,
        exec (.asynchronousEventRequest seq) s = .next t ∧ t.endedWith seq 0 dw0 ∧ (t.ctl c.port).asyncPending = rest) ∧
      (4 ≤ (s.ctl c.port).aers.length → ∃ t, exec (.asynchronousEventRequest seq) s = .next t ∧ t.endedWith seq 0x105 0)) ∧
    (op = 0x10 → ∃ t, exec (.firmwareCommit seq) s = .next t ∧ t.endedWith seq 0x001 0 ∧ t.flash = s.flash) ∧
    (op = 0x11 → ∃ t, exec (.firmwareImageDownload seq) s = .next t ∧ t.endedWith seq 0x001 0 ∧ t.flash = s.flash) ∧
    (op = 0xC0 → s.get Reg.BUF_RETIRE_REQ_GO = 0 →
      (s.retireRefused (c.dw 10 % 2 ^ 23) = true → ∃ t, exec (.retireBufferPage seq) s = .next t ∧ t.endedWith seq 0x7C6 0 ∧
        t.get Reg.BUF_RETIRE_REQ_ERR = 1 ∧ t.buf = s.buf) ∧
      (s.retireRefused (c.dw 10 % 2 ^ 23) = false → ∃ t e, exec (.retireBufferPage seq) s = .next t ∧ t.cmd seq = some e ∧ e.ended = false ∧
        t.buf.toRetire = s.buf.toRetire ++ [(c.dw 10 % 2 ^ 23, true)])) ∧
    (op = 0xC4 → c.dw 10 % 8 < 5 →
      (s.deadRefused (2 * bits (c.dw 10) 4 4 + bits (c.dw 10) 5 5) (c.dw 10 % 8) = true → ∃ t,
        exec (.declareBufferChipDead seq) s = .next t ∧ t.endedWith seq 0x7C6 0 ∧ t.buf = s.buf) ∧
      (s.groupFitted (2 * bits (c.dw 10) 4 4 + bits (c.dw 10) 5 5) = true →
        s.groupState (2 * bits (c.dw 10) 4 4 + bits (c.dw 10) 5 5) = 0 → s.buf.switching = [] → ∃ t,
        exec (.declareBufferChipDead seq) s = .next t ∧ t.endedWith seq 0 0 ∧
        t.buf = { s.buf with switching := [(2 * bits (c.dw 10) 4 4 + bits (c.dw 10) 5 5, c.dw 10 % 8)] })))

/-! ## Ordering, cache and administration (chapter 16) -/

/-- In native mode. READ, VERIFY, WRITE, WRITE_ZEROES and WRITE_UNCORRECTABLE that an admission check refuses end with its status and
change no cache, media or output. A READ or READ_RESOLVE that no overlapping write fetched earlier holds up, in LBA format 0 with every
block cached, none listed and no page poisoned, sends exactly the cached data in LBA order and ends with success; VERIFY ends so without
data. A block not cached is read from its PBA. A READ behind an overlapping write waits. A WRITE, WRITE_ZEROES or WRITE_COMMIT with room, no
earlier overlapping write and no earlier overlapping read still to resolve gives each of its blocks its content, leaves every other extent
and media, cuts its blocks out of the uncorrectable list and ends with success; a WRITE behind one changes no extent. WRITE_UNCORRECTABLE
adds its range, or fails where that makes more than 65,536 ranges. -/
def Obligations.ReadsAndWritesKeepOrder : Prop :=
  (∀ (s : State) (seq st : Nat) (c : Command) (x : Xfer) (b : BufAccess) (l : List HostBlock), st ≠ 0 →
    (∀ i op w d, (i, op, w, d) ∈ [(Instr.read seq x b, opRead, false, true), (.verify seq b, opVerify, false, false),
        (.write seq l x, opWrite, true, true), (.writeZeroes seq, opWriteZeroes, true, false),
        (.writeUncorrectable seq, opWriteUnc, true, false)] → s.dueIo seq op = some c → s.admitBlocks c w d = st →
      ∃ t, exec i s = .next t ∧ t.endedWith seq st 0 ∧ t.out = s.out ∧ t.media = s.media ∧ t.cache = s.cache ∧ t.lanes = s.lanes)) ∧
  (∀ (s : State) (seq : Nat) (c : Command) (b : BufAccess), s.boot.compat = false → (s.ns c.nsid).lbaf = 0 →
    s.listedIn c.nsid c.slba c.nlb = none → s.buf.poisoned = [] → s.buf.overflow = [] → s.bufDown = false → c.error = 0 →
    (s.writeBefore c = false → (∀ k ∈ s.blocksOf c, (s.extent c.nsid k).isSome = true) →
      (∀ i, i = Instr.read seq .ok b ∧ s.dueIo seq opRead = some c ∧ s.admitBlocks c false true = 0 ∨
          i = .readResolve seq b ∧ s.cmd seq = some c ∧ c.isRead = true ∧ c.sq < 0xFFFD ∧ c.opcode = opRead ∧ c.started = true ∧
            c.resolved = false ∧ c.ended = false ∧ c.xfer = 0 →
        ∃ t, exec i s = .next t ∧ t.endedWith seq 0 0 ∧ t.media = s.media ∧ t.scheds = s.scheds ∧ t.out = .hostPart c.port seq
          ((s.blocksOf c).map fun k => (k, ((s.extent c.nsid k).map (·.data.data)).getD [], [])) :: (s.replays b.replays).out) ∧
      (s.dueIo seq opVerify = some c → s.admitBlocks c false false = 0 → ∃ t, exec (.verify seq b) s = .next t ∧
        t.endedWith seq 0 0 ∧ t.out = (s.replays b.replays).out ∧ t.media = s.media)) ∧
    (s.writeBefore c = false → s.cache.selfTest = none → (∀ n, (s.lane n).rcv.ladder = none) → s.dueIo seq opRead = some c →
      s.admitBlocks c false true = 0 → (∀ k ∈ s.blocksOf c, s.extent c.nsid k = none → ∃ n p, s.blockAt c.nsid k = some (n, p) ∧
        s.mediaStatus n = 0) → ∃ t, exec (.read seq .ok b) s = .next t ∧ t.media = s.media ∧
        ∀ k ∈ s.blocksOf c, s.extent c.nsid k = none → ∀ n p, s.blockAt c.nsid k = some (n, p) →
          ∃ o ∈ t.sched ⟨n % 4, Nat.mod_lt _ (by decide)⟩, o.write = false ∧ seq ∈ o.owners ∧ ⟨c.nsid, k, p⟩ ∈ o.blocks) ∧
    (s.writeBefore c = true → s.dueIo seq opRead = some c → s.admitBlocks c false true = 0 → c.resolved = false → ∃ t,
      exec (.read seq .ok b) s = .next t ∧ t.out = s.out ∧ t.cache = s.cache ∧ t.scheds = s.scheds ∧
      ∃ d, t.cmd seq = some d ∧ d.resolved = false ∧ d.started = true ∧ d.phase = c.phase)) ∧
  (∀ (s : State) (seq : Nat) (c : Command) (l : List HostBlock), s.boot.compat = false → (s.ns c.nsid).lbaf = 0 → c.resolved = false →
    (s.writeBefore c = false → s.readBefore c = false → s.roomFor c → (cutRanges c.nsid c.slba c.nlb s.cache.wunc).length ≤ 65536 →
      (s.dueIo seq opWrite = some c → s.admitBlocks c true true = 0 → ∃ t, exec (.write seq l .ok) s = .next t ∧
        t.endedWith seq 0 0 ∧ t.media = s.media ∧ t.out = s.out ∧
        s.tookContent t c .dirty fun k => ⟨padTo 4096 ((l.getD (k - c.slba) ⟨[], []⟩).data), zeros 8⟩) ∧
      (s.dueIo seq opWriteZeroes = some c → s.admitBlocks c true false = 0 → ∃ t, exec (.writeZeroes seq) s = .next t ∧
        t.endedWith seq 0 0 ∧ t.media = s.media ∧ s.tookContent t c .zero fun _ => ⟨zeros 4096, zeros 8⟩) ∧
      (s.cmd seq = some c → c.opcode = opWrite → c.isIo = true → c.sq < 0xFFFD → c.transferred = true → c.ended = false → ∃ t,
        exec (.writeCommit seq) s = .next t ∧ t.endedWith seq 0 0 ∧ t.media = s.media ∧
        s.tookContent t c .dirty fun k => ⟨(c.blocks.getD (k - c.slba) ⟨zeros 4096, zeros 8⟩).data, zeros 8⟩)) ∧
    (s.writeBefore c = true ∨ s.readBefore c = true → s.dueIo seq opWrite = some c → s.admitBlocks c true true = 0 → ∃ t,
      exec (.write seq l .ok) s = .next t ∧ t.cache = s.cache ∧ t.media = s.media ∧ ∃ d, t.cmd seq = some d ∧ d.resolved = false) ∧
    (s.writeBefore c = false → s.readBefore c = false → s.dueIo seq opWriteUnc = some c → s.admitBlocks c true false = 0 → ∃ t,
      exec (.writeUncorrectable seq) s = .next t ∧ t.cache.extents = s.cache.extents ∧ t.media = s.media ∧
      ((addRange c.nsid c.slba c.nlb s.cache.wunc).length ≤ 65536 → t.endedWith seq 0 0 ∧
        t.cache.wunc = addRange c.nsid c.slba c.nlb s.cache.wunc) ∧
      (65536 < (addRange c.nsid c.slba c.nlb s.cache.wunc).length → t.endedWith seq 0x002 0 ∧ t.cache.wunc = s.cache.wunc)))

/-- FLUSH with nothing dirty ends with success; else, where every dirty block can be written, it waits for exactly the dirty versions of its
namespaces, and where one cannot, it ends with that lane's status. DESTAGE from DESTAGE_LOW on, and IDLE_DESTAGE_TIMEOUT on an idle host, give the lane of a dirty extent a write of its content
at its PBA, where the write window is open; with the window closed no lane gets an operation. MEDIA_OPERATION_END of a write whose sectors
have all landed, with no ladder running, leaves the lane without it, makes exactly the extents of its versions clean and keeps every
extent's content; of a read with every block delivered and nobody waiting it leaves the lane without it, and media as it was but for a
parity rebuild. The scheduler chooses no operation that an earlier one on the same
sector holds back, and where an urgent or aged one is free, the oldest of those. RECALIBRATION of a ready lane's head keeps a refined value in
range, and leaves media and every other lane. -/
def Obligations.FlushDestageAndSchedulers : Prop :=
  (∀ (s : State) (seq : Nat) (c : Command), s.dueIo seq opFlush = some c → s.admissionStatus c = 0 →
    (∀ k ∈ s.nsNamed c.nsid, (s.ns k).allows (s.ctl c.port).hostId true = true) → (∀ r, seq ∉ (s.ctl r).aers) →
    (s.dirtyVersions c.nsid = [] → ∃ t, exec (.flush seq) s = .next t ∧ t.endedWith seq 0 0 ∧ t.cache = s.cache ∧ t.media = s.media) ∧
    (s.dirtyVersions c.nsid ≠ [] → s.stuckStatus (s.dirtyVersions c.nsid) = 0 → ∃ t d, exec (.flush seq) s = .next t ∧
      t.cmd seq = some d ∧ d.toMedia = s.dirtyVersions c.nsid ∧ d.ended = false ∧ t.cache.extents = s.cache.extents ∧
      t.media = s.media) ∧
    (∀ st, s.stuckStatus (s.dirtyVersions c.nsid) = st → st ≠ 0 → ∃ t, exec (.flush seq) s = .next t ∧ t.endedWith seq st 0 ∧
      t.cache = s.cache ∧ t.media = s.media)) ∧
  (∀ (s : State) (b : BufAccess) (x : Extent) (n p : Nat), x ∈ s.cache.extents → s.extent x.ns x.lba = some x → x.kind ≠ .clean →
    s.blockAt x.ns x.lba = some (n, p) → s.buf.poisoned = [] → s.buf.overflow = [] → s.bufDown = false → s.buf.stopDue = false → s.cache.selfTest = none →
    s.shutState = 0 →
    (s.get Reg.KLN_STATUS_WRITE_OPEN = 1 → s.mediaStatus n = 0 → s.inFlight x.ns x.lba x.version = false →
      (∀ blocks idle, (x.ns, x.lba) ∈ blocks → 1 ≤ s.destageBand → ∃ t, exec (.destage blocks idle b) s = .next t ∧
        t.media = s.media ∧ t.cache.extents = s.cache.extents ∧ ∃ o ∈ t.sched ⟨n % 4, Nat.mod_lt _ (by decide)⟩, o.write = true ∧
          ∃ y ∈ o.sectors, y.pba = p ∧ y.data = x.data.data ∧ y.tag = x.data.tag ∧ y.key = s.blockKey x.ns x.lba) ∧
      (s.hif.cmds = [] → ∃ t, exec (.idleDestageTimeout b) s = .next t ∧ t.media = s.media ∧ t.cache.extents = s.cache.extents ∧
        ∃ o ∈ t.sched ⟨n % 4, Nat.mod_lt _ (by decide)⟩, o.write = true ∧ ∃ y ∈ o.sectors, y.pba = p ∧ y.data = x.data.data)) ∧
    (s.get Reg.KLN_STATUS_WRITE_OPEN = 0 → ∀ blocks idle, ∃ t, exec (.destage blocks idle b) s = .next t ∧ t.scheds = s.scheds ∧
      t.cache.extents = s.cache.extents)) ∧
  (∀ (s : State) (n : Lane) (o : MediaOp) (gaveUp : Bool), (s.sched n).head? = some o → o.id < s.cache.nextOp →
    (o.write = true → (s.lane n).rcv.ladder = none → (∀ x ∈ o.sectors, x.pba ∈ o.landed) → ∃ t, exec (.mediaOperationEnd n gaveUp) s = .next t ∧
      (∀ p ∈ t.sched n, p.id ≠ o.id) ∧ (s.buf.stopDue = false → s.hif.sata.stopDue = false → t.media = s.media) ∧
      t.cache.extents = s.cache.extents.map fun x =>
        if (x.ns, x.lba, x.version) ∈ o.versionsWhere true then { x with kind := .clean } else x) ∧
    (o.write = false → s.mediaStatus n.val = 0 → (s.lane n).rcv.ladder = none → o.owners = [] → s.cache.selfTest = none →
      (∀ b ∈ o.blocks, b.pba ∈ (s.lane n).chan.delivered) → ∃ t, exec (.mediaOperationEnd n gaveUp) s = .next t ∧
      (∀ p ∈ t.sched n, p.id ≠ o.id) ∧ (o.rebuild = none → t.media = s.media) ∧ t.hif = s.hif)) ∧
  (∀ (s : State) (n : Lane) (o : MediaOp), s.chooseOp n = some o → o ∈ s.sched n ∧ blockedBy ((s.sched n).take 4096) o = false ∧
    ∀ p ∈ (s.sched n).take 4096, blockedBy ((s.sched n).take 4096) p = false →
      (p.urgent = true ∨ s.schedAgeMs < s.crn.elapsed - p.since) →
        (o.urgent = true ∨ s.schedAgeMs < s.crn.elapsed - o.since) ∧ o.id ≤ p.id) ∧
  (∀ (s : State) (n : Lane) (h z o v : Nat), s.used n.val = true → headFitted (s.section secGeometry) h = true →
    headLane (s.section secGeometry) h = n.val → s.get (laneBootField n.val) = 4 → refinable o v = true →
    (zoneEntry (s.section secZones) h z).isSome = true → ∃ t, exec (.recalibration n h [(z, o, v)]) s = .next t ∧
      (h, z, o, v) ∈ (t.lane n).chan.refined ∧ t.media = s.media ∧ t.regs = s.regs ∧ ∀ m, m ≠ n → t.lane m = s.lane m)

/-! ## DV-40 compatibility mode (chapter 17) -/

/-- SATA_LINK_UP from the end of PROBE shows link and generation, and sends the signature where BULK has ended outside hold; SATA_LINK_DOWN
clears them. COMRESET and SOFTWARE_RESET end every ATA command without a completion, keep cache, media and both SCT timers, unlock the queue
and send the signature after BULK outside hold (here where no write waits with its data in the buffer). A queued read beyond the capacity ends
with IDNF, ends every other tag, and locks the queue with log 0x10 holding it; while locked, other commands end with ABRT and no effect; a
read of log 0x10 returns tag, status, error and LBA and unlocks. A command that is not queued, arriving among tags, ends with ABRT and every
tag with it; no sector format changes. -/
def Obligations.SataLinkAndQueueRules : Prop :=
  (∀ (s : State) (gen : Nat), s.powered = true → s.boot.compat = true → s.boot.density ≠ 0 → s.get Reg.HIF_SATA_LINK_UP = 0 →
    s.get Reg.HIF_SATA_SIG_SENT = 0 → s.get Reg.SBD_STATUS_HOST_LINK_LOST = 0 → 1 ≤ gen → gen ≤ 3 → ∃ t, exec (.sataLinkUp gen) s = .next t ∧
      t.get Reg.HIF_SATA_LINK_UP = 1 ∧ t.get Reg.HIF_SATA_GEN = gen ∧ t.onlyHost s ∧
      t.get Reg.HIF_SATA_SIG_SENT = (if s.boot.bulkEnded = true ∧ s.held = false then 1 else 0) ∧
      (s.boot.bulkEnded = true → s.held = false → t.out.head? = some .signatureFis)) ∧
  (∀ s : State, s.get Reg.HIF_SATA_LINK_UP = 1 → ∃ t, exec .sataLinkDown s = .next t ∧ t.get Reg.HIF_SATA_LINK_UP = 0 ∧
    t.get Reg.HIF_SATA_GEN = 0 ∧ t.get Reg.HIF_SATA_SIG_SENT = 0 ∧ t.onlyHost s) ∧
  (∀ (s : State) (i : Instr), i ∈ [Instr.comreset, .softwareReset] → s.powered = true → s.boot.compat = true → s.boot.density ≠ 0 →
    s.get Reg.HIF_SATA_LINK_UP = 1 → s.cache.selfTest = none → (∀ r, (s.ctl r).aers = []) →
    (∀ c ∈ s.hif.cmds, c.isAta = true → ¬ (c.isWrite = true ∧ c.transferred = true)) → ∃ t, exec i s = .next t ∧
      (∀ c ∈ t.hif.cmds, c.isAta = false) ∧ t.cache = s.cache ∧ t.media = s.media ∧ t.flash = s.flash ∧
      t.hif.sata.readTimer = s.hif.sata.readTimer ∧ t.hif.sata.writeTimer = s.hif.sata.writeTimer ∧
      t.get Reg.HIF_SATA_NCQ_LOCK = 0 ∧ t.hif.sata.ncqError = none ∧ t.get Reg.HIF_SATA_TAGS = 0 ∧
      t.out.filter Output.completes = s.out.filter Output.completes ∧
      t.get Reg.HIF_SATA_SIG_SENT = (if s.boot.bulkEnded = true ∧ s.held = false then 1 else 0) ∧
      (s.boot.bulkEnded = true → s.held = false → t.out.head? = some .signatureFis)) ∧
  (∀ (s : State) (f : AtaFis) (x : Xfer) (b : BufAccess) (c : Command),
    c = s.ataCommand 0x60 0 opRead (fisExt f).1 (fisExt f).2 (f.tag % 32) false → s.ataAccepts c → s.sataSectors < c.slba + c.nlb → ∃ t,
      exec (.readFpdmaQueued f x b) s = .next t ∧ (∀ d ∈ t.hif.cmds, d.queuedAta = false) ∧ t.get Reg.HIF_SATA_NCQ_LOCK = 1 ∧
      t.hif.sata.ncqError = some (f.tag % 32, 0x51, 0x10, max c.slba s.sataSectors) ∧ t.cache = s.cache ∧ t.media = s.media ∧
      t.out.filter Output.completes = .setBitsFis 0x51 0x10 [f.tag % 32] :: .registerFis 0x50 0 0 c.slba :: s.out.filter Output.completes) ∧
  (∀ (s : State) (f : AtaFis) (b : BufAccess), s.ataOpen = true →
    (s.get Reg.HIF_SATA_NCQ_LOCK = 1 → ∀ i ∈ [Instr.flushCache, .identifyDevice .ok, .readDma f .ok b, .readFpdmaQueued f .ok b,
        .standbyImmediate, .checkPowerMode, .readCounters f .ok], ∃ t lba, exec i s = .next t ∧ t.out = .registerFis 0x51 0x04 0 lba :: s.out ∧
        t.hif.cmds = s.hif.cmds ∧ t.regs = (s.wake (.hif 0)).regs ∧ t.scheds = s.scheds ∧ t.lanes = s.lanes ∧ t.onlyHost s) ∧
    (s.get Reg.HIF_SATA_NCQ_LOCK = 0 → (∃ d ∈ s.hif.cmds, d.queuedAta = true) → ∀ i ∈ [Instr.flushCache, .identifyDevice .ok,
        .readDma f .ok b, .standbyImmediate, .checkPowerMode, .setSectorFormat f], ∃ t lba, exec i s = .next t ∧
        t.out = .registerFis 0x51 0x04 0 lba :: s.out ∧ t.hif.cmds = s.hif.cmds.filter (fun d => !d.queuedAta) ∧
        t.get Reg.HIF_SATA_TAGS = 0 ∧ t.get Reg.HIF_SATA_SECTOR_4KN = s.get Reg.HIF_SATA_SECTOR_4KN ∧ t.onlyHost s) ∧
    (∀ tag st err lba, s.get Reg.HIF_SATA_NCQ_LOCK = 1 → s.lko.fatal = false → (∀ d ∈ s.hif.cmds, d.seq ≠ s.hif.nextSeq ∧ d.isAta = false) →
      f.lba = 0x10 → f.count = 1 → s.hif.sata.ncqError = some (tag, st, err, lba) → tag < 32 → st < 256 → err < 256 → ∃ t l,
      exec (.readLogExt f .ok) s = .next t ∧ .pioSetupFis 0x50 0 ∈ t.out ∧ .sataData l ∈ t.out ∧ t.get Reg.HIF_SATA_NCQ_LOCK = 0 ∧
      t.hif.sata.ncqError = none ∧ u8 l 0 = tag ∧ u8 l 2 = st ∧ u8 l 3 = err ∧ field l 4 3 = lba % 2 ^ 24))

/-- In either sector size, with 28-bit and 48-bit addresses. A READ that no earlier write holds up, in capacity, with every block cached,
none listed and no page poisoned, sends exactly the cached sectors and ends as its kind does: a PIO read with a PIO Setup FIS, a DMA read with a
Register FIS, a queued read with its tag. READ VERIFY ends so without data. A listed sector ends a READ with UNC. Beyond the capacity reads,
verifies and writes end with IDNF. A WRITE with room, behind no overlapping command, commits its sectors merged over the cached rest of their blocks, changes no other block and ends;
WRITE DMA FUA EXT keeps waiting for its block versions to reach media. A CRC error ends a READ or WRITE with ICRC and ABRT, is counted, and changes
no cache. WRITE UNCORRECTABLE EXT adds its range, and with another FEATURES value ends with ABRT. -/
def Obligations.AtaSectorCommands : Prop :=
  (∀ (s : State) (f : AtaFis) (b : BufAccess) (i : Instr) (op nvme tag : Nat) (a : Nat × Nat) (c : Command),
    (i, op, nvme, a, tag) ∈ [(Instr.readSectors f .ok b, 0x20, opRead, fisShort f, 0xFFFF), (.readSectorsExt f .ok b, 0x24, opRead, fisExt f, 0xFFFF),
      (.readDmaExt f .ok b, 0x25, opRead, fisExt f, 0xFFFF), (.readDma f .ok b, 0xC8, opRead, fisShort f, 0xFFFF),
      (.readFpdmaQueued f .ok b, 0x60, opRead, fisExt f, f.tag % 32), (.readVerifySectors f b, 0x40, opVerify, fisShort f, 0xFFFF),
      (.readVerifySectorsExt f b, 0x42, opVerify, fisExt f, 0xFFFF)] →
    c = s.ataCommand op 0 nvme a.1 a.2 tag false → s.ataAccepts c → s.writeBefore c = false → s.buf.poisoned = [] →
    s.buf.overflow = [] → s.bufDown = false → (s.ns 1).lbaf = 0 → (∀ k ∈ s.blocksOf c, (s.extent 1 k).isSome = true) →
    (c.slba + c.nlb ≤ s.sataSectors → s.listedIn 1 c.slba c.nlb = none → ∃ t, exec i s = .next t ∧ t.hif.cmds = s.hif.cmds ∧
      t.media = s.media ∧ t.scheds = s.scheds ∧ t.buf = s.buf ∧ (b.replays = 0 → t.out = ataEnding c (if nvme = opVerify then [] else
        [.sataData (if s.lbaUnit = 8 then (List.range c.nlb).flatMap fun j =>
            ((((s.extent 1 ((c.slba + j) / 8)).map (·.data.data)).getD []).drop (512 * ((c.slba + j) % 8))).take 512
          else (List.range c.nlb).flatMap fun j => ((s.extent 1 (c.slba + j)).map (·.data.data)).getD [])]) ++ s.out)) ∧
    (∀ l, c.slba + c.nlb ≤ s.sataSectors → c.queuedAta = false → s.listedIn 1 c.slba c.nlb = some l → ∃ t, exec i s = .next t ∧
      (b.replays = 0 → t.out = .registerFis 0x51 0x40 0 l :: s.out) ∧ t.hif.cmds = s.hif.cmds ∧ t.media = s.media) ∧
    (c.queuedAta = false → s.sataSectors < c.slba + c.nlb → ∃ t, exec i s = .next t ∧ s.ataDone t
      [.registerFis 0x51 0x10 0 (max c.slba s.sataSectors)] ∧ t.cache = s.cache)) ∧
  (∀ (s : State) (f : AtaFis) (b : BufAccess) (d : List HostBlock), (∀ a, a = fisExt f → s.ataTakes → a.1 + a.2 ≤ s.sataSectors →
    s.get Reg.HIF_SATA_CRC_COUNT < 2 ^ 32 - 1 →
    (s.writeBefore (s.ataCommand 0x25 0 opRead a.1 a.2 0xFFFF false) = false → s.buf.poisoned = [] → s.buf.overflow = [] →
      s.bufDown = false → s.listedIn 1 a.1 a.2 = none → (∀ k ∈ s.blocksOf (s.ataCommand 0x25 0 opRead a.1 a.2 0xFFFF false),
        (s.extent 1 k).isSome = true) → ∃ t, exec (.readDmaExt f .crcError b) s = .next t ∧
        (b.replays = 0 → t.out = .registerFis 0x51 0x84 0 0 :: s.out) ∧ t.hif.cmds = s.hif.cmds ∧
        t.get Reg.HIF_SATA_CRC_COUNT = s.get Reg.HIF_SATA_CRC_COUNT + 1) ∧
    (∃ t, exec (.writeDmaExt f d .crcError) s = .next t ∧ s.ataDone t [.registerFis 0x51 0x84 0 0] ∧ t.cache = s.cache ∧
      t.get Reg.HIF_SATA_CRC_COUNT = s.get Reg.HIF_SATA_CRC_COUNT + 1))) ∧
  (∀ (s : State) (f : AtaFis) (d : List HostBlock) (i : Instr) (op tag : Nat) (a : Nat × Nat) (fua : Bool) (c : Command),
    (i, op, a, tag, fua) ∈ [(Instr.writeSectors f d .ok, 0x30, fisShort f, 0xFFFF, false), (.writeSectorsExt f d .ok, 0x34, fisExt f, 0xFFFF, false),
      (.writeDmaExt f d .ok, 0x35, fisExt f, 0xFFFF, false), (.writeDma f d .ok, 0xCA, fisShort f, 0xFFFF, false),
      (.writeDmaFuaExt f d .ok, 0x3D, fisExt f, 0xFFFF, true), (.writeFpdmaQueued f d .ok, 0x61, fisExt f, f.tag % 32, f.fua)] →
    c = s.ataCommand op 0 opWrite a.1 a.2 tag fua → s.ataAccepts c →
    (c.queuedAta = false → s.sataSectors < c.slba + c.nlb → ∃ t, exec i s = .next t ∧ s.ataDone t
      [.registerFis 0x51 0x10 0 (max c.slba s.sataSectors)] ∧ t.cache = s.cache) ∧
    (c.slba + c.nlb ≤ s.sataSectors → s.writeBefore c = false → s.readBefore c = false → (s.ns 1).lbaf = 0 → (s.lbaUnit = 8 ∨ s.lbaUnit = 1) →
      (∀ k ∈ s.partialBlocks c, (s.extent 1 k).isSome = true) → (cutRanges 1 c.slba c.nlb s.cache.wunc).length ≤ 65536 →
      (fua = false → s.roomFor c → ∃ t, exec i s = .next t ∧ t.hif.cmds = s.hif.cmds ∧ t.media = s.media ∧ t.out = ataEnding c [] ++ s.out ∧
        s.tookContent t c .dirty fun k => if s.lbaUnit = 8 then
          ⟨(List.range 8).flatMap fun j => s.sectorAfter c d (8 * k + j), zeros 8⟩
          else ⟨padTo 4096 ((d.getD (k - c.slba) ⟨[], []⟩).data), zeros 8⟩) ∧
      (fua = true → s.roomFor { c with cdw := [c.cdw.getD 0 0, c.cdw.getD 1 0, c.cdw.getD 2 0 % 65536] } →
        s.get Reg.KLN_STATUS_WRITE_OPEN = 1 → s.shutState = 0 → s.devState = 0 →
        (∀ k ∈ s.blocksOf c, ∃ n p, s.blockAt 1 k = some (n, p) ∧ s.mediaStatus n = 0) → ∃ t e, exec i s = .next t ∧
          t.cmd c.seq = some e ∧ e.ended = false ∧ e.toMedia.map (fun v => (v.1, v.2.1)) = (s.blocksOf c).map (fun k => (1, k)) ∧
          (∀ k ∈ s.blocksOf c, ∃ x, t.extent 1 k = some x ∧ x.kind = .dirty ∧ (1, k, x.version) ∈ e.toMedia) ∧
          t.media = s.media))) ∧
  (∀ (s : State) (f : AtaFis), s.ataTakes →
    (∀ a c, a = fisExt f → c = s.ataCommand 0x45 (f.features % 256) opWriteUnc a.1 a.2 0xFFFF false →
      f.features % 256 = 0x55 ∨ f.features % 256 = 0xAA → a.1 + a.2 ≤ s.sataSectors → s.writeBefore c = false → s.readBefore c = false →
      (addRange 1 a.1 a.2 s.cache.wunc).length ≤ 65536 → ∃ t,
      exec (.writeUncorrectableExt f) s = .next t ∧ s.ataDone t [.registerFis 0x50 0 0 (a.1 % 2 ^ 32)] ∧
      t.cache.wunc = addRange 1 a.1 a.2 s.cache.wunc ∧ t.cache.extents = s.cache.extents) ∧
    (f.features % 256 ≠ 0x55 → f.features % 256 ≠ 0xAA → ∃ t, exec (.writeUncorrectableExt f) s = .next t ∧
      s.ataDone t [.registerFis 0x51 0x04 0 0] ∧ t.cache = s.cache))

/-- FLUSH CACHE and EXT with nothing dirty end; else they wait for exactly the dirty versions. SET FEATURES 0x02 and 0x82 set the write cache,
0x82 with something dirty waits for it; transfer modes of the standard are stored, others end with ABRT; SATA features 3 and 6 are switched
(log entry 95), others end with ABRT; 0xAA and 0x55 are recorded and change nothing else of the device. EXECUTE DEVICE DIAGNOSTIC ends with code 0x01.
IDENTIFY DEVICE sends 512 bytes that add up to 0 modulo 256, with the capacity, the look-ahead bit and the sector size words. CHECK POWER MODE
answers 0x00 with the spindle stopped or starting, else 0xFF. IDLE and STANDBY set the timer; reserved periods end with ABRT. STANDBY, STANDBY
IMMEDIATE, SLEEP and the expired timer with nothing left to destage record the standby and ask for the orderly stop; else they wait for the destage.
-/
def Obligations.AtaControlCommands : Prop :=
  (∀ (s : State) (i : Instr), s.ataTakes → i ∈ [Instr.flushCache, .flushCacheExt] →
    (s.dirtyVersions 1 = [] → ∃ t, exec i s = .next t ∧ s.ataDone t [.registerFis 0x50 0 0 0] ∧ t.cache = s.cache) ∧
    (s.dirtyVersions 1 ≠ [] → s.stuckStatus (s.dirtyVersions 1) = 0 → ∃ t d, exec i s = .next t ∧ t.cmd s.hif.nextSeq = some d ∧
      d.toMedia = s.dirtyVersions 1 ∧ d.ended = false ∧ t.cache.extents = s.cache.extents ∧ t.media = s.media)) ∧
  (∀ s : State, s.ataTakes →
    (∃ t, exec .setFeaturesEnableWriteCache s = .next t ∧ s.ataDone t [.registerFis 0x50 0 0 0] ∧ t.cache = { s.cache with wce := true }) ∧
    (s.dirtyVersions 0xFFFFFFFF = [] → ∃ t, exec .setFeaturesDisableWriteCache s = .next t ∧ s.ataDone t [.registerFis 0x50 0 0 0] ∧
      t.cache = { s.cache with wce := false }) ∧
    (s.cache.wce = true → s.dirtyVersions 0xFFFFFFFF ≠ [] → s.stuckStatus (s.dirtyVersions 0xFFFFFFFF) = 0 → ∃ t d,
      exec .setFeaturesDisableWriteCache s = .next t ∧ t.cmd s.hif.nextSeq = some d ∧ d.toMedia = s.dirtyVersions 0xFFFFFFFF ∧
      d.ended = false ∧ t.cache.wce = false ∧ t.media = s.media) ∧
    (∀ m, ∃ t, exec (.setFeaturesSetTransferMode m) s = .next t ∧ t.cache = s.cache ∧
      (transferMode m = true → s.ataDone t [.registerFis 0x50 0 0 0] ∧ t.hif.sata.mode = m) ∧
      (transferMode m = false → s.ataDone t [.registerFis 0x51 0x04 0 0] ∧ t.hif.sata.mode = s.hif.sata.mode)) ∧
    (∀ k, (k = 3 ∨ k = 6 → ∃ t u, exec (.setFeaturesEnableSataFeature k) s = .next t ∧ exec (.setFeaturesDisableSataFeature k) s = .next u ∧
        s.ataDone t [.registerFis 0x50 0 0 0] ∧ s.ataDone u [.registerFis 0x50 0 0 0] ∧ k ∈ t.hif.sata.features ∧
        k ∉ u.hif.sata.features ∧ ∀ j, j ≠ k → (j ∈ t.hif.sata.features ↔ j ∈ s.hif.sata.features) ∧
          (j ∈ u.hif.sata.features ↔ j ∈ s.hif.sata.features)) ∧
      (k ≠ 3 → k ≠ 6 → ∃ t u, exec (.setFeaturesEnableSataFeature k) s = .next t ∧ exec (.setFeaturesDisableSataFeature k) s = .next u ∧
        s.ataDone t [.registerFis 0x51 0x04 0 0] ∧ s.ataDone u [.registerFis 0x51 0x04 0 0] ∧
        t.hif.sata.features = s.hif.sata.features ∧ u.hif.sata.features = s.hif.sata.features)) ∧
    (∃ t u, exec .setFeaturesEnableReadLookAhead s = .next t ∧ exec .setFeaturesDisableReadLookAhead s = .next u ∧
      s.ataDone t [.registerFis 0x50 0 0 0] ∧ s.ataDone u [.registerFis 0x50 0 0 0] ∧ t.cache = s.cache ∧ u.cache = s.cache ∧
      t.hif.sata = { s.hif.sata with lookAhead := true } ∧ u.hif.sata = { s.hif.sata with lookAhead := false }) ∧
    (∃ t, exec .executeDeviceDiagnostic s = .next t ∧ s.ataDone t [.registerFis 0x50 0x01 1 1] ∧ t.cache = s.cache) ∧
    (∃ t l, exec (.identifyDevice .ok) s = .next t ∧ s.ataDone t [.pioSetupFis 0x50 0, .sataData l] ∧ l.length = 512 ∧
      l.foldl (· + ·) 0 = 0 ∧ u64 l 200 = s.sataSectors % 2 ^ 64 ∧ bit (u16 l 170) 6 = s.hif.sata.lookAhead ∧
      bit (u16 l 170) 5 = s.cache.wce ∧ (s.lbaUnit = 8 → u16 l 212 = 0x6003 ∧ u16 l 418 = 0x4000) ∧
      (s.lbaUnit ≠ 8 → u16 l 212 = 0x5000 ∧ u16 l 234 = 0x0800 ∧ u16 l 236 = 0)) ∧
    (∃ t, exec .checkPowerMode s = .next t ∧ t.cache = s.cache ∧
      s.ataDone t [.registerFis 0x50 0 (if s.whlState ∈ [0, 1, 2, 3, 8] then 0 else 0xFF) 0]) ∧
    (∃ t, exec .idleImmediate s = .next t ∧ s.ataDone t [.registerFis 0x50 0 0 0] ∧ t.cache = s.cache) ∧
    (∀ k, ∃ t, exec (.idle k) s = .next t ∧ t.cache = s.cache ∧
      (∀ ms, standbyPeriod k = some ms → s.ataDone t [.registerFis 0x50 0 0 0] ∧ t.hif.sata.standbyMs = ms) ∧
      (standbyPeriod k = none → s.ataDone t [.registerFis 0x51 0x04 0 0] ∧ t.hif.sata.standbyMs = s.hif.sata.standbyMs)) ∧
    (∀ k, standbyPeriod k = none → ∃ t, exec (.standby k) s = .next t ∧ s.ataDone t [.registerFis 0x51 0x04 0 0] ∧
      t.hif.sata.standbyMs = s.hif.sata.standbyMs)) ∧
  (∀ (s : State) (i : Instr) (k ms : Nat), s.ataTakes → standbyPeriod k = some ms → i ∈ [Instr.standbyImmediate, .standby k, .sleep] →
    s.sched 0 = [] → (∀ r, (s.ctl r).shst ≠ 1) → (∀ n, (s.lane n).fmt.wgate = false) →
    (s.destageable = false → (∀ x ∈ s.cache.extents, x.kind = .clean) → ∃ t, exec i s = .next t ∧ .registerFis 0x50 0 0 0 ∈ t.out ∧
      t.get Reg.HIF_SATA_STANDBY = 1 ∧ t.whl.stopWanted = true ∧ t.media = s.media ∧ t.cache = s.cache ∧
      (i = .standby k → t.hif.sata.standbyMs = ms) ∧ (i = .sleep → t.hif.sata.asleep = true)) ∧
    (s.destageable = true → s.get Reg.HIF_SATA_STANDBY = 0 → ∃ t d, exec i s = .next t ∧ t.cmd s.hif.nextSeq = some d ∧ d.ended = false ∧ t.hif.sata.stopDue = true ∧
      t.out = s.out ∧ t.cache.extents = s.cache.extents ∧ t.media = s.media)) ∧
  (∀ s : State, s.boot.compat = true → s.powered = true → s.hif.sata.standbyMs ≠ 0 → (∀ c ∈ s.hif.cmds, c.isAta = false) →
    s.get Reg.HIF_SATA_STANDBY = 0 → s.sched 0 = [] → (∀ r, (s.ctl r).shst ≠ 1) → (∀ n, (s.lane n).fmt.wgate = false) →
    (s.destageable = false → (∀ x ∈ s.cache.extents, x.kind = .clean) → ∃ t, exec .standbyTimerExpiry s = .next t ∧
      t.get Reg.HIF_SATA_STANDBY = 1 ∧ t.whl.stopWanted = true ∧ t.media = s.media ∧ t.cache = s.cache) ∧
    (s.destageable = true → ∃ t, exec .standbyTimerExpiry s = .next t ∧ t.hif.sata.stopDue = true ∧
      t.get Reg.HIF_SATA_STANDBY = 0 ∧ t.cache.extents = s.cache.extents ∧ t.media = s.media))

/-- With SMART enabled and its key in the LBA: READ DATA and READ THRESHOLDS send 512 bytes that add up to 0 with revision 0x10, IDs, raw values and
thresholds; AUTOSAVE, ENABLE, DISABLE record; RETURN STATUS names a limit attribute at its threshold; EXECUTE OFF-LINE IMMEDIATE starts a test or refuses
while one runs; without the key every SMART command ends with ABRT. READ LOG EXT, DMA and SMART READ LOG of the directory send page counts, log
0xA0 page 0 takes the snapshot; unsupported logs end with ABRT. WRITE LOG EXT, DMA and SMART WRITE LOG of an SCT Error Recovery Control command
set the timer; other actions end with ABRT. Vendor commands without 0x4456 in LBA [47:32] end with ABRT; else they send their log, apply the sector
size with LBAs scaled and data kept, or act as the register write; a refused one ends with ABRT. -/
def Obligations.AtaReportsAndVendorCommands : Prop :=
  (∀ (s : State) (f : AtaFis), s.ataTakes → bits f.lba 23 8 = 0xC24F → s.hif.sata.smart = true →
    (∃ t l, exec (.smartReadData f .ok) s = .next t ∧ s.ataDone t [.pioSetupFis 0x50 0, .sataData l] ∧ l.length = 512 ∧
      l.foldl (· + ·) 0 = 0 ∧ u16 l 0 = 0x10 ∧ ∀ k j, (k, j) ∈ smartIds.zipIdx → u8 l (2 + 12 * j) = k ∧
        field l (2 + 12 * j + 5) 6 = min (2 ^ 48 - 1) (s.smartRaw k) ∧ u8 l (2 + 12 * j + 3) = (s.smartValue k).1 % 256) ∧
    (∃ t l, exec (.smartReadThresholds f .ok) s = .next t ∧ s.ataDone t [.pioSetupFis 0x50 0, .sataData l] ∧ l.length = 512 ∧
      l.foldl (· + ·) 0 = 0 ∧ ∀ k j, (k, j) ∈ smartIds.zipIdx → u8 l (2 + 12 * j) = k ∧
        u8 l (2 + 12 * j + 1) = s.smartThreshold k % 256) ∧
    (∃ t, exec (.smartAttributeAutosave f) s = .next t ∧ t.cache = s.cache ∧
      (f.count % 256 = 0 ∨ f.count % 256 = 0xF1 → t.out = .registerFis 0x50 0 0 (f.lba % 2 ^ 28) :: s.out ∧
        t.hif.sata = { s.hif.sata with autosave := f.count % 256 != 0 }) ∧
      (f.count % 256 ≠ 0 → f.count % 256 ≠ 0xF1 → s.ataDone t [.registerFis 0x51 0x04 0 0])) ∧
    (∃ t u, exec (.smartEnableOperations f) s = .next t ∧ exec (.smartDisableOperations f) s = .next u ∧
      s.ataDone t [.registerFis 0x50 0 0 (f.lba % 2 ^ 28)] ∧ s.ataDone u [.registerFis 0x50 0 0 (f.lba % 2 ^ 28)] ∧
      t.hif.sata = s.hif.sata ∧ u.hif.sata = { s.hif.sata with smart := false }) ∧
    (∃ t, exec (.smartReturnStatus f) s = .next t ∧ t.cache = s.cache ∧ s.ataDone t [.registerFis 0x50 0 0
      (if ∃ k ∈ smartIds, s.smartLimit k ≠ none ∧ s.smartThreshold k ≠ 0 ∧ (s.smartValue k).1 ≤ s.smartThreshold k then 0x2CF400 else 0xC24F00)]) ∧
    (f.lba % 256 = 1 → (∀ r, (s.ctl r).aers = []) → (s.cache.selfTest = none → ∃ t, exec (.smartExecuteOffLineImmediate f true) s = .next t ∧
        .registerFis 0x50 0 0 0xC24F00 ∈ t.out ∧ t.cache.selfTest = none ∧ t.hif.sata.selfTestStatus = 0x50 ∧ t.media = s.media) ∧
      (s.cache.selfTest ≠ none → ∃ t, exec (.smartExecuteOffLineImmediate f false) s = .next t ∧
        s.ataDone t [.registerFis 0x51 0x04 0 0] ∧ t.cache = s.cache)) ∧
    (f.count % 256 = 1 → f.lba % 256 = 0 → ∃ t l, exec (.smartReadLog f .ok) s = .next t ∧ t.cache = s.cache ∧
      s.ataDone t [.pioSetupFis 0x50 0, .sataData l] ∧ l.length = 512 ∧ u16 l 0 = 1 ∧
        ∀ k, 1 ≤ k → k < 256 → u16 l (2 * k) = s.smartPages k % 65536) ∧
    (∀ d, f.count % 256 = 1 → f.lba % 256 = 0xE0 → u16 d 0 = 3 → u16 d 2 = 1 → u16 d 4 = 1 → ∃ t, exec (.smartWriteLog f d .ok) s = .next t ∧
      s.ataDone t [.registerFis 0x50 0 0 (f.lba % 2 ^ 28)] ∧ t.hif.sata.readTimer = u16 d 6 ∧
      t.hif.sata.writeTimer = s.hif.sata.writeTimer)) ∧
  (∀ (s : State) (f : AtaFis) (d : List Byte) (i : Instr), s.ataTakes → bits f.lba 23 8 ≠ 0xC24F → i ∈ [Instr.smartReadData f .ok,
    .smartReadThresholds f .ok, .smartAttributeAutosave f, .smartExecuteOffLineImmediate f false, .smartReadLog f .ok, .smartWriteLog f d .ok,
    .smartEnableOperations f, .smartDisableOperations f, .smartReturnStatus f] → ∃ t, exec i s = .next t ∧ t.cache = s.cache ∧
    s.ataDone t [.registerFis 0x51 0x04 0 0]) ∧
  (∀ (s : State) (f : AtaFis) (i : Instr) (fin : Output), s.ataTakes → f.count = 1 → (i, fin) ∈ [(Instr.readLogExt f .ok, .pioSetupFis 0x50 0),
      (.readLogDmaExt f .ok, .registerFis 0x50 0 0 (f.lba % 2 ^ 32))] →
    (f.lba = 0 → ∃ t l, exec i s = .next t ∧ s.ataDone t [fin, .sataData l] ∧ t.cache = s.cache ∧ u16 l 0 = 1 ∧ l.length = 512 ∧
      ∀ k, 1 ≤ k → k < 256 → u16 l (2 * k) = s.gplPages k % 65536) ∧
    (f.lba = 0xA0 → s.committed ≠ [] → ∃ t l, exec i s = .next t ∧ s.ataDone t [fin, .sataData l] ∧ l.length = 512 ∧
      t.hif.sata.snapshot = s.committed.map s.dvRecord ∧ l.take 32 = ((s.committed.map s.dvRecord).headD [])) ∧
    (f.lba = 0x02 → ∃ t, exec i s = .next t ∧ s.ataDone t [.registerFis 0x51 0x04 0 0] ∧ t.cache = s.cache)) ∧
  (∀ (s : State) (f : AtaFis) (d : List Byte) (i : Instr), s.ataTakes → f.count = 1 → f.lba = 0xE0 →
    i ∈ [Instr.writeLogExt f d .ok, .writeLogDmaExt f d .ok] →
    (u16 d 0 = 3 → u16 d 2 = 1 → u16 d 4 = 2 → ∃ t, exec i s = .next t ∧ s.ataDone t [.registerFis 0x50 0 0 0xE0] ∧
      t.hif.sata.writeTimer = u16 d 6 ∧ t.hif.sata.readTimer = s.hif.sata.readTimer) ∧
    (u16 d 0 ≠ 3 → ∃ t, exec i s = .next t ∧ s.ataDone t [.registerFis 0x51 0x04 0 0] ∧ t.hif.sata.readTimer = s.hif.sata.readTimer ∧
      t.hif.sata.writeTimer = s.hif.sata.writeTimer)) ∧
  (∀ (s : State) (f : AtaFis), s.ataTakes → (∀ r, (s.ctl r).aers = []) →
    (bits f.lba 47 32 ≠ 0x4456 → ∀ i ∈ [Instr.readCounters f .ok, .readGrownDefects f .ok, .readPending f .ok, .setSectorFormat f,
        .readBufferHealth f .ok, .dv40RetireBufferPage f, .dv40DeclareBufferChipDead f], ∃ t, exec i s = .next t ∧
        t.out.head? = some (.registerFis 0x51 0x04 0 0) ∧ t.hif.cmds = s.hif.cmds ∧ t.buf = s.buf ∧ t.cache = s.cache ∧
        t.get Reg.HIF_SATA_SECTOR_4KN = s.get Reg.HIF_SATA_SECTOR_4KN) ∧
    (bits f.lba 47 32 = 0x4456 →
      (∀ i data, (i, data) ∈ [(Instr.readCounters f .ok, padTo 512 (s.laneHealth 0)), (.readGrownDefects f .ok, padTo (512 * (fisExt f).2)
          (leBytes 4 (s.lane 0).rcv.grown.length ++ zeros 12 ++ (s.lane 0).rcv.grown.flatMap (leBytes 8))),
          (.readPending f .ok, padTo (512 * (fisExt f).2) (s.pendingLog 0)), (.readBufferHealth f .ok, padTo (512 * 33) s.bufferHealthLog)] →
        ∃ t pre, exec i s = .next t ∧ t.out = pre ++ [.pioSetupFis 0x50 0, .sataData data] ++ s.out ∧ t.hif.cmds = s.hif.cmds ∧
          t.buf = s.buf ∧ t.cache = s.cache ∧ t.lanes = s.lanes ∧ t.media = s.media) ∧
      (f.count ≤ 1 → s.dirtyVersions 1 = [] → ∃ t, exec (.setSectorFormat f) s = .next t ∧ t.hif.cmds = s.hif.cmds ∧
        .registerFis 0x50 0 f.count (f.lba % 2 ^ 32) ∈ t.out ∧ t.get Reg.HIF_SATA_SECTOR_4KN = f.count ∧
        t.cache.saved.format4k = some (f.count == 1) ∧ t.cache.extents = s.cache.extents ∧ t.media = s.media ∧
        t.cache.wunc = (if s.get Reg.HIF_SATA_SECTOR_4KN = f.count then s.cache.wunc else s.cache.wunc.map (scaleRange (f.count == 1)))) ∧
      (1 < f.count → f.count < 65536 → ∃ t, exec (.setSectorFormat f) s = .next t ∧ t.out.head? = some (.registerFis 0x51 0x04 0 0) ∧
        t.cache = s.cache ∧ t.get Reg.HIF_SATA_SECTOR_4KN = s.get Reg.HIF_SATA_SECTOR_4KN) ∧
      (s.get Reg.BUF_RETIRE_REQ_GO = 0 →
        (s.retireRefused (f.lba % 2 ^ 23) = true → ∃ t, exec (.dv40RetireBufferPage f) s = .next t ∧
          t.out.head? = some (.registerFis 0x51 0x04 0 0) ∧ t.buf = s.buf ∧ t.hif.cmds = s.hif.cmds) ∧
        (s.retireRefused (f.lba % 2 ^ 23) = false → ∃ t e, exec (.dv40RetireBufferPage f) s = .next t ∧ t.cmd s.hif.nextSeq = some e ∧
          e.ended = false ∧ t.buf.toRetire = s.buf.toRetire ++ [(f.lba % 2 ^ 23, true)])) ∧
      (f.lba % 8 < 5 → ∀ g, g = 2 * bits f.lba 4 4 + bits f.lba 5 5 →
        (s.deadRefused g (f.lba % 8) = true → ∃ t, exec (.dv40DeclareBufferChipDead f) s = .next t ∧
          t.out.head? = some (.registerFis 0x51 0x04 0 0) ∧ t.buf = s.buf) ∧
        (s.groupFitted g = true → s.groupState g = 0 → s.buf.switching = [] → ∃ t, exec (.dv40DeclareBufferChipDead f) s = .next t ∧
          (∃ lba, .registerFis 0x50 0 0 lba ∈ t.out) ∧ t.buf = { s.buf with switching := [(g, f.lba % 8)] }))))

/-! ## Thermal management (chapter 18) -/

/-- KILN_SCAN_START takes the lowest enabled channel. KILN_CONVERSION_END of a channel not in fault with a good reading keeps it with VALID and the
peaks, and goes on to the next channel; each enabled Cone asserts at its threshold, releases below threshold minus hysteresis and else stays, a
disabled one stays; the device's Cones are the OR; the media channel closes the window outside its edges and opens it in its band; a
device Cone 3 takes NORMAL or RESTARTING to ORDERLY or COOLING outside SUPPLY, and without one the state stays. A bad measurement puts
the channel in fault: VALID clears, the reading, Cone 1 and Cone 3 stay, Cone 2 asserts where any Cone is enabled, the media channel closes the window;
the third good conversion in a row ends it. SHUTDOWN_TIMEOUT asserts SAFE_STOP_N and enters COOLING. COOLING_HOLD_END counts a restart, releases
SAFE_STOP_N and starts the spindle, or does nothing with none left. WRITE_WAIT_TIMEOUT ends a waiting write with 0xC1 or ABRT, without effect.
-/
def Obligations.KilnWatchesAndStops : Prop :=
  (∀ s : State, s.powered = true → ∃ t, exec .kilnScanStart s = .next t ∧ t = { s with kln := t.kln } ∧
    (∀ c, t.kln.next = some c → c < 12 ∧ u8 (s.channel c) 0 ≠ 0 ∧ (8 ≤ c ∨ s.locked = true) ∧
      ∀ k, k < c → u8 (s.channel k) 0 = 0 ∨ k < 8 ∧ s.locked = false)) ∧
  (∀ (s : State) (c : Fin 12) (m : Conversion) (r : Int), s.kln.next = some c.val → conversionFits m (u8 (s.channel c.val) 0) = true →
    s.get (kilnFaultField c.val) = 0 → evaluate (s.channel c.val) s.freeNat m = .ok r → -32768 ≤ r → r ≤ 32767 → ∃ t,
    exec (.kilnConversionEnd c m) s = .next t ∧ t.get (Reg.KLN_TEMP_READING c.val) = twos 16 r ∧ t.get (Reg.KLN_TEMP_VALID c.val) = 1 ∧
      t.get (kilnFaultField c.val) = 0 ∧ t.kln.next = s.nextChannel (c.val + 1) ∧ t.cache = s.cache ∧ t.buf = s.buf ∧ t.flash = s.flash ∧
      signed 16 (t.get (Reg.KLN_PEAK_MAX c.val)) = max r (signed 16 (s.get (Reg.KLN_PEAK_MAX c.val))) ∧
      signed 16 (t.get (Reg.KLN_PEAK_MIN c.val)) = min r (signed 16 (s.get (Reg.KLN_PEAK_MIN c.val))) ∧
      (∀ k, 1 ≤ k → k ≤ 3 → t.get (coneField c.val k) =
        (if bit (u8 (s.channel c.val) 1) (k - 1) = false then s.get (coneField c.val k)
         else if chField (s.channel c.val) (0x10 + 2 * (k - 1)) ≤ r then 1
         else if r < chField (s.channel c.val) (0x10 + 2 * (k - 1)) - chField (s.channel c.val) (0x16 + 2 * (k - 1)) then 0
         else s.get (coneField c.val k))) ∧
      (∀ d k, d ≠ c.val → d < 12 → 1 ≤ k → k ≤ 3 → t.get (coneField d k) = s.get (coneField d k)) ∧
      (∀ k, 1 ≤ k → k ≤ 3 → (t.get ⟨0x90000, 25 + k, 25 + k⟩ = 1 ↔ ∃ d, d < 12 ∧ t.get (coneField d k) = 1)) ∧
      t.get Reg.KLN_STATUS_WRITE_OPEN = (if u8 s.thermal 0 ≠ c.val then s.get Reg.KLN_STATUS_WRITE_OPEN
        else if r < chField s.thermal 8 ∨ chField s.thermal 0x0A < r then 0
        else if chField s.thermal 8 + chField s.thermal 0x0C ≤ r ∧ r ≤ chField s.thermal 0x0A - chField s.thermal 0x0C then 1
        else s.get Reg.KLN_STATUS_WRITE_OPEN) ∧
      (t.get Reg.KLN_STATUS_CONE3 = 1 → s.shutState = 0 ∨ s.shutState = 4 → s.devState ≠ 3 → (t.shutState = 1 ∨ t.shutState = 3) ∧
        (s.whl.mode ≠ .off → t.shutState = 1 ∧ t.whl.stopWanted = true) ∧ ∀ n : Lane, s.used n.val = true →
          (t.lane n).sek.phase ∈ [SekPhase.parked, .retracting, .latching true] ∧
          ((s.lane n).fmt.wgate = (s.lane n).fmt.write.isSome → (t.lane n).fmt.wgate = false)) ∧
      (t.get Reg.KLN_STATUS_CONE3 = 0 → t.shutState = s.shutState)) ∧
  (∀ (s : State) (c : Fin 12) (m : Conversion) (k : Nat), s.kln.next = some c.val → conversionFits m (u8 (s.channel c.val) 0) = true →
    evaluate (s.channel c.val) s.freeNat m = .error k → s.get (kilnFaultField c.val) = 0 → ∃ t, exec (.kilnConversionEnd c m) s = .next t ∧
      t.get (kilnFaultField c.val) = 1 ∧ t.get (Reg.KLN_TEMP_VALID c.val) = 0 ∧
      t.get (Reg.KLN_TEMP_READING c.val) = s.get (Reg.KLN_TEMP_READING c.val) ∧ t.get (coneField c.val 1) = s.get (coneField c.val 1) ∧
      t.get (coneField c.val 3) = s.get (coneField c.val 3) ∧
      (u8 (s.channel c.val) 1 % 8 ≠ 0 → t.get (coneField c.val 2) = 1 ∧ t.get Reg.KLN_STATUS_CONE2 = 1) ∧
      t.get Reg.KLN_STATUS_WRITE_OPEN = (if u8 s.thermal 0 = c.val then 0 else s.get Reg.KLN_STATUS_WRITE_OPEN) ∧
      t.shutState = s.shutState) ∧
  (∀ (e : List Byte) (free : Nat), (∀ uv, uv < 30000 ∨ 90000 < uv → ∃ k, k < 2 ∧ evaluate e free (.diode uv) = .error k) ∧
    (∀ x, x < 20000 → evaluate e free (.ntc x) = .error 1) ∧ (∀ x, 980000 < x → evaluate e free (.ntc x) = .error 0) ∧
    (∀ m r, evaluate e free m = .ok r → (∀ x, m ≠ .onDie x) → -550 ≤ r ∧ r ≤ 1750)) ∧
  (∀ (s : State) (c : Fin 12) (m : Conversion) (r : Int), s.kln.next = some c.val → conversionFits m (u8 (s.channel c.val) 0) = true →
    s.get (kilnFaultField c.val) = 1 → evaluate (s.channel c.val) s.freeNat m = .ok r → -32768 ≤ r → r ≤ 32767 → ∃ t,
    exec (.kilnConversionEnd c m) s = .next t ∧ t.get (Reg.KLN_TEMP_VALID c.val) = 1 ∧
      (s.kln.good.getD c.val 0 = 2 → s.kln.good.length = 12 → t.get (kilnFaultField c.val) = 0) ∧
      (s.kln.good.getD c.val 0 < 2 → t.get (kilnFaultField c.val) = 1 ∧ t.get (coneField c.val 2) = s.get (coneField c.val 2) ∧
        t.get Reg.KLN_STATUS_WRITE_OPEN = s.get Reg.KLN_STATUS_WRITE_OPEN ∧ t.shutState = s.shutState)) ∧
  (∀ s : State, s.shutState = 1 → s.devState ≠ 3 → ∃ t, exec .shutdownTimeout s = .next t ∧ t.shutState = 3 ∧ t.pins.safeStopN = false ∧
    .kiln ∈ t.whl.holders ∧ t.whl.stopWanted = false ∧ t.kln.holdMs = s.holdTime ∧ t.media = s.media ∧ t.cache = s.cache ∧
    t.lanes = s.lanes) ∧
  (∀ s : State, s.shutState = 1 → s.devState = 3 → exec .shutdownTimeout s = .next s) ∧
  (∀ s : State, s.shutState = 3 → s.get Reg.KLN_STATUS_CONE3 = 0 → s.devState ≠ 3 → u8 s.thermal 0x12 ≤ 15 →
    (s.get Reg.KLN_STATUS_RESTARTS < u8 s.thermal 0x12 → 6 ≤ s.stage → (∃ n, n < 4 ∧ s.used n = true ∧ s.lko.barred.contains n = false) → ∃ t,
      exec .coolingHoldEnd s = .next t ∧ t.shutState = 4 ∧ t.get Reg.KLN_STATUS_RESTARTS = s.get Reg.KLN_STATUS_RESTARTS + 1 ∧
      t.whl.holders = s.whl.holders.erase .kiln ∧ t.whlState = 1 ∧ t.whl.starting = true ∧ t.get Reg.KLN_HOLD_LEFT_S = 0 ∧
      t.kln.toLock = ((List.range 4).filter fun n => s.used n && !s.lko.barred.contains n) ∧ t.media = s.media ∧ t.cache = s.cache) ∧
    (u8 s.thermal 0x12 ≤ s.get Reg.KLN_STATUS_RESTARTS → exec .coolingHoldEnd s = .next s)) ∧
  (∀ (s : State) (seq : Nat) (c : Command), s.cmd seq = some c → c.waitWindow = true → c.resolved = false → c.ended = false →
    (s.get Reg.KLN_STATUS_WRITE_OPEN = 0 ∨ s.shutState ≠ 0 → (∀ r, seq ∉ (s.ctl r).aers) →
      (c.sq < 0xFFFD → ∃ t, exec (.writeWaitTimeout seq) s = .next t ∧ t.endedWith seq 0x7C1 0 ∧ t.cache = s.cache ∧ t.media = s.media ∧
        t.out = s.out ∧ t.scheds = s.scheds) ∧
      (c.isAta = true → c.queuedAta = false → ∃ t, exec (.writeWaitTimeout seq) s = .next t ∧
        t.out = .registerFis 0x51 0x04 0 (c.failLba 0x7C1) :: s.out ∧ t.cmd seq = none ∧ t.cache = s.cache ∧ t.media = s.media)) ∧
    (s.get Reg.KLN_STATUS_WRITE_OPEN = 1 → s.shutState = 0 → exec (.writeWaitTimeout seq) s = .next s))

/-! ## Functional safety (chapter 19) -/

/-- HANG_TIMEOUT of a sequencer that started, is not hung and does not wait in WAIT, RESTART_TIMEOUT of one that restarts and SF_OVERRUN of either hang it. For
LSn lane n retracts for cause 5 and never returns; for HS, BS and KS, with no stronger state, DEVICE_STOP with the cause of its number
wants the spindle stopped and CSTS.CFS is set, and in compatibility mode an outstanding command ends with ERR and DF. Else they change
nothing, and a sequencer stalled in WAIT, which sends heartbeats (R158), is not hung by HANG_TIMEOUT. SF_OVERRUN of the buffer or the Motor Link touches no lane and hangs no
sequencer. WEDGE_TIMEOUT with the heads over the disk cuts the gate, counts one
entry and loses media time; RELOCK_TIMEOUT then retracts the lane for cause 4. RUNAWAY_RETRACT_CHECK asserts SAFE_STOP_N if the
velocity still exceeds the limit. LANE_RETURN of a parked lane out of service at speed reloads it and clears LANE_OUT: after a loss of media
time with one more return below RECOVER_MAX, after SUPPLY uncounted; never for a barred lane, a hung KS or at the limit.
-/
def Obligations.LookoutActsOnLanes : Prop :=
  (∀ (s : State) (q : SeqIx) (i : Instr), i ∈ [Instr.hangTimeout q, .restartTimeout q, .sfOverrun q.val] →
    (i = .restartTimeout q → (s.seq q).run = .restarting) → (i = .hangTimeout q → (s.seq q).run ≠ .stalled) → (s.seq q).run ≠ .off → (s.seq q).run ≠ .hung →
    (∀ n : Lane, q.val = n.val → ∃ t, exec i s = .next t ∧ (t.seq q).run = .hung ∧ s.laneSafe t n 5 ∧ n.val ∈ t.lko.barred) ∧
    (4 ≤ q.val → s.devState < 2 → ∃ t, exec i s = .next t ∧ (t.seq q).run = .hung ∧ s.deviceSafe t 2 q.val ∧
      t.whl.stopWanted = true ∧ t.lko.fatal = true ∧ (∀ p, t.cfs p = true) ∧
      (∀ c, s.boot.compat = true → s.hif.cmds = [c] → c.isAta = true → c.queuedAta = false → c.ended = false →
        .registerFis 0x71 0x04 0 (c.failLba 0x7C4) ∈ t.out ∧ t.hif.cmds = []))) ∧
  (∀ (s : State) (q : SeqIx), (s.seq q).run = .off ∨ (s.seq q).run = .hung → exec (.hangTimeout q) s = .next s ∧
    exec (.restartTimeout q) s = .next s ∧
    ∃ t, exec (.sfOverrun q.val) s = .next t ∧ t.seq q = s.seq q ∧ t.lanes = s.lanes ∧ t.lko = s.lko ∧ t.whl = s.whl) ∧
  (∀ (s : State) (q : SeqIx), (s.seq q).run = .stalled → exec (.hangTimeout q) s = .next s) ∧
  (∀ (s : State) (unit : Nat), 7 ≤ unit → ∃ t, exec (.sfOverrun unit) s = .next t ∧ (∀ q, (t.seq q).run ≠ .hung ∨ t.seq q = s.seq q) ∧ t.lanes = s.lanes ∧ t.lko = s.lko ∧
    t.whl = s.whl) ∧
  (∀ (s : State) (n : Lane), s.onDisk n = true → s.used n.val = true → (s.lane n).mts.lost = false → ∃ t,
    exec (.wedgeTimeout n) s = .next t ∧ (t.lane n).mts.lost = true ∧ t.get (Reg.FMT_MTS_STATUS_LOCKED n.val) = 0 ∧
      (t.lane n).fmt.wgate = false ∧ t.cutLatched n = true ∧ (t.lane n).sek = (s.lane n).sek ∧ (∀ m, m ≠ n → t.lane m = s.lane m) ∧
      t.get (Reg.LKO_CNT_WG_CUT_COUNT n.val) = (if s.cutLatched n = true then s.get (Reg.LKO_CNT_WG_CUT_COUNT n.val)
        else min (2 ^ 32 - 1) (s.get (Reg.LKO_CNT_WG_CUT_COUNT n.val) + 1)) ∧
      t.laneOut n.val = s.laneOut n.val ∧ t.whl = s.whl ∧ t.cache = s.cache) ∧
  (∀ (s : State) (n : Lane), s.onDisk n = true →
    ((s.lane n).mts.lost = true → ∃ t, exec (.relockTimeout n) s = .next t ∧ s.laneSafe t n 4 ∧ t.lko = s.lko) ∧
    ((s.lane n).mts.lost = false → exec (.relockTimeout n) s = .next s)) ∧
  (∀ (s : State) (n : Lane), s.get (Reg.LKO_LANE_CAUSE n.val) = 3 → s.loaded n = true →
    (u16 s.safety (8 + 2 * n.val) < s.lko.lastVel.getD n.val 0 → ∃ t, exec (.runawayRetractCheck n) s = .next t ∧ t.stopLow ∧
      t.lanes = s.lanes ∧ t.lko = s.lko) ∧
    (s.lko.lastVel.getD n.val 0 ≤ u16 s.safety (8 + 2 * n.val) → exec (.runawayRetractCheck n) s = .next s)) ∧
  (∀ (s : State) (n : Lane), s.laneOut n.val = true → (s.lane n).sek.phase = .parked → s.get Reg.WHL_STATUS_AT_SPEED = 1 →
    s.devState = 0 → s.shutState = 0 →
    (n.val ∉ s.lko.barred → (s.seq 6).run ≠ .hung →
      (n.val ∉ s.lko.reload → s.get (Reg.LKO_LANE_CAUSE n.val) = 4 → u8 s.safety 6 ≤ 7 →
        (s.get (Reg.LKO_LANE_RETURNS n.val) < u8 s.safety 6 → ∃ t, exec (.laneReturn n) s = .next t ∧ t.laneOut n.val = false ∧
          t.get (Reg.LKO_LANE_RETURNS n.val) = s.get (Reg.LKO_LANE_RETURNS n.val) + 1 ∧ t.lko = s.lko ∧
          (t.lane n).sek.phase = .loading ⟨2, s.lowestHead n, s.rampTrack n (s.lowestHead n)⟩ 0 0 ∧ (∀ m, m ≠ n → t.lane m = s.lane m)) ∧
        (u8 s.safety 6 ≤ s.get (Reg.LKO_LANE_RETURNS n.val) → exec (.laneReturn n) s = .next s)) ∧
      (n.val ∈ s.lko.reload → ∃ t, exec (.laneReturn n) s = .next t ∧ t.laneOut n.val = false ∧
        t.get (Reg.LKO_LANE_RETURNS n.val) = s.get (Reg.LKO_LANE_RETURNS n.val) ∧ t.lko = { s.lko with reload := s.lko.reload.erase n.val } ∧
        (t.lane n).sek.phase = .loading ⟨2, s.lowestHead n, s.rampTrack n (s.lowestHead n)⟩ 0 0 ∧ (∀ m, m ≠ n → t.lane m = s.lane m))) ∧
    (n.val ∈ s.lko.barred ∨ (s.seq 6).run = .hung → exec (.laneReturn n) s = .next s))

/-- SUPPLY_TRIP of 12 V, or of 5 V unless disabled, takes the device to SUPPLY where it was in no stronger state and in none: Wheel rectifies, loaded
lanes retract, used lanes leave service, and a flush runs. Of VDD_CORE it takes the device to HARD for cause 3, as DIE_OVER_TEMPERATURE does for cause 2
and OSC_EDGE_LOSS, or a count beyond ±31%, for cause 8: SAFE_STOP_N is held low and every used lane is out of service. A count within the limits
is kept. With the crystal stopped neither oscillator row does anything, nor, without VDDIO_18 or with POR_N low, do they or SUPPLY_TRIP (R55). DEVICE_STOP for an overspeed wants the spindle stopped, keeps the
condition of R660, and leaves a stronger state; OVERSPEED_CHECK asserts SAFE_STOP_N exactly if the last period is shorter than the one that tripped.
SUPPLY_RETURN after step 6 clears the device state, starts the spindle and marks every used lane that is not barred for its reload; before
step 6 it changes nothing.
-/
def Obligations.LookoutStopsTheDevice : Prop :=
  (∀ (s : State) (rail : Fin 3), s.oscRuns = true → rail.val < 2 → (rail.val = 1 → s.get Reg.LKO_TRIP_V5_TRIP ≠ 0) → s.devState < 3 →
    ∃ t, exec (.supplyTrip rail) s = .next t ∧ s.deviceSafe t 3 3 ∧ t.whlState = 6 ∧ t.whl.mode = .rectify ∧ rail.val ∈ t.lko.rails ∧
      t.lko.supplyDone = false ∧ (∀ n, n < 4 → s.used n = true → t.laneOut n = true) ∧ t.cache = s.cache ∧
      (s.crn.scanned = true → s.crn.bothFail = false → s.crn.clearOwner = none → s.crn.clearing = false →
        s.crn.count + s.crn.staged.length < 16000 → s.crn.staged.length < 100 → t.crn.flushing = true)) ∧
  (∀ s : State, s.get Reg.LKO_TRIP_V5_TRIP = 0 → exec (.supplyTrip 1) s = .next s) ∧
  (∀ s : State, s.powered = true → s.devState ≠ 4 →
    (s.oscRuns = true → ∃ t, exec (.supplyTrip 2) s = .next t ∧ s.deviceSafe t 4 3 ∧ t.stopLow ∧ t.cache = s.cache ∧ ∀ n, n < 4 → s.used n = true → t.laneOut n = true) ∧
    (∃ t, exec .dieOverTemperature s = .next t ∧ s.deviceSafe t 4 2 ∧ t.stopLow ∧ t.cache = s.cache ∧
      ∀ n, n < 4 → s.used n = true → t.laneOut n = true) ∧
    (s.oscRuns = true → s.pwr.crystalStopped = false →
      (∃ t, exec .oscEdgeLoss s = .next t ∧ s.deviceSafe t 4 8 ∧ t.stopLow) ∧
      (∀ count, count < 3440000 ∨ (6560000 < count ∧ count < 2 ^ 24) → ∃ t, exec (.oscCalibration count) s = .next t ∧ s.deviceSafe t 4 8 ∧ t.stopLow ∧
        t.get Reg.LKO_OSC_CAL = count))) ∧
  (∀ (s : State) (count : Nat), (s.oscRuns = false → ∀ rail, exec (.supplyTrip rail) s = .next s ∧ exec .oscEdgeLoss s = .next s ∧
      exec (.oscCalibration count) s = .next s) ∧
    (s.oscRuns = true → s.pwr.crystalStopped = false → 3440000 ≤ count → count ≤ 6560000 → ∃ t, exec (.oscCalibration count) s = .next t ∧
      t.get Reg.LKO_OSC_CAL = count ∧ t.get Reg.LKO_STATUS_CAL_VALID = 1 ∧ t.devState = s.devState ∧ t = { s with regs := t.regs }) ∧
    (s.pwr.crystalStopped = true → exec (.oscCalibration count) s = .next s ∧ exec .oscEdgeLoss s = .next s)) ∧
  (∀ s : State, (s.devState < 2 → s.deviceSafe (s.deviceStop 1) 2 1 ∧ (s.deviceStop 1).whl.stopWanted = true) ∧
    (2 ≤ s.devState → s.deviceStop 1 = s)) ∧
  (∀ (s : State) (p : Nat), s.lko.tripPeriod = some p → (∀ n, s.bufDown = false → s.mediaStatus n = 0x7C4) ∧
    (s.lko.lastPeriod < p → ∃ t, exec .overspeedCheck s = .next t ∧ t.stopLow ∧ t.lanes = s.lanes ∧ t.lko = s.lko) ∧
    (p ≤ s.lko.lastPeriod → exec .overspeedCheck s = .next s)) ∧
  (∀ s : State, s.devState = 3 → (s.lko.supplyDone = false → exec .supplyReturn s = .next s) ∧
    (s.lko.supplyDone = true → s.shutState = 0 → s.held = false → 6 ≤ s.stage → ∃ t, exec .supplyReturn s = .next t ∧ t.devState = 0 ∧
      t.get Reg.LKO_STATUS_DEV_CAUSE = 0 ∧ t.whlState = 1 ∧ t.whl.starting = true ∧ t.whl.stopWanted = false ∧
      t.lko = { s.lko with rails := [], supplyDone := false, reload := (List.range 4).filter fun n => s.used n && !s.lko.barred.contains n } ∧
      t.lanes = s.lanes ∧ t.cache = s.cache))

/-! ## The event recorder (chapter 20) -/

/-- After the scan, with neither region failed and no clear, CAIRN_FLUSH_START from 96 staged records on, STAGING_AGE_TIMEOUT and CRN_FLUSH_GO with
something staged start a flush, the last with GO at 1; with fewer CAIRN_FLUSH_START does nothing. CAIRN_RECORD_PROGRAMMED writes the first staged record, chained
to the last one, into the next slot and no other, commits its SEQ and goes on with the rest; the last one ends the flush and clears GO. A
failed program, or CAIRN_PROGRAM_TIMEOUT, uses the slot up and is tried once more; a second failure switches the log to the spare region
with CRN_MEDIA_FAIL, which takes the SEQ of the failed record while each staged SEQ rises by 1, or fails both regions and ends
the flush. With no flush running both rows do nothing. OPTIME_SAVE writes the time values of every used lane alone. -/
def Obligations.CairnProgramsRecords : Prop :=
  (∀ s : State, s.crn.scanned = true → s.crn.bothFail = false → s.crn.clearing = false → s.crn.staged ≠ [] →
    (96 ≤ s.crn.staged.length → exec .cairnFlushStart s = .next (s.setCrn { s.crn with flushing := true })) ∧
    (s.crn.staged.length < 96 → exec .cairnFlushStart s = .next s) ∧
    exec .stagingAgeTimeout s = .next (s.setCrn { s.crn with flushing := true }) ∧
    (∀ p : Port, s.barOpen p = true → s.locked = true → ∃ t, exec (.crnFlushGo (.port p)) s = .next t ∧ t.crn = { s.crn with flushing := true } ∧
      t.get Reg.CRN_FLUSH_GO = 1 ∧ t.media = s.media ∧ t.lanes = s.lanes)) ∧
  (∀ (s : State) (r : Record) (l : List Record) (b : List Byte), s.crn.staged = r :: l → s.crn.flushing = true → s.crn.bothFail = false →
    s.crn.clearing = false → s.crn.used < 16384 → 2097152 ≤ s.boot.density → s.crn.count + s.crn.staged.length < 16383 →
    b = r.body s.crn.lastBody → ∃ t, exec (.cairnRecordProgrammed true) s = .next t ∧ t.slotBytes s.crn.spare s.crn.used = sealed b ∧
      (∀ x i, i < 16384 → (x, i) ≠ (s.crn.spare, s.crn.used) → t.slotBytes x i = s.slotBytes x i) ∧ t.crn.commit = r.seq ∧
      t.crn.lastBody = b ∧ t.crn.staged.take l.length = l ∧ t.crn.used = s.crn.used + 1 ∧ t.crn.spare = s.crn.spare ∧
      (l ≠ [] ∨ s.sbd.lossDestage = false ∧ s.hif.sata.stopDue = false → t.crn.staged = l ∧ t.crn.nextSeq = s.crn.nextSeq) ∧
      (l ≠ [] → t = { s with crn := t.crn, flash := t.flash } ∧ t.crn.flushing = true) ∧
      (l = [] → s.sbd.lossDestage = false → s.hif.sata.stopDue = false → (∀ p, (s.ctl p).shst ≠ 1) →
        t = { s with crn := t.crn, flash := t.flash, regs := t.regs } ∧ t.crn.flushing = false ∧ t.get Reg.CRN_FLUSH_GO = 0)) ∧
  (∀ (s : State) (r : Record) (l : List Record) (i : Instr), i ∈ [Instr.cairnRecordProgrammed false, .cairnProgramTimeout] → s.crn.staged = r :: l →
    s.crn.flushing = true → s.crn.bothFail = false → s.crn.clearing = false → s.crn.used < 16384 →
    (s.crn.retried = false → ∃ t, exec i s = .next t ∧ t = { s with crn := t.crn, flash := t.flash, free := t.free } ∧ t.crn.retried = true ∧
      t.crn.used = s.crn.used + 1 ∧ t.crn.staged = s.crn.staged ∧ t.crn.commit = s.crn.commit ∧ t.crn.count = s.crn.count ∧
      t.crn.lastBody = s.crn.lastBody ∧ t.crn.flushing = true) ∧
    (s.crn.retried = true → s.crn.spare = false → s.crn.badSpare = false → ∃ t m, exec i s = .next t ∧ t.crn.spare = true ∧
      t.crn.staged.take (l.length + 2) = m :: s.crn.staged.map (fun (x : Record) => { x with seq := x.seq + 1 }) ∧ m.id = 0x7F3 ∧ m.seq = r.seq ∧
      m.payload = s.crn.used ∧ t.crn.commit = s.crn.commit ∧ t.crn.flushing = true ∧ t.crn.bothFail = false ∧ t.crn.retried = false ∧
      t.media = s.media ∧ t.lanes = s.lanes) ∧
    (s.crn.retried = true → s.crn.spare = true ∨ s.crn.badSpare = true → s.sbd.lossDestage = false → s.hif.sata.stopDue = false →
      (∀ p, (s.ctl p).shst ≠ 1) → ∃ t, exec i s = .next t ∧ t.crn.bothFail = true ∧ t.crn.flushing = false ∧
        t.crn.staged.take (l.length + 1) = s.crn.staged ∧ t.crn.commit = s.crn.commit ∧ t.get Reg.CRN_FLUSH_GO = 0 ∧ t.media = s.media ∧ t.lanes = s.lanes)) ∧
  (∀ (s : State) (i : Instr), i ∈ [Instr.cairnRecordProgrammed true, .cairnRecordProgrammed false, .cairnProgramTimeout] →
    s.crn.flushing = false → exec i s = .next s) ∧
  (∀ s : State, ∃ t, exec .optimeSave s = .next t ∧ t = { s with lanes := t.lanes } ∧ ∀ n : Lane,
    (s.used n.val = true → t.lane n = { s.lane n with sys := { (s.lane n).sys with opTime := s.crn.opTime, pcyc := s.crn.pcyc } }) ∧
    (s.used n.val = false → t.lane n = s.lane n))

/-- CAIRN_BOOT_SCAN_END of blank regions starts a log: CRN_LOG_START with SEQ 1 and PCYC 1 in front of the held records, which take the
next SEQs, with flash unchanged. With one valid record it stages CRN_POWER_ON with the next SEQ, PCYC one more and the time going on; a second
slot with a bad CRC at the end is passed over and its SEQ used again, and a first slot with a bad CRC before a good one is a break. Both regions unreadable fail
both. A scan that is not due does nothing. CAIRN_CLEAR and DV40_CAIRN_CLEAR with a good token set the next SEQ aside and clear; with a bad one
they end with 0xC5 or ABRT, and with another length with Invalid Field or ABRT, with flash and log as before. CAIRN_CLEAR_ERASE_END leaves the
CLEAR record as the only one of the log, in primary slot 0 or, with that region failed, in spare slot 0 with CRN_MEDIA_FAIL staged first,
resets the flags and ends the command. That a failed region is left as it was is the model's choice (log entry 160). -/
def Obligations.CairnScansAndClears : Prop :=
  (∀ (s : State), s.crn.scanned = false → s.powered = true → 2097152 ≤ s.boot.density → s.crn.staged.length ≤ 127 → s.devState = 0 →
    (slotEmpty (s.slotBytes false 0) = true → slotEmpty (s.slotBytes true 0) = true → ∃ t m, exec (.cairnBootScanEnd false false) s = .next t ∧
      t.flash = s.flash ∧ t.crn.scanned = true ∧ t.crn.staged.head? = some m ∧ m.id = 0x7F0 ∧ m.seq = 1 ∧ m.pcyc = 1 ∧ m.opTime = min (2 ^ 40 - 1) s.crn.elapsed ∧
      (∀ i r, s.crn.staged[i]? = some r → ∃ x, t.crn.staged[i + 1]? = some x ∧ x.id = r.id ∧ x.payload = r.payload ∧ x.seq = i + 2 ∧
        x.pcyc = 1 ∧ x.opTime = min (2 ^ 40 - 1) r.opTime) ∧ t.crn.pcyc = 1 ∧ t.crn.opTime = min (2 ^ 40 - 1) s.crn.elapsed ∧
      (bit s.cap0 9 = false → t.crn.nonce = 2 ^ 40) ∧ t.crn.chainBreak = s.crn.chainBreak) ∧
    (∀ b, b = s.slotBytes false 0 → slotEmpty b = false → slotCrcOk b = true → slotId b ∉ [0x7F0, 0x7F2] → slotEmpty (s.slotBytes true 0) = true →
      slotSeq b < 2 ^ 48 - 1 →
      (slotEmpty (s.slotBytes false 1) = true → ∃ t m, exec (.cairnBootScanEnd false false) s = .next t ∧ t.flash = s.flash ∧
        t.crn.staged.head? = some m ∧ m.id = 0x7F6 ∧ m.seq = slotSeq b + 1 ∧ m.pcyc = min (2 ^ 24 - 1) (field b 0xD 3 + 1) ∧ t.crn.pcyc = m.pcyc ∧
        t.crn.opTime = min (2 ^ 40 - 1) (field b 8 5 + s.crn.elapsed) ∧ t.crn.commit = slotSeq b ∧ t.crn.firstSeq = slotSeq b ∧
        t.crn.lastBody = b.take 60 ∧ t.crn.used = 1 ∧ t.crn.chainBreak = s.crn.chainBreak ∧
        (bit s.cap0 9 = false → t.crn.nonce = m.pcyc * 2 ^ 40 + field b 8 5)) ∧
      (slotEmpty (s.slotBytes false 1) = false → slotCrcOk (s.slotBytes false 1) = false → slotEmpty (s.slotBytes false 2) = true → ∃ t m,
        exec (.cairnBootScanEnd false false) s = .next t ∧ t.flash = s.flash ∧ t.crn.staged.head? = some m ∧ m.id = 0x7F6 ∧
        m.seq = slotSeq b + 1 ∧ t.crn.used = 2 ∧ t.crn.skipped = [1] ∧ t.crn.count = 1 ∧ t.crn.lastBody = b.take 60 ∧ t.crn.chainBreak = s.crn.chainBreak)) ∧
    (slotEmpty (s.slotBytes false 0) = false → slotCrcOk (s.slotBytes false 0) = false → slotEmpty (s.slotBytes false 1) = false →
      slotCrcOk (s.slotBytes false 1) = true → slotId (s.slotBytes false 1) ≠ 0x7F2 → slotEmpty (s.slotBytes false 2) = true →
      slotEmpty (s.slotBytes true 0) = true → ∃ t, exec (.cairnBootScanEnd false false) s = .next t ∧
        t.crn.chainBreak = true ∧ t.crn.breakSeq = 2 ^ 48 - 1) ∧
    (∃ t, exec (.cairnBootScanEnd true true) s = .next t ∧ t.crn.bothFail = true ∧ t.crn.scanned = true ∧ t.media = s.media)) ∧
  (∀ (s : State) (a b : Bool), s.crn.scanned = true ∨ s.powered = false → exec (.cairnBootScanEnd a b) s = .next s) ∧
  (∀ (s : State) (seq : Nat) (c : Command) (token : List Byte), s.dueAdmin seq 0xC1 = some c → c.sq = 0 → (∀ r, seq ∉ (s.ctl r).aers) → c.ptrStatus = 0 →
    (c.dw 10 = 29920 → s.crn.scanned = true → s.crn.clearing = false →
      (s.tokenOk token = true → ∃ t e, exec (.cairnClear seq .ok token) s = .next t ∧ t.crn.clearing = true ∧ t.crn.clearOwner = some seq ∧
        t.crn.clearSeq = s.crn.nextSeq ∧ t.crn.nextSeq = s.crn.nextSeq + 1 ∧ t.crn.staged = s.crn.staged ∧ t.cmd seq = some e ∧ e.ended = false) ∧
      (s.tokenOk token = false → ∃ t, exec (.cairnClear seq .ok token) s = .next t ∧ t.endedWith seq 0x7C5 0 ∧ t.crn = s.crn ∧ t.flash = s.flash)) ∧
    (c.dw 10 ≠ 29920 → ∃ t, exec (.cairnClear seq .ok token) s = .next t ∧ t.endedWith seq 0x002 0 ∧ t.crn = s.crn ∧ t.flash = s.flash)) ∧
  (∀ (s : State) (f : AtaFis) (data : List Byte), s.ataTakes → bits f.lba 47 32 = 0x4456 → s.crn.scanned = true → s.crn.clearing = false →
    data.length = 30208 → (data.drop 29920).all (· == 0) = true → (∀ r, s.hif.nextSeq ∉ (s.ctl r).aers) →
    (f.count % 65536 = 59 → s.tokenOk (data.take 29920) = true → ∃ t e, exec (.dv40CairnClear f data .ok) s = .next t ∧ t.crn.clearing = true ∧
      t.crn.clearOwner = some s.hif.nextSeq ∧ t.crn.clearSeq = s.crn.nextSeq ∧ t.cmd s.hif.nextSeq = some e ∧ e.ended = false) ∧
    (f.count % 65536 ≠ 59 ∨ s.tokenOk (data.take 29920) = false → ∃ t lba, exec (.dv40CairnClear f data .ok) s = .next t ∧
      t.out.head? = some (.registerFis 0x51 0x04 0 lba) ∧ t.crn.clearing = false ∧ t.flash = s.flash)) ∧
  (∀ (s : State) (ok : Bool), s.crn.clearing = true → s.crn.clearBytes.length = 64 → 2097152 ≤ s.boot.density → ∃ t,
    exec (.cairnClearEraseEnd ok) s = .next t ∧ t.slotBytes (!ok) 0 = s.crn.clearBytes ∧
      (∀ i, 0 < i → i < 16384 → slotEmpty (t.slotBytes (!ok) i) = true) ∧
      (ok = true → ∀ i, i < 16384 → slotEmpty (t.slotBytes true i) = true) ∧
      (ok = false → (∀ i, i < 16384 → t.slotBytes false i = s.slotBytes false i) ∧ ∃ m, t.crn.staged.head? = some m ∧ m.id = 0x7F3 ∧
        m.seq = slotSeq s.crn.clearBytes + 1) ∧
      t.crn.commit = slotSeq s.crn.clearBytes ∧ t.crn.firstSeq = slotSeq s.crn.clearBytes ∧ t.crn.spare = !ok ∧ t.crn.count = 1 ∧
      t.crn.chainBreak = false ∧ t.crn.breakSeq = 0 ∧ t.crn.bothFail = false ∧ t.crn.clearing = false ∧ t.media = s.media ∧
      (∀ q c, s.crn.clearOwner = some q → s.cmd q = some c → c.ended = false → c.sq = 0 → (∀ r, q ∉ (s.ctl r).aers) → t.endedWith q 0 0))

/-! ## The management sideband (chapter 21) -/

/-- While the position is open a frame is kept, and the second of two equal frames from 1 to 1,023 fixes it; a steady low fixes 0 and a timeout
the error state, with position 0x3FF and CHN_OUT high. The unit without an address then sends Notify ARP Master or Hot-Join once. After that
neither row does anything, and a pair of frames never moves it. CHAIN_FRAME_SEND sends start, V, even parity and stop, V 0
or position + 1, or nothing where CHN_OUT is held. ARP takes the address for this UDID alone. ALERT_RESPONSE_ADDRESS_READ returns the address
and releases ALERT_N, as IBI_ACKNOWLEDGE does. SCL_LOW_TIMEOUT releases the bus. In I3C mode ENTDAA, RSTDAA and SETNEWDA set the address,
GETPID, GETBCR, GETDCR, GETSTATUS, GETMRL and GETMWL answer, SETMRL and SETMWL cap at 256 (log entry 120), ENEC and DISEC switch
interrupts.
-/
def Obligations.ChainAndBusAddresses : Prop :=
  (∀ s : State, s.powered = true → s.sbd.chain = 0 →
    (∀ v, s.sbd.lastFrame ≠ some (v % 1024) ∨ v % 1024 = 0 →
      exec (.chainFrameReceived v) s = .next { s with sbd := { s.sbd with lastFrame := some (v % 1024) } }) ∧
    (∀ i st pos, (i = .chainSteadyLow ∧ st = 2 ∧ pos = 0) ∨ (i = .chainErrorTimeout ∧ st = 3 ∧ pos = 0) ∨
        (i = .chainFrameReceived pos ∧ st = 1 ∧ s.sbd.lastFrame = some pos ∧ 1 ≤ pos ∧ pos < 1024) → ∃ t, exec i s = .next t ∧
      t.sbd.chain = st ∧ t.chainId = (if st = 3 then 0x3FF else pos) ∧ t.pins.chnOut = (s.pins.chnOut || (st == 3 || pos == 1023)) ∧
      t.lanes = s.lanes ∧ t.media = s.media ∧
      (s.sbd.joined = false → s.get Reg.SBD_STATUS_ADDR_VALID = 0 → t.sbd.joined = true ∧
        (if s.i3c = true then .i3c [0x02] else .smbus [0x10, 0xC2, 0x00, 0x00]) ∈ t.out))) ∧
  (∀ s : State, s.sbd.chain ≠ 0 → exec .chainSteadyLow s = .next s ∧ exec .chainErrorTimeout s = .next s ∧
    ∀ v, ∃ t, exec (.chainFrameReceived v) s = .next t ∧ t.sbd.chain = s.sbd.chain ∧ t.sbd.position = s.sbd.position ∧
      (s.powered = true → 1 ≤ v → v < 1024 → s.sbd.lastFrame = some v →
        t = (if s.sbd.chain ≠ 3 ∧ v = s.sbd.position then id else fun u : State => u.raise 0x7FA v) { s with sbd := { s.sbd with lastFrame := none } })) ∧
  (∀ (s : State) (v : Nat), s.powered = true → s.boot.fuseEnded = true → v = (if s.sbd.chain = 0 then 0 else s.sbd.position + 1) →
    (s.pins.chnOut = true → exec .chainFrameSend s = .next s) ∧
    (s.pins.chnOut = false → ∃ p : Bool, exec .chainFrameSend s =
        .next { s with out := .chainFrame ([true] ++ (List.range 10).map (fun i => v.testBit (9 - i)) ++ [p, false]) :: s.out } ∧
      (((List.range 10).map fun i => v.testBit (9 - i)) ++ [p]).count true % 2 = 0)) ∧
  (∀ s : State, s.powered = true → s.i3c = false →
    (∀ a, s.sbd.chain ≠ 0 → ∃ t, exec (.arpAssignAddress s.udid a) s = .next t ∧ t.get Reg.SBD_ADDR_ADDR = a % 128 ∧
      t.get Reg.SBD_STATUS_ADDR_VALID = 1 ∧ t = { s with regs := t.regs }) ∧
    (∀ u a, u ≠ s.udid ∨ s.sbd.chain = 0 → exec (.arpAssignAddress u a) s = .next s) ∧
    (∀ a, s.smbusAddr = some a → s.sbd.alertPend = true → ∃ t b, exec .alertResponseAddressRead s = .next t ∧ t.out = .smbus [b] :: s.out ∧
      b.toNat / 2 = a % 128 ∧ t.sbd.alertPend = false ∧ t.pins.alertLow = false ∧ t.regs = s.regs) ∧
    exec .sclLowTimeout s = .next { s with out := .busRelease :: s.out }) ∧
  (∀ s : State, s.powered = true → s.i3c = true →
    (∀ a, s.sbd.chain ≠ 0 → s.hasAddr = false → ∃ t, exec (.entdaa a) s = .next t ∧ t.out = .i3c (s.pid ++ [0x06, 0x00]) :: s.out ∧
      t.get Reg.SBD_ADDR_ADDR = a % 128 ∧ t.hasAddr = true) ∧
    (∀ a, s.sbd.chain = 0 ∨ s.hasAddr = true → exec (.entdaa a) s = .next s) ∧
    (∃ t, exec .rstdaa s = .next t ∧ t.get Reg.SBD_ADDR_ADDR = 0 ∧ t.hasAddr = false ∧ t = { s with regs := t.regs }) ∧
    (s.hasAddr = true →
      (∀ a, ∃ t, exec (.setnewda a) s = .next t ∧ t.get Reg.SBD_ADDR_ADDR = a % 128 ∧ t.hasAddr = true ∧ t = { s with regs := t.regs }) ∧
      (∀ i l, (i, l) ∈ [(Instr.getpid, s.pid), (.getbcr, [0x06]), (.getdcr, [0x00]), (.getmwl, beBytes 2 s.sbd.mwl)] →
        exec i s = .next { s with out := .i3c l :: s.out }) ∧
      (∃ t x y, exec .getstatus s = .next t ∧ t = ({ s with free := t.free } : State).emit (.i3c [x, y]) ∧ y.toNat % 16 = flag s.sbd.alertPend) ∧
      (∃ t x, exec .getmrl s = .next t ∧ t = ({ s with free := t.free } : State).emit (.i3c (beBytes 2 s.sbd.mrl ++ [x])))) ∧
    (∀ v, exec (.setmrl v) s = .next { s with sbd := { s.sbd with mrl := min 256 v } } ∧
      exec (.setmwl v) s = .next { s with sbd := { s.sbd with mwl := min 256 v } }) ∧
    (∀ v : Nat, v.testBit 0 = true → exec (.enec v) s = .next { s with sbd := { s.sbd with ibi := true } } ∧
      exec (.disec v) s = .next { s with sbd := { s.sbd with ibi := false } }) ∧
    (s.sbd.alertPend = true → ∃ t, exec .ibiAcknowledge s = .next t ∧ t = { s with sbd := t.sbd, pins := t.pins } ∧ t.sbd.alertPend = false ∧
      t.pins.alertLow = false))

/-- A message the endpoint answers: Set Endpoint ID keeps an EID other than 0 and 0xFF; Get Endpoint ID, Get Endpoint UUID, Get MCTP
Version Support and Get Message Type Support give what the manual states. Any other control message changes nothing, and a dropped message counts.
At the set EID, Read NVMe-MI Data Structure lists ports and controllers, the health polls give Critical Warning inverted and temperature, and
CFS in the hold state, Configuration Set and Get keep the unit size, Reset type 0 acts as NSSR and other types fail. NVMe-MI Send and
Receive give the same answers in band. A tunnelled command of the list enters the fetch order of its controller; other opcodes fail with 0x03,
and with no such controller, in the hold state or in compatibility mode with 0x04. How the codes lie in a response follows the published standard (log entry
10). -/
def Obligations.MctpAndManagementCommands : Prop :=
  (∀ (s : State) (dest inst : Nat), s.answers dest = true →
    (∀ eid, 1 ≤ eid → eid ≤ 0xFE → ∃ t, exec (.setEndpointId dest inst eid) s = .next t ∧ t.get Reg.SBD_ADDR_EID = eid ∧
      t.get Reg.SBD_STATUS_EID_VALID = 1 ∧ t.get Reg.SBD_ADDR_ADDR = s.get Reg.SBD_ADDR_ADDR ∧ t.lanes = s.lanes ∧
      .mctp ([0x00] ++ leBytes 1 (inst % 32) ++ [0x01, 0x00, 0x00] ++ leBytes 1 eid ++ [0x00]) ∈ t.out) ∧
    (∀ eid, eid = 0 ∨ eid = 0xFF → exec (.setEndpointId dest inst eid) s =
      .next { s with out := .mctp ([0x00] ++ leBytes 1 (inst % 32) ++ [0x01, 0x02]) :: s.out }) ∧
    (∃ t f, exec (.getEndpointId dest inst) s = .next t ∧ f.length = 2 ∧ t = ({ s with free := t.free } : State).emit
      (.mctp ([0x00] ++ leBytes 1 (inst % 32) ++ [0x02, 0x00] ++ leBytes 1 (s.get Reg.SBD_ADDR_EID) ++ f))) ∧
    (∃ t f, exec (.getEndpointUuid dest inst) s = .next t ∧ f.length = 6 ∧ t = ({ s with free := t.free } : State).emit
      (.mctp ([0x00] ++ leBytes 1 (inst % 32) ++ [0x03, 0x00] ++ s.eui ++ beBytes 2 s.chainId ++ f))) ∧
    (∀ ty, (ty ∈ [0xFF, 0x00, 0x04] → ∃ t f, exec (.getMctpVersionSupport dest inst ty) s = .next t ∧ f.length = 4 ∧
        t = ({ s with free := t.free } : State).emit
      (.mctp ([0x00] ++ leBytes 1 (inst % 32) ++ [0x04, 0x00, 0x01] ++ f))) ∧
      (ty ∉ [0xFF, 0x00, 0x04] → exec (.getMctpVersionSupport dest inst ty) s =
        .next { s with out := .mctp ([0x00] ++ leBytes 1 (inst % 32) ++ [0x04, 0x80]) :: s.out })) ∧
    exec (.getMessageTypeSupport dest inst) s =
      .next { s with out := .mctp ([0x00] ++ leBytes 1 (inst % 32) ++ [0x05, 0x00, 0x02, 0x00, 0x04]) :: s.out }) ∧
  (∀ (s : State) (dest k : Nat), s.answers dest = false → ∀ i ∈ [Instr.setEndpointId dest k k, .getEndpointId dest k, .getEndpointUuid dest k,
    .getMctpVersionSupport dest k k, .getMessageTypeSupport dest k, .readNvmeMiDataStructure dest k k, .nvmSubsystemHealthStatusPoll dest,
    .controllerHealthStatusPoll dest k, .configurationSet dest k k, .configurationGet dest k, .miReset dest k, .registerRead dest k k],
    exec i s = .next s) ∧
  (∀ (s : State) (r : Fin 4), s.powered = true → ∃ t, exec (.mctpMessageDrop r) s = .next t ∧ t.lanes = s.lanes ∧
    t.get Reg.SBD_CNT_MCTP_ERR_COUNT = min (2 ^ 32 - 1) (s.get Reg.SBD_CNT_MCTP_ERR_COUNT + 1)) ∧
  (∀ (s : State) (dest : Nat), s.miOpen dest = true →
    (∀ x nmd1, x < 2 ^ 24 → exec (.readNvmeMiDataStructure dest x nmd1) s = .next (s.emit (.miResponse 0
      ([32, 0, 0] ++ leBytes 1 s.miControllers.length ++ [0x02, 0x00] ++ zeros 29)))) ∧
    (∀ nmd1, exec (.readNvmeMiDataStructure dest (2 * 2 ^ 24) nmd1) s = .next (s.emit (.miResponse 0
      (leBytes 3 (2 + 2 * s.miControllers.length) ++ leBytes 2 s.miControllers.length ++
        s.miControllers.flatMap fun p => leBytes 2 (p.val + 1))))) ∧
    (∃ t l, exec (.nvmSubsystemHealthStatusPoll dest) s = .next t ∧ t = ({ s with free := t.free } : State).emit (.miResponse 0 l) ∧
      l.length = 11 ∧ u8 l 4 = (255 - s.criticalWarning 0) % 256 ∧ u8 l 5 = miTemp s.compositeTemp) ∧
    (s.miControllers ≠ [] → ∃ t l, exec (.controllerHealthStatusPoll dest 0) s = .next t ∧
      t = ({ s with free := t.free } : State).emit (.miResponse 0 l) ∧ u8 l 2 = 1 ∧ l.length = 19 ∧
      (s.held = true → bit (u8 l 5) 1 = true)) ∧
    (∀ nmd1, nmd1 % 65536 = 64 → exec (.configurationSet dest 3 nmd1) s =
      .next ((s.setSbd { s.sbd with miMtu := 64 }).emit (.miResponse 0 [0, 0, 0]))) ∧
    exec (.configurationGet dest 3) s = .next { s with out := .miResponse 0 (leBytes 3 s.sbd.miMtu) :: s.out } ∧
    (∀ k, k % 256 ∉ [1, 2, 3] → exec (.configurationSet dest k 0) s = .next { s with out := .miResponse 4 [0, 0, 0] :: s.out } ∧
      exec (.configurationGet dest k) s = .next { s with out := .miResponse 4 [0, 0, 0] :: s.out }) ∧
    (∃ t, exec (.miReset dest 0) s = .next t ∧ (∀ p, s.portServes p = true → t.controllerGone p) ∧
      ((∀ c ∈ s.hif.cmds, c.transferred = false) → s.cache.selfTest = none → s.onlyHost t)) ∧
    (∀ k, 2 ^ 24 ≤ k → k < 2 ^ 32 → exec (.miReset dest k) s = .next { s with out := .miResponse 4 [0, 0, 0] :: s.out }) ∧
    (∀ cntlid e,
      (s.held = true ∨ s.boot.compat = true → exec (.tunnelledAdminCommand dest cntlid e) s = .next { s with out := .miResponse 4 [] :: s.out }) ∧
      (s.held = false → s.boot.compat = false →
        (e.opcode % 256 ∉ [0x02, 0x06, 0x09, 0x0A, 0x14, 0x80, 0x84, 0xC1] →
          exec (.tunnelledAdminCommand dest cntlid e) s = .next { s with out := .miResponse 3 [] :: s.out }) ∧
        (e.opcode % 256 ∈ [0x02, 0x06, 0x09, 0x0A, 0x14, 0x80, 0x84, 0xC1] →
          ((∀ p : Port, s.portPresent p = true → p.val + 1 ≠ cntlid) →
            exec (.tunnelledAdminCommand dest cntlid e) s = .next { s with out := .miResponse 4 [] :: s.out }) ∧
          (∀ p : Port, s.portPresent p = true → cntlid = p.val + 1 → (∀ d ∈ s.hif.cmds, d.seq ≠ s.hif.nextSeq) →
            (∀ r, s.hif.nextSeq ∉ (s.ctl r).aers) → ∃ t c, exec (.tunnelledAdminCommand dest cntlid e) s = .next t ∧
            t.cmd s.hif.nextSeq = some c ∧ c.port = p ∧ c.opcode = e.opcode % 256 ∧ c.sq = sqTunnel ∧ c.ended = false ∧
            t.hif.nextSeq = (s.hif.nextSeq + 1) % 2 ^ 48))))) ∧
  (∀ (s : State) (seq : Nat) (c : Command), c.sq = 0 → (∀ r, seq ∉ (s.ctl r).aers) →
    (s.dueAdmin seq 0x1D = some c → c.dw 11 = 3 → c.dw 12 = 3 → c.dw 13 = 64 → ∃ t, exec (.nvmeMiSend seq) s = .next t ∧
      t.endedWith seq 0 0 ∧ t.sbd.miMtu = 64 ∧ t.media = s.media) ∧
    (s.dueAdmin seq 0x1E = some c → c.ptrStatus = 0 → c.dw 11 = 4 → c.dw 12 = 3 → ∃ t, exec (.nvmeMiReceive seq .ok) s = .next t ∧
      t.endedWith seq 0 (s.sbd.miMtu * 2 ^ 8) ∧ .hostData c.port seq [] ∈ t.out ∧ t.sbd = s.sbd ∧ t.media = s.media) ∧
    (s.dueAdmin seq 0x1D = some c → 5 ≤ c.dw 11 → c.dw 11 < 256 → c.dw 11 ≠ 7 → ∃ t, exec (.nvmeMiSend seq) s = .next t ∧
      t.endedWith seq 0 3 ∧ t.sbd = s.sbd ∧ t.media = s.media))

/-- Before LOCKED is 1 REGISTER_READ and REGISTER_WRITE fail with 0xE0. With the gate closed, outside the hold state and native mode's
exceptions, a read of SBD.STATUS, SBD.ADDR or EVT.STATUS answers, any other read fails with 0x07, and a write fails with 0x07 and
raises SBD_REG_WRITE; in the hold state or compatibility mode it fails without the event. With the gate open a read answers what the
register reads as, a read of EVT.TQ_POP_LO with an empty queue waits for an item and after TQ_POP_TIMEOUT answers the marker (R203), and a write has its effect, but on SBD.GATE none. A count outside 1 to 64 fails with 0x04: the model's choice (log
entry 10). SBD_GATE_WRITE sets both fields; GATE_TIMEOUT closes the gate where TIMEOUT_S is not 0. HOST_LINK_LOSS with no link left sets
HOST_LINK_LOST and waits for every dirty extent; after a shutdown it does nothing. HOST_LINK_LOSS_TIMEOUT without a link wants the spindle
stopped and parks the used lanes; with one it does nothing. -/
def Obligations.GateAndHostLink : Prop :=
  (∀ (s : State) (dest off count : Nat) (v : Word), s.miOpen dest = true → off < 2 ^ 22 → off % 4 = 0 →
    (s.locked = false → exec (.registerRead dest off count) s = .next { s with out := .miResponse 0xE0 [0, 0, 0] :: s.out } ∧
      exec (.registerWrite dest off v) s = .next { s with out := .miResponse 0xE0 [0, 0, 0] :: s.out }) ∧
    (s.locked = true →
      (count = 0 ∨ 64 < count → exec (.registerRead dest off count) s = .next { s with out := .miResponse 4 [0, 0, 0] :: s.out }) ∧
      (s.get Reg.SBD_GATE_OPEN = 1 ∨ s.held = true ∨ s.boot.compat = true ∨ off ∈ [0xC0000, 0xC0004] ∨ (0x12000 ≤ off ∧ off < 0x12100) → off ≠ tqPopLo ∨ 0 < (s.queue 7).depth → ∀ x u,
        s.readReg (.req .sideband) off = (x, u) →
        exec (.registerRead dest off 1) s = .next { u with out := .miResponse 0 ([0, 0, 0] ++ leBytes 4 x) :: u.out }) ∧
      (s.sidebandReads tqPopLo = true → (s.queue 7).depth = 0 → s.powered = true → ∃ t, exec (.registerRead dest tqPopLo 1) s = .next t ∧
        t = { s with tqWait := s.tqWait ++ [.sideband], sbd := t.sbd } ∧ t.sbd.tqRead = some ([], 0) ∧
        (s.tqWait = [] → ∃ u, exec (.tqPopTimeout .sideband) t = .next u ∧ .miResponse 0 [0, 0, 0, 0, 128, 0, 0] ∈ u.out ∧ u.tqWait = [])) ∧
      (s.get Reg.SBD_GATE_OPEN = 0 → s.held = false → s.boot.compat = false →
        (off ∉ [0xC0000, 0xC0004] → off < 0x12000 ∨ 0x12100 ≤ off →
          exec (.registerRead dest off 1) s = .next { s with out := .miResponse 7 [0, 0, 0] :: s.out }) ∧
        ∃ u : State, u = s.raise 0x7FB (off + 2 ^ 22) ∧
          exec (.registerWrite dest off v) s = .next { u with out := .miResponse 7 [0, 0, 0] :: u.out }) ∧
      (s.held = true ∨ s.boot.compat = true → exec (.registerWrite dest off v) s = .next { s with out := .miResponse 7 [0, 0, 0] :: s.out }) ∧
      (s.get Reg.SBD_GATE_OPEN = 1 → s.held = false → s.boot.compat = false → s.powered = true →
        (off = 0xC0008 → ∃ t, exec (.registerWrite dest off v) s = .next t ∧ t.get Reg.SBD_GATE_OPEN = 1 ∧
          t.get Reg.SBD_GATE_TIMEOUT_S = s.get Reg.SBD_GATE_TIMEOUT_S) ∧
        ∃ u : State, u = (s.writeReg (.req .sideband) off v.toNat none).raise 0x7FB off ∧
          exec (.registerWrite dest off v) s = .next { u with out := .miResponse 0 [0, 0, 0] :: u.out }))) ∧
  (∀ (s : State) (p : Port) (v : Word), s.barOpen p = true → s.locked = true → ∃ t, exec (.sbdGateWrite p v) s = .next t ∧
    t.get Reg.SBD_GATE_OPEN = bits v.toNat 31 31 ∧ t.get Reg.SBD_GATE_TIMEOUT_S = v.toNat % 65536 ∧ t.media = s.media ∧ t.lanes = s.lanes) ∧
  (∀ s : State, s.powered = true → s.get Reg.SBD_GATE_OPEN = 1 →
    (s.get Reg.SBD_GATE_TIMEOUT_S ≠ 0 → ∃ t, exec .gateTimeout s = .next t ∧ t.get Reg.SBD_GATE_OPEN = 0 ∧
      t.get Reg.SBD_GATE_TIMEOUT_S = s.get Reg.SBD_GATE_TIMEOUT_S ∧ t.lanes = s.lanes) ∧
    (s.get Reg.SBD_GATE_TIMEOUT_S = 0 → exec .gateTimeout s = .next s)) ∧
  (∀ s : State, s.powered = true → s.anyLink = false → s.hif.trained ≠ [] → s.devState ≠ 3 → s.get Reg.SBD_STATUS_HOST_LINK_LOST = 0 →
    (s.sbd.shutdown = true → exec .hostLinkLoss s = .next s) ∧
    (s.sbd.shutdown = false → s.destageable = true → s.hif.sata.stopDue = false → s.buf.stopDue = false → (∀ p, (s.ctl p).shst ≠ 1) → ∃ t,
      exec .hostLinkLoss s = .next t ∧ t.get Reg.SBD_STATUS_HOST_LINK_LOST = 1 ∧ t.sbd.lossDestage = true ∧ t.mustDestage = true ∧
      t.cache.extents = s.cache.extents ∧ t.media = s.media)) ∧
  (∀ s : State, s.anyLink = true ∨ s.get Reg.SBD_STATUS_HOST_LINK_LOST = 0 → exec .hostLinkLossTimeout s = .next s) ∧
  (∀ s : State, s.anyLink = false → s.get Reg.SBD_STATUS_HOST_LINK_LOST = 1 → s.devState ≠ 3 → ∃ t, exec .hostLinkLossTimeout s = .next t ∧
    t.whl.stopWanted = true ∧ t.media = s.media ∧ t.cache = s.cache ∧
    ∀ n : Lane, s.used n.val = true → (s.lane n).sek.phase = .onTrack → ∃ c, (t.lane n).sek.phase = .starting c true)

/-! ## The register window (chapters 1 and 22) -/

/-- By a port whose BAR2 is open after the lock, of a present lane, sequencer or queue: the read returns the whole register as it stood,
its counting bits then are 0, and no other register changes but GATE_STATUS, which shows the block that the read woke; of the rest of the state
only the totals that the log pages add up (R547, R548) change. This names every counter read of the table. A read of a LO register returns
bits [31:0] of the value, changes nothing but the port's capture, and until the port captures anew its HI register reads bits [63:32] of that
value, whatever the value has become.
-/
def Obligations.CountersReadAndClear : Prop :=
  (∀ (s : State) (p : Port) (n : Lane) (q : QIx) (i : Instr) (off width : Nat), s.barOpen p = true → s.locked = true → s.present n.val = true →
    (q.val = 7 ∨ s.seqPresent q.val = true) →
    ((i, off, width) ∈ [(Instr.absentCntRead (.port p), 0x20, 32), (.slotPeakRead (.port p), 0x71004, 17), (.cntMctpErrRead (.port p), 0xC0010, 32),
        (.cntWgCutRead (.port p) n, 0xA0040 + 4 * n.val, 32), (.privLostRead (.port p) n, 0x2000C + 0x40 * n.val, 30),
        (.qDropsRead (.port p) q, 0x13008 + 0x20 * q.val, 8)] ∨
      (width = 32 ∧ ((∃ k, i = .whlCounterRead (.port p) k ∧ off = 0x80020 + 4 * k.val) ∨
        (∃ k, i = .bufCounterRead (.port p) k ∧ off = 0x40100 + 4 * k.val) ∨
        (∃ k, k.val < 22 ∧ i = .chnCounterRead (.port p) n k ∧
          off = 0x100000 + 0x40000 * n.val + (if k.val < 6 then 0x60 + 4 * k.val else 0x80 + 4 * (k.val - 6))) ∨
        (∃ k, i = .rcvCounterRead (.port p) n k ∧ off = 0x100140 + 0x40000 * n.val + 4 * k.val) ∨
        (∃ k, i = .fmtCounterRead (.port p) n k ∧ off = 0x110010 + 0x40000 * n.val + 4 * k.val) ∨
        (∃ k, i = .sveCounterRead (.port p) n k ∧ off = 0x120020 + 0x40000 * n.val + 4 * k.val) ∨
        (∃ k, i = .sekCounterRead (.port p) n k ∧ off = 0x130020 + 0x40000 * n.val + 4 * k.val)))) →
    ∃ t, exec i s = .next t ∧ t.out = .readData (.port p) (s.reg off) :: s.out ∧ (t.reg off).toNat % 2 ^ width = 0 ∧
      (∀ o, o ≠ off → o ≠ 0xD0014 → t.reg o = s.reg o) ∧
      t = { s with regs := t.regs, out := t.out, hif := { s.hif with totals := t.hif.totals } }) ∧
  (∀ (s : State) (p : Port) (off v : Nat), s.barOpen p = true → s.locked = true →
    (off, v) ∈ [(0x30008, s.imageSeq), (0x71008, s.hif.nextSeq), (0xB0008, s.crn.nextSeq - 1), (0xB0010, s.crn.commit), (0xB0018, s.crn.breakSeq),
      (0xB0020, s.crn.opTime), (0xB0030, s.crn.nonce)] →
    ∃ t, exec (.loRegisterRead (.port p) off) s = .next t ∧ t.out = .readData (.port p) (BitVec.ofNat 32 v) :: s.out ∧
      t = { s with caps := t.caps, out := t.out } ∧
      ∀ u : State, u.caps = t.caps → (u.readReg (.req (.port p)) (off + 4)).1 = v / 2 ^ 32 % 2 ^ 32) ∧
  (∀ (s : State) (p : Port) (n : Lane), s.barOpen p = true → s.locked = true → s.present n.val = true → ∀ off ∈ [0x1000C8 + 0x40000 * n.val,
    0x130010 + 0x40000 * n.val], ∃ t, exec (.loRegisterRead (.port p) off) s = .next t ∧ t.out = .readData (.port p) (s.reg off) :: s.out ∧
      ∀ u : State, u.caps = t.caps → u.absentAt (off + 4) = false →
        (u.readReg (.req (.port p)) (off + 4)).1 = (s.reg (off + 4)).toNat)

/-- By a port: before the lock a write changes nothing. After it a write of GLB.SCRATCH stores the word, a write of EVT.STATUS clears the
bits written 1, and a write of a read-only GLB register, of ABSENT_CNT or of a reserved address changes nothing. An access to an absent
lane's window counts in ABSENT_CNT, saturating, stands in ABSENT_LAST with its offset, direction and source, and a read of it returns 0; the
row does nothing at an address that is not absent. A partial dword write raises 0x00E with that layout and writes nothing. A request across a
64-byte boundary gets Completer Abort, an AtomicOp gets Unsupported Request, and neither accesses anything.
-/
def Obligations.WindowAccesses : Prop :=
  (∀ (s : State) (p : Port) (off : Nat) (v : Word), s.barOpen p = true → s.locked = false → exec (.registerWindowWrite (.port p) off v) s = .next s) ∧
  (∀ (s : State) (p : Port) (v : Word), s.barOpen p = true → s.locked = true →
    (∃ t, exec (.registerWindowWrite (.port p) 0x30 v) s = .next t ∧ t.reg 0x30 = v ∧ (∀ o, o ≠ 0x30 → t.reg o = s.reg o) ∧
      t = { s with regs := t.regs }) ∧
    (∀ w, w < 64 → ∃ t, exec (.registerWindowWrite (.port p) (0x12000 + 4 * w) v) s = .next t ∧
      t.reg (0x12000 + 4 * w) = (s.reg (0x12000 + 4 * w)) &&& ~~~v ∧ (∀ o, o ≠ 0x12000 + 4 * w → t.reg o = s.reg o) ∧ t = { s with regs := t.regs }) ∧
    (∀ off, off ∈ [0x00, 0x04, 0x08, 0x10, 0x14, 0x20, 0x24, 0x28] ∨ (0xE0000 ≤ off ∧ off < 0x100000) ∨ (0x200000 ≤ off ∧ off < 0x400000) →
      exec (.registerWindowWrite (.port p) off v) s = .next s)) ∧
  (∀ (s : State) (p : Port) (n : Lane) (o : Nat) (write : Bool) (v : Word), s.barOpen p = true → s.locked = true → s.present n.val = false →
    o < 0x10000 → ∃ t, exec (.absentAccess (.port p) (0x100000 + 0x40000 * n.val + 4 * o) write v) s = .next t ∧
      (t.reg 0x20).toNat = min (2 ^ 32 - 1) ((s.reg 0x20).toNat + 1) ∧
      (t.reg 0x24).toNat = 0x100000 + 0x40000 * n.val + 4 * o + (if write = true then 2 ^ 22 else 0) + p.val * 2 ^ 24 ∧
      (write = false → .readData (.port p) 0 ∈ t.out) ∧ t.lanes = s.lanes ∧ t.media = s.media ∧ t.mover.sram = s.mover.sram) ∧
  (∀ (s : State) (p : Port) (off : Nat) (write : Bool) (v : Word), s.absentAt (dword off) = false →
    exec (.absentAccess (.port p) off write v) s = .next s) ∧
  (∀ (s : State) (p : Port) (off : Nat), s.barOpen p = true → s.locked = true → off < 2 ^ 22 → off % 4 = 0 → ∃ t,
    exec (.partialWrite p off) s = .next t ∧ t = s.raise 0x00E (off + 2 ^ 22 + p.val * 2 ^ 24) ∧ (∀ o, o < 0x12000 → t.reg o = s.reg o) ∧
      t.lanes = s.lanes ∧ t.media = s.media ∧ t.buf = s.buf) ∧
  (∀ (s : State) (p : Port), s.barOpen p = true → exec (.boundaryCrossingRequest p) s = .next { s with out := .completerAbort :: s.out } ∧
    exec (.atomicopRequest p) s = .next { s with out := .unsupportedRequest :: s.out })
end

