-- ==== Sys2Proof/Laws/Bits.lean ====
section
/-! SUPPORT. Laws of the bit-field arithmetic: a field reads as it was written, other fields are unchanged. -/

namespace Sys2Proof

/-- A number cut at a field: what lies above, the field, and what lies below. -/
theorem bits_split (w hi lo : Nat) (h : lo ≤ hi + 1) :
    w = w / 2 ^ (hi + 1) * 2 ^ (hi + 1) + bits w hi lo * 2 ^ lo + w % 2 ^ lo := by
  have e : 2 ^ (hi + 1) = 2 ^ (hi + 1 - lo) * 2 ^ lo := by rw [← Nat.pow_add]; congr 1; omega
  have h1 : w / 2 ^ (hi + 1) = w / 2 ^ lo / 2 ^ (hi + 1 - lo) := by
    rw [Nat.div_div_eq_div_mul, ← Nat.pow_add]; congr 2; omega
  have h2 := Nat.div_add_mod w (2 ^ lo)
  have h3 := Nat.div_add_mod (w / 2 ^ lo) (2 ^ (hi + 1 - lo))
  rw [h1, bits, e]
  generalize w / 2 ^ lo = q at *
  generalize q / 2 ^ (hi + 1 - lo) = a at *
  generalize q % 2 ^ (hi + 1 - lo) = b at *
  rw [← Nat.mul_assoc, ← Nat.add_mul, Nat.mul_comm a, h3, Nat.mul_comm q, h2]

theorem setBits_eq (w hi lo v : Nat) (h : lo ≤ hi + 1) :
    setBits w hi lo v = w / 2 ^ (hi + 1) * 2 ^ (hi + 1) + v % 2 ^ (hi + 1 - lo) * 2 ^ lo + w % 2 ^ lo := by
  have := bits_split w hi lo h
  unfold setBits
  omega

theorem bits_lt (w hi lo : Nat) : bits w hi lo < 2 ^ (hi + 1 - lo) := Nat.mod_lt _ (Nat.two_pow_pos _)

theorem setBits_lt {w hi lo v n : Nat} (h : lo ≤ hi) (hn : hi < n) (hw : w < 2 ^ n) : setBits w hi lo v < 2 ^ n := by
  rw [setBits_eq w hi lo v (by omega)]
  have e : 2 ^ (hi + 1) = 2 ^ (hi + 1 - lo) * 2 ^ lo := by rw [← Nat.pow_add]; congr 1; omega
  have en : 2 ^ n = 2 ^ (n - (hi + 1)) * 2 ^ (hi + 1) := by rw [← Nat.pow_add]; congr 1; omega
  have h1 : w / 2 ^ (hi + 1) < 2 ^ (n - (hi + 1)) := by
    rw [Nat.div_lt_iff_lt_mul (Nat.two_pow_pos _), ← en]; exact hw
  have h2 : v % 2 ^ (hi + 1 - lo) < 2 ^ (hi + 1 - lo) := Nat.mod_lt _ (Nat.two_pow_pos _)
  have h3 : w % 2 ^ lo < 2 ^ lo := Nat.mod_lt _ (Nat.two_pow_pos _)
  have h4 : v % 2 ^ (hi + 1 - lo) * 2 ^ lo + w % 2 ^ lo < 2 ^ (hi + 1) := by
    have := Nat.mul_le_mul_right (2 ^ lo) (Nat.succ_le_of_lt h2)
    rw [Nat.succ_mul, ← e] at this
    omega
  have h5 := Nat.mul_le_mul_right (2 ^ (hi + 1)) (Nat.succ_le_of_lt h1)
  rw [Nat.succ_mul, ← en] at h5
  omega

/-- A field reads as it was written, cut to its width. -/
theorem bits_setBits (w hi lo v : Nat) (h : lo ≤ hi) : bits (setBits w hi lo v) hi lo = v % 2 ^ (hi + 1 - lo) := by
  rw [setBits_eq w hi lo v (by omega), bits]
  have e : 2 ^ (hi + 1) = 2 ^ (hi + 1 - lo) * 2 ^ lo := by rw [← Nat.pow_add]; congr 1; omega
  rw [e, ← Nat.mul_assoc, ← Nat.add_mul, Nat.mul_comm _ (2 ^ lo), Nat.mul_add_div (Nat.two_pow_pos _),
    Nat.div_eq_of_lt (Nat.mod_lt _ (Nat.two_pow_pos _)), Nat.add_zero, Nat.mul_comm, Nat.mul_add_mod, Nat.mod_mod]

theorem bits_setBits_above (w hi lo v hi' lo' : Nat) (h : lo ≤ hi) (ha : hi < lo') :
    bits (setBits w hi lo v) hi' lo' = bits w hi' lo' := by
  have key : setBits w hi lo v / 2 ^ (hi + 1) = w / 2 ^ (hi + 1) := by
    rw [setBits_eq w hi lo v (by omega)]
    have e : 2 ^ (hi + 1) = 2 ^ (hi + 1 - lo) * 2 ^ lo := by rw [← Nat.pow_add]; congr 1; omega
    have h2 : v % 2 ^ (hi + 1 - lo) < 2 ^ (hi + 1 - lo) := Nat.mod_lt _ (Nat.two_pow_pos _)
    have h3 : w % 2 ^ lo < 2 ^ lo := Nat.mod_lt _ (Nat.two_pow_pos _)
    have h4 : v % 2 ^ (hi + 1 - lo) * 2 ^ lo + w % 2 ^ lo < 2 ^ (hi + 1) := by
      have := Nat.mul_le_mul_right (2 ^ lo) (Nat.succ_le_of_lt h2)
      rw [Nat.succ_mul, ← e] at this
      omega
    rw [Nat.add_assoc, Nat.mul_comm, Nat.mul_add_div (Nat.two_pow_pos _), Nat.div_eq_of_lt h4, Nat.add_zero]
  have d : ∀ x : Nat, x / 2 ^ lo' = x / 2 ^ (hi + 1) / 2 ^ (lo' - (hi + 1)) := by
    intro x; rw [Nat.div_div_eq_div_mul, ← Nat.pow_add]; congr 2; omega
  rw [bits, bits, d, d w, key]

theorem bits_setBits_below (w hi lo v hi' lo' : Nat) (h : lo ≤ hi) (hb : hi' < lo) :
    bits (setBits w hi lo v) hi' lo' = bits w hi' lo' := by
  have key : setBits w hi lo v % 2 ^ lo = w % 2 ^ lo := by
    rw [setBits_eq w hi lo v (by omega)]
    have e : 2 ^ (hi + 1) = 2 ^ (hi + 1 - lo) * 2 ^ lo := by rw [← Nat.pow_add]; congr 1; omega
    rw [e, ← Nat.mul_assoc, ← Nat.add_mul, Nat.mul_comm _ (2 ^ lo), Nat.mul_add_mod, Nat.mod_mod]
  have d : ∀ x : Nat, bits x hi' lo' = bits (x % 2 ^ lo) hi' lo' := by
    intro x
    unfold bits
    by_cases hl : lo' ≤ hi'
    · have e2 : 2 ^ lo = 2 ^ lo' * 2 ^ (lo - lo') := by rw [← Nat.pow_add]; congr 1; omega
      rw [e2, Nat.mod_mul_right_div_self, Nat.mod_mod_of_dvd]
      exact Nat.pow_dvd_pow 2 (by omega)
    · rw [show hi' + 1 - lo' = 0 by omega]; simp [Nat.mod_one]
  rw [d, d w, key]

/-- A field disjoint from the one written is unchanged. -/
theorem bits_setBits_of_disjoint (w hi lo v hi' lo' : Nat) (h : lo ≤ hi) (hd : hi < lo' ∨ hi' < lo) :
    bits (setBits w hi lo v) hi' lo' = bits w hi' lo' := by
  rcases hd with hd | hd
  · exact bits_setBits_above w hi lo v hi' lo' h hd
  · exact bits_setBits_below w hi lo v hi' lo' h hd

theorem flag_le_one (b : Bool) : flag b ≤ 1 := by cases b <;> decide

theorem signed_twos (n : Nat) (v : Int) (hn : 0 < n) (hlo : -(2 ^ (n - 1) : Nat) ≤ v) (hhi : v < (2 ^ (n - 1) : Nat)) :
    signed n (twos n v) = v := by
  have e : (2 ^ n : Nat) = 2 * 2 ^ (n - 1) := by rw [← Nat.pow_succ']; congr 1; omega
  have hp : 0 < 2 ^ (n - 1) := Nat.two_pow_pos _
  unfold signed twos
  rw [e]
  generalize 2 ^ (n - 1) = m at *
  rcases Int.lt_or_le v 0 with hv | hv
  · have e1 : v % ((2 * m : Nat) : Int) = v + (2 * m : Nat) := by
      rw [← Int.add_emod_right, Int.emod_eq_of_lt (by omega) (by omega)]
    have e2 : ((v + ((2 * m : Nat) : Int)).toNat) % (2 * m) = (v + ((2 * m : Nat) : Int)).toNat :=
      Nat.mod_eq_of_lt (by omega)
    rw [e1, e2, if_neg (by omega)]; omega
  · have e1 : v % ((2 * m : Nat) : Int) = v := Int.emod_eq_of_lt hv (by omega)
    have e2 : v.toNat % (2 * m) = v.toNat := Nat.mod_eq_of_lt (by omega)
    rw [e1, e2, if_pos (by omega)]; omega

end Sys2Proof
end

