-- ==== Sys2Proof/Laws/Sparse.lean ====
section
/-! SUPPORT. Laws of the sparse maps: a read after a write, and that every operation keeps the canonical form. -/

namespace Sys2Proof.Machine

variable {β : Type}

/-! ## Reading after writing -/

theorem Sparse.get_filter (d : Nat → β) (m : Sparse β) (p : Nat → Bool) (b : Nat) :
    Sparse.get d (m.filter fun e => p e.1) b = if p b then Sparse.get d m b else d b := by
  induction m with
  | nil => simp [Sparse.get]
  | cons e t ih =>
    obtain ⟨k, v⟩ := e
    rw [List.filter_cons]
    by_cases hp : p k
    · simp only [hp, if_true, Sparse.get]
      by_cases hk : k = b
      · subst hk; simp [hp]
      · simp [hk, ih]
    · simp only [hp, Bool.false_eq_true, if_false, ih, Sparse.get]
      by_cases hk : k = b
      · subst hk; simp [hp]
      · simp [hk]

theorem Sparse.get_place (d : Nat → β) (m : Sparse β) (a : Nat) (v : β) (b : Nat)
    (h : ∀ e ∈ m, e.1 ≠ a) : Sparse.get d (Sparse.place m a v) b = if b = a then v else Sparse.get d m b := by
  induction m with
  | nil => simp [Sparse.place, Sparse.get, eq_comm]
  | cons e t ih =>
    obtain ⟨k, w⟩ := e
    have hk : k ≠ a := h _ List.mem_cons_self
    have ih := ih fun e he => h e (List.mem_cons_of_mem _ he)
    simp only [Sparse.place]
    split
    · simp only [Sparse.get, eq_comm (a := a)]
    · simp only [Sparse.get, ih]
      by_cases hb : k = b
      · subst hb; simp [hk]
      · simp [hb]

/-- A read after a write: the value written at its key, what stood there at every other. -/
theorem Sparse.get_set [DecidableEq β] (d : Nat → β) (m : Sparse β) (a : Nat) (v : β) (b : Nat) :
    Sparse.get d (Sparse.set d m a v) b = if b = a then v else Sparse.get d m b := by
  have hf := Sparse.get_filter d m (fun k => k != a) b
  by_cases hb : b = a
  · subst hb
    simp only [Sparse.set]
    split
    · simp_all
    · rw [Sparse.get_place]
      · simp
      · simp
  · simp only [Sparse.set]
    split
    · simpa [hb] using hf
    · rw [Sparse.get_place]
      · simpa [hb] using hf
      · simp

/-! ## The canonical form -/

theorem Sparse.wfFrom_mono [DecidableEq β] (d : Nat → β) {lo lo' : Nat} (h : lo' ≤ lo) {m : Sparse β}
    (hm : Sparse.wfFrom d lo m = true) : Sparse.wfFrom d lo' m = true := by
  cases m with
  | nil => rfl
  | cons e t =>
    simp only [Sparse.wfFrom, Bool.and_eq_true, decide_eq_true_eq] at hm ⊢
    exact ⟨⟨by omega, hm.1.2⟩, hm.2⟩

theorem Sparse.wfFrom_filter [DecidableEq β] (d : Nat → β) (p : Nat × β → Bool) {lo : Nat} {m : Sparse β}
    (hm : Sparse.wfFrom d lo m = true) : Sparse.wfFrom d lo (m.filter p) = true := by
  induction m generalizing lo with
  | nil => rfl
  | cons e t ih =>
    simp only [Sparse.wfFrom, Bool.and_eq_true, decide_eq_true_eq] at hm
    rw [List.filter_cons]
    split
    · simp only [Sparse.wfFrom, Bool.and_eq_true, decide_eq_true_eq]
      exact ⟨hm.1, ih hm.2⟩
    · exact Sparse.wfFrom_mono d (by omega) (ih hm.2)

theorem Sparse.wf_filter [DecidableEq β] (d : Nat → β) (p : Nat × β → Bool) {m : Sparse β}
    (hm : Sparse.wf d m = true) : Sparse.wf d (m.filter p) = true := Sparse.wfFrom_filter d p hm

theorem Sparse.wfFrom_place [DecidableEq β] (d : Nat → β) (a : Nat) (v : β) (hv : v ≠ d a) {lo : Nat} {m : Sparse β}
    (ha : lo ≤ a) (hm : Sparse.wfFrom d lo m = true) (hn : ∀ e ∈ m, e.1 ≠ a) :
    Sparse.wfFrom d lo (Sparse.place m a v) = true := by
  induction m generalizing lo with
  | nil => simp [Sparse.place, Sparse.wfFrom, ha, hv]
  | cons e t ih =>
    obtain ⟨k, w⟩ := e
    have hk : k ≠ a := hn _ List.mem_cons_self
    simp only [Sparse.wfFrom, Bool.and_eq_true, decide_eq_true_eq] at hm
    simp only [Sparse.place]
    split
    · simp only [Sparse.wfFrom, Bool.and_eq_true, decide_eq_true_eq]
      exact ⟨⟨ha, hv⟩, ⟨by omega, hm.1.2⟩, hm.2⟩
    · simp only [Sparse.wfFrom, Bool.and_eq_true, decide_eq_true_eq]
      exact ⟨hm.1, ih (by omega) hm.2 fun e he => hn e (List.mem_cons_of_mem _ he)⟩

/-- A write keeps the canonical form. -/
theorem Sparse.wf_set [DecidableEq β] (d : Nat → β) (m : Sparse β) (a : Nat) (v : β)
    (hm : Sparse.wf d m = true) : Sparse.wf d (Sparse.set d m a v) = true := by
  have hf := Sparse.wf_filter d (fun e => e.1 != a) hm
  simp only [Sparse.set]
  split
  · exact hf
  · rename_i hv
    exact Sparse.wfFrom_place d a v hv (Nat.zero_le a) hf (by simp)

/-! ## Byte memories -/

theorem Memory.wf_write (d : Nat → Byte) (m : Memory) (a : Nat) (l : List Byte)
    (hm : Memory.wf d m = true) : Memory.wf d (Memory.write d m a l) = true := by
  induction l generalizing m a with
  | nil => exact hm
  | cons b t ih => exact ih _ _ (Sparse.wf_set d m a b hm)

theorem Memory.wf_erase (d : Nat → Byte) (m : Memory) (a n : Nat)
    (hm : Memory.wf d m = true) : Memory.wf d (Memory.erase m a n) = true := Sparse.wf_filter d _ hm

/-- A byte outside the bytes written reads as before. -/
theorem Memory.get_write_of_lt (d : Nat → Byte) (m : Memory) (a : Nat) (l : List Byte) (b : Nat)
    (h : b < a ∨ a + l.length ≤ b) : Sparse.get d (Memory.write d m a l) b = Sparse.get d m b := by
  induction l generalizing m a with
  | nil => rfl
  | cons x t ih =>
    simp only [Memory.write, List.length_cons] at h ⊢
    rw [ih _ _ (by omega), Sparse.get_set, if_neg (by omega)]

/-- A byte written reads as it was written. -/
theorem Memory.get_write (d : Nat → Byte) (m : Memory) (a : Nat) (l : List Byte) (i : Nat) (h : i < l.length) :
    Sparse.get d (Memory.write d m a l) (a + i) = l[i] := by
  induction l generalizing m a i with
  | nil => simp at h
  | cons x t ih =>
    simp only [Memory.write]
    cases i with
    | zero => rw [Memory.get_write_of_lt _ _ _ _ _ (by omega), Sparse.get_set]; simp
    | succ i =>
      have := ih (Sparse.set d m a x) (a + 1) i (by simpa using h)
      rw [show a + (i + 1) = a + 1 + i by omega, this]; rfl

/-- Reading back what was written. -/
theorem Memory.read_write (d : Nat → Byte) (m : Memory) (a : Nat) (l : List Byte) :
    Memory.read d (Memory.write d m a l) a l.length = l := by
  have key : ∀ (n i : Nat), i + n = l.length → Memory.read d (Memory.write d m a l) (a + i) n = l.drop i := by
    intro n
    induction n with
    | zero => intro i hi; simp [Memory.read, List.drop_eq_nil_of_le (show l.length ≤ i by omega)]
    | succ n ih =>
      intro i hi
      have hlt : i < l.length := by omega
      rw [Memory.read, Memory.get_write d m a l i hlt, show a + i + 1 = a + (i + 1) by omega, ih (i + 1) (by omega),
        List.drop_eq_getElem_cons hlt]
  simpa using key l.length 0 (by omega)

end Sys2Proof.Machine
end

