-- ==== Sys2Proof/Laws/State.lean ====
section
/-! SUPPORT. Laws of the state's updates: what each one does to each field, and how registers, lanes and sequencers read after a
write. -/

namespace Sys2Proof.Machine

/-! ## Registers -/

/-- A register reads as it was written; every other register is unchanged. -/
theorem State.reg_setReg (s : State) (a b : Nat) (v : Word) : (s.setReg a v).reg b = if b = a then v else s.reg b :=
  Sparse.get_set ..

@[simp] theorem State.reg_setReg_same (s : State) (a : Nat) (v : Word) : (s.setReg a v).reg a = v := by
  rw [State.reg_setReg, if_pos rfl]

theorem State.reg_setReg_ne (s : State) {a b : Nat} (v : Word) (h : b ≠ a) : (s.setReg a v).reg b = s.reg b := by
  rw [State.reg_setReg, if_neg h]

/-- Writing a field leaves every other register. -/
theorem State.reg_put_ne (s : State) (f : Fld) (v : Nat) {b : Nat} (h : b ≠ f.off) : (s.put f v).reg b = s.reg b :=
  s.reg_setReg_ne _ h

theorem State.toNat_reg_put (s : State) (f : Fld) (v : Nat) (h : f.lo ≤ f.hi) (h31 : f.hi ≤ 31) :
    ((s.put f v).reg f.off).toNat = setBits (s.reg f.off).toNat f.hi f.lo v := by
  rw [State.put, State.reg_setReg_same, BitVec.toNat_ofNat,
    Nat.mod_eq_of_lt (setBits_lt h (by omega) (s.reg f.off).isLt)]

/-- A field reads as it was written, cut to its width. -/
theorem State.get_put (s : State) (f : Fld) (v : Nat) (h : f.lo ≤ f.hi) (h31 : f.hi ≤ 31) :
    (s.put f v).get f = v % 2 ^ (f.hi + 1 - f.lo) := by
  rw [State.get, s.toNat_reg_put f v h h31, bits_setBits _ _ _ _ h]

/-- A field of another register is unchanged. -/
theorem State.get_put_off (s : State) (f g : Fld) (v : Nat) (h : g.off ≠ f.off) : (s.put f v).get g = s.get g := by
  rw [State.get, State.reg_put_ne _ _ _ h, State.get]

/-- A field beside the one written is unchanged. -/
theorem State.get_put_beside (s : State) (f g : Fld) (v : Nat) (h : f.lo ≤ f.hi) (h31 : f.hi ≤ 31) (ho : g.off = f.off)
    (hd : f.hi < g.lo ∨ g.hi < f.lo) : (s.put f v).get g = s.get g := by
  rw [State.get, ho, s.toNat_reg_put f v h h31, bits_setBits_of_disjoint _ _ _ _ _ _ h hd, State.get, ho]

/-- A field that shares no bit with the one written is unchanged. -/
theorem State.get_put_ne (s : State) (f g : Fld) (v : Nat) (h : f.lo ≤ f.hi) (h31 : f.hi ≤ 31)
    (hd : g.off ≠ f.off ∨ f.hi < g.lo ∨ g.hi < f.lo) : (s.put f v).get g = s.get g := by
  by_cases ho : g.off = f.off
  · exact s.get_put_beside f g v h h31 ho (by omega)
  · exact s.get_put_off f g v ho

/-! ## Lanes, sequencers, queues, channels -/

@[simp] theorem State.lane_setLane_same (s : State) (n : Lane) (l : LaneState) : (s.setLane n l).lane n = l := by
  simp [State.lane, State.setLane]

theorem State.lane_setLane_ne (s : State) {n m : Lane} (l : LaneState) (h : m ≠ n) : (s.setLane n l).lane m = s.lane m := by
  simp [State.lane, State.setLane, Fin.val_ne_of_ne (Ne.symm h)]

@[simp] theorem State.seq_setSeq_same (s : State) (q : SeqIx) (x : Seq) : (s.setSeq q x).seq q = x := by
  simp [State.seq, State.setSeq]

theorem State.seq_setSeq_ne (s : State) {q r : SeqIx} (x : Seq) (h : r ≠ q) : (s.setSeq q x).seq r = s.seq r := by
  simp [State.seq, State.setSeq, Fin.val_ne_of_ne (Ne.symm h)]

@[simp] theorem State.queue_setQueue_same (s : State) (q : QIx) (x : Queue) : (s.setQueue q x).queue q = x := by
  simp [State.queue, State.setQueue]

theorem State.queue_setQueue_ne (s : State) {q r : QIx} (x : Queue) (h : r ≠ q) : (s.setQueue q x).queue r = s.queue r := by
  simp [State.queue, State.setQueue, Fin.val_ne_of_ne (Ne.symm h)]

@[simp] theorem State.chan_setMover_same (s : State) (c : ChanIx) (x : MoverChan) : (s.setMover c x).chan c = x := by
  simp [State.chan, State.setMover]

theorem State.chan_setMover_ne (s : State) {c d : ChanIx} (x : MoverChan) (h : d ≠ c) : (s.setMover c x).chan d = s.chan d := by
  simp [State.chan, State.setMover, Fin.val_ne_of_ne (Ne.symm h)]

@[simp] theorem State.ctl_setCtl_same (s : State) (p : Port) (c : Controller) : (s.setCtl p c).ctl p = c := by
  simp [State.ctl, State.setCtl, State.setHif]

theorem State.ctl_setCtl_ne (s : State) {p r : Port} (c : Controller) (h : r ≠ p) : (s.setCtl p c).ctl r = s.ctl r := by
  simp [State.ctl, State.setCtl, State.setHif, Fin.val_ne_of_ne (Ne.symm h)]

@[simp] theorem State.port_setPort_same (s : State) (p : Port) (x : PortState) : (s.setPort p x).port p = x := by
  simp [State.port, State.setPort, State.setHif]

theorem State.port_setPort_ne (s : State) {p r : Port} (x : PortState) (h : r ≠ p) : (s.setPort p x).port r = s.port r := by
  simp [State.port, State.setPort, State.setHif, Fin.val_ne_of_ne (Ne.symm h)]

/-! ## setReg -/

@[simp] theorem State.setReg_pending (s : State) (off : Nat) (v : Word) : (s.setReg off v).pending = s.pending := rfl
@[simp] theorem State.setReg_regs (s : State) (off : Nat) (v : Word) : (s.setReg off v).regs = Sparse.set resetOf s.regs off v := rfl
@[simp] theorem State.setReg_caps (s : State) (off : Nat) (v : Word) : (s.setReg off v).caps = s.caps := rfl
@[simp] theorem State.setReg_tqWait (s : State) (off : Nat) (v : Word) : (s.setReg off v).tqWait = s.tqWait := rfl
@[simp] theorem State.setReg_fuses (s : State) (off : Nat) (v : Word) : (s.setReg off v).fuses = s.fuses := rfl
@[simp] theorem State.setReg_pins (s : State) (off : Nat) (v : Word) : (s.setReg off v).pins = s.pins := rfl
@[simp] theorem State.setReg_boot (s : State) (off : Nat) (v : Word) : (s.setReg off v).boot = s.boot := rfl
@[simp] theorem State.setReg_flash (s : State) (off : Nat) (v : Word) : (s.setReg off v).flash = s.flash := rfl
@[simp] theorem State.setReg_pwr (s : State) (off : Nat) (v : Word) : (s.setReg off v).pwr = s.pwr := rfl
@[simp] theorem State.setReg_seqs (s : State) (off : Nat) (v : Word) : (s.setReg off v).seqs = s.seqs := rfl
@[simp] theorem State.setReg_mend (s : State) (off : Nat) (v : Word) : (s.setReg off v).mend = s.mend := rfl
@[simp] theorem State.setReg_queues (s : State) (off : Nat) (v : Word) : (s.setReg off v).queues = s.queues := rfl
@[simp] theorem State.setReg_crn (s : State) (off : Nat) (v : Word) : (s.setReg off v).crn = s.crn := rfl
@[simp] theorem State.setReg_lanes (s : State) (off : Nat) (v : Word) : (s.setReg off v).lanes = s.lanes := rfl
@[simp] theorem State.setReg_shared (s : State) (off : Nat) (v : Word) : (s.setReg off v).shared = s.shared := rfl
@[simp] theorem State.setReg_whl (s : State) (off : Nat) (v : Word) : (s.setReg off v).whl = s.whl := rfl
@[simp] theorem State.setReg_kln (s : State) (off : Nat) (v : Word) : (s.setReg off v).kln = s.kln := rfl
@[simp] theorem State.setReg_lko (s : State) (off : Nat) (v : Word) : (s.setReg off v).lko = s.lko := rfl
@[simp] theorem State.setReg_media (s : State) (off : Nat) (v : Word) : (s.setReg off v).media = s.media := rfl
@[simp] theorem State.setReg_scheds (s : State) (off : Nat) (v : Word) : (s.setReg off v).scheds = s.scheds := rfl
@[simp] theorem State.setReg_stale (s : State) (off : Nat) (v : Word) : (s.setReg off v).stale = s.stale := rfl
@[simp] theorem State.setReg_fills (s : State) (off : Nat) (v : Word) : (s.setReg off v).fills = s.fills := rfl
@[simp] theorem State.setReg_mover (s : State) (off : Nat) (v : Word) : (s.setReg off v).mover = s.mover := rfl
@[simp] theorem State.setReg_buf (s : State) (off : Nat) (v : Word) : (s.setReg off v).buf = s.buf := rfl
@[simp] theorem State.setReg_cache (s : State) (off : Nat) (v : Word) : (s.setReg off v).cache = s.cache := rfl
@[simp] theorem State.setReg_hif (s : State) (off : Nat) (v : Word) : (s.setReg off v).hif = s.hif := rfl
@[simp] theorem State.setReg_sbd (s : State) (off : Nat) (v : Word) : (s.setReg off v).sbd = s.sbd := rfl
@[simp] theorem State.setReg_free (s : State) (off : Nat) (v : Word) : (s.setReg off v).free = s.free := rfl
@[simp] theorem State.setReg_out (s : State) (off : Nat) (v : Word) : (s.setReg off v).out = s.out := rfl

/-! ## put -/

@[simp] theorem State.put_pending (s : State) (f : Fld) (v : Nat) : (s.put f v).pending = s.pending := rfl
@[simp] theorem State.put_regs (s : State) (f : Fld) (v : Nat) : (s.put f v).regs = Sparse.set resetOf s.regs f.off (BitVec.ofNat 32 (setBits (s.reg f.off).toNat f.hi f.lo v)) := rfl
@[simp] theorem State.put_caps (s : State) (f : Fld) (v : Nat) : (s.put f v).caps = s.caps := rfl
@[simp] theorem State.put_tqWait (s : State) (f : Fld) (v : Nat) : (s.put f v).tqWait = s.tqWait := rfl
@[simp] theorem State.put_fuses (s : State) (f : Fld) (v : Nat) : (s.put f v).fuses = s.fuses := rfl
@[simp] theorem State.put_pins (s : State) (f : Fld) (v : Nat) : (s.put f v).pins = s.pins := rfl
@[simp] theorem State.put_boot (s : State) (f : Fld) (v : Nat) : (s.put f v).boot = s.boot := rfl
@[simp] theorem State.put_flash (s : State) (f : Fld) (v : Nat) : (s.put f v).flash = s.flash := rfl
@[simp] theorem State.put_pwr (s : State) (f : Fld) (v : Nat) : (s.put f v).pwr = s.pwr := rfl
@[simp] theorem State.put_seqs (s : State) (f : Fld) (v : Nat) : (s.put f v).seqs = s.seqs := rfl
@[simp] theorem State.put_mend (s : State) (f : Fld) (v : Nat) : (s.put f v).mend = s.mend := rfl
@[simp] theorem State.put_queues (s : State) (f : Fld) (v : Nat) : (s.put f v).queues = s.queues := rfl
@[simp] theorem State.put_crn (s : State) (f : Fld) (v : Nat) : (s.put f v).crn = s.crn := rfl
@[simp] theorem State.put_lanes (s : State) (f : Fld) (v : Nat) : (s.put f v).lanes = s.lanes := rfl
@[simp] theorem State.put_shared (s : State) (f : Fld) (v : Nat) : (s.put f v).shared = s.shared := rfl
@[simp] theorem State.put_whl (s : State) (f : Fld) (v : Nat) : (s.put f v).whl = s.whl := rfl
@[simp] theorem State.put_kln (s : State) (f : Fld) (v : Nat) : (s.put f v).kln = s.kln := rfl
@[simp] theorem State.put_lko (s : State) (f : Fld) (v : Nat) : (s.put f v).lko = s.lko := rfl
@[simp] theorem State.put_media (s : State) (f : Fld) (v : Nat) : (s.put f v).media = s.media := rfl
@[simp] theorem State.put_scheds (s : State) (f : Fld) (v : Nat) : (s.put f v).scheds = s.scheds := rfl
@[simp] theorem State.put_stale (s : State) (f : Fld) (v : Nat) : (s.put f v).stale = s.stale := rfl
@[simp] theorem State.put_fills (s : State) (f : Fld) (v : Nat) : (s.put f v).fills = s.fills := rfl
@[simp] theorem State.put_mover (s : State) (f : Fld) (v : Nat) : (s.put f v).mover = s.mover := rfl
@[simp] theorem State.put_buf (s : State) (f : Fld) (v : Nat) : (s.put f v).buf = s.buf := rfl
@[simp] theorem State.put_cache (s : State) (f : Fld) (v : Nat) : (s.put f v).cache = s.cache := rfl
@[simp] theorem State.put_hif (s : State) (f : Fld) (v : Nat) : (s.put f v).hif = s.hif := rfl
@[simp] theorem State.put_sbd (s : State) (f : Fld) (v : Nat) : (s.put f v).sbd = s.sbd := rfl
@[simp] theorem State.put_free (s : State) (f : Fld) (v : Nat) : (s.put f v).free = s.free := rfl
@[simp] theorem State.put_out (s : State) (f : Fld) (v : Nat) : (s.put f v).out = s.out := rfl

/-! ## bump -/

@[simp] theorem State.bump_pending (s : State) (f : Fld) (k : Nat) : (s.bump f k).pending = s.pending := rfl
@[simp] theorem State.bump_regs (s : State) (f : Fld) (k : Nat) : (s.bump f k).regs = (s.put f (satAdd (2 ^ (f.hi + 1 - f.lo) - 1) (s.get f) k)).regs := rfl
@[simp] theorem State.bump_caps (s : State) (f : Fld) (k : Nat) : (s.bump f k).caps = s.caps := rfl
@[simp] theorem State.bump_tqWait (s : State) (f : Fld) (k : Nat) : (s.bump f k).tqWait = s.tqWait := rfl
@[simp] theorem State.bump_fuses (s : State) (f : Fld) (k : Nat) : (s.bump f k).fuses = s.fuses := rfl
@[simp] theorem State.bump_pins (s : State) (f : Fld) (k : Nat) : (s.bump f k).pins = s.pins := rfl
@[simp] theorem State.bump_boot (s : State) (f : Fld) (k : Nat) : (s.bump f k).boot = s.boot := rfl
@[simp] theorem State.bump_flash (s : State) (f : Fld) (k : Nat) : (s.bump f k).flash = s.flash := rfl
@[simp] theorem State.bump_pwr (s : State) (f : Fld) (k : Nat) : (s.bump f k).pwr = s.pwr := rfl
@[simp] theorem State.bump_seqs (s : State) (f : Fld) (k : Nat) : (s.bump f k).seqs = s.seqs := rfl
@[simp] theorem State.bump_mend (s : State) (f : Fld) (k : Nat) : (s.bump f k).mend = s.mend := rfl
@[simp] theorem State.bump_queues (s : State) (f : Fld) (k : Nat) : (s.bump f k).queues = s.queues := rfl
@[simp] theorem State.bump_crn (s : State) (f : Fld) (k : Nat) : (s.bump f k).crn = s.crn := rfl
@[simp] theorem State.bump_lanes (s : State) (f : Fld) (k : Nat) : (s.bump f k).lanes = s.lanes := rfl
@[simp] theorem State.bump_shared (s : State) (f : Fld) (k : Nat) : (s.bump f k).shared = s.shared := rfl
@[simp] theorem State.bump_whl (s : State) (f : Fld) (k : Nat) : (s.bump f k).whl = s.whl := rfl
@[simp] theorem State.bump_kln (s : State) (f : Fld) (k : Nat) : (s.bump f k).kln = s.kln := rfl
@[simp] theorem State.bump_lko (s : State) (f : Fld) (k : Nat) : (s.bump f k).lko = s.lko := rfl
@[simp] theorem State.bump_media (s : State) (f : Fld) (k : Nat) : (s.bump f k).media = s.media := rfl
@[simp] theorem State.bump_scheds (s : State) (f : Fld) (k : Nat) : (s.bump f k).scheds = s.scheds := rfl
@[simp] theorem State.bump_stale (s : State) (f : Fld) (k : Nat) : (s.bump f k).stale = s.stale := rfl
@[simp] theorem State.bump_fills (s : State) (f : Fld) (k : Nat) : (s.bump f k).fills = s.fills := rfl
@[simp] theorem State.bump_mover (s : State) (f : Fld) (k : Nat) : (s.bump f k).mover = s.mover := rfl
@[simp] theorem State.bump_buf (s : State) (f : Fld) (k : Nat) : (s.bump f k).buf = s.buf := rfl
@[simp] theorem State.bump_cache (s : State) (f : Fld) (k : Nat) : (s.bump f k).cache = s.cache := rfl
@[simp] theorem State.bump_hif (s : State) (f : Fld) (k : Nat) : (s.bump f k).hif = s.hif := rfl
@[simp] theorem State.bump_sbd (s : State) (f : Fld) (k : Nat) : (s.bump f k).sbd = s.sbd := rfl
@[simp] theorem State.bump_free (s : State) (f : Fld) (k : Nat) : (s.bump f k).free = s.free := rfl
@[simp] theorem State.bump_out (s : State) (f : Fld) (k : Nat) : (s.bump f k).out = s.out := rfl

/-! ## emit -/

@[simp] theorem State.emit_pending (s : State) (o : Output) : (s.emit o).pending = s.pending := rfl
@[simp] theorem State.emit_regs (s : State) (o : Output) : (s.emit o).regs = s.regs := rfl
@[simp] theorem State.emit_caps (s : State) (o : Output) : (s.emit o).caps = s.caps := rfl
@[simp] theorem State.emit_tqWait (s : State) (o : Output) : (s.emit o).tqWait = s.tqWait := rfl
@[simp] theorem State.emit_fuses (s : State) (o : Output) : (s.emit o).fuses = s.fuses := rfl
@[simp] theorem State.emit_pins (s : State) (o : Output) : (s.emit o).pins = s.pins := rfl
@[simp] theorem State.emit_boot (s : State) (o : Output) : (s.emit o).boot = s.boot := rfl
@[simp] theorem State.emit_flash (s : State) (o : Output) : (s.emit o).flash = s.flash := rfl
@[simp] theorem State.emit_pwr (s : State) (o : Output) : (s.emit o).pwr = s.pwr := rfl
@[simp] theorem State.emit_seqs (s : State) (o : Output) : (s.emit o).seqs = s.seqs := rfl
@[simp] theorem State.emit_mend (s : State) (o : Output) : (s.emit o).mend = s.mend := rfl
@[simp] theorem State.emit_queues (s : State) (o : Output) : (s.emit o).queues = s.queues := rfl
@[simp] theorem State.emit_crn (s : State) (o : Output) : (s.emit o).crn = s.crn := rfl
@[simp] theorem State.emit_lanes (s : State) (o : Output) : (s.emit o).lanes = s.lanes := rfl
@[simp] theorem State.emit_shared (s : State) (o : Output) : (s.emit o).shared = s.shared := rfl
@[simp] theorem State.emit_whl (s : State) (o : Output) : (s.emit o).whl = s.whl := rfl
@[simp] theorem State.emit_kln (s : State) (o : Output) : (s.emit o).kln = s.kln := rfl
@[simp] theorem State.emit_lko (s : State) (o : Output) : (s.emit o).lko = s.lko := rfl
@[simp] theorem State.emit_media (s : State) (o : Output) : (s.emit o).media = s.media := rfl
@[simp] theorem State.emit_scheds (s : State) (o : Output) : (s.emit o).scheds = s.scheds := rfl
@[simp] theorem State.emit_stale (s : State) (o : Output) : (s.emit o).stale = s.stale := rfl
@[simp] theorem State.emit_fills (s : State) (o : Output) : (s.emit o).fills = s.fills := rfl
@[simp] theorem State.emit_mover (s : State) (o : Output) : (s.emit o).mover = s.mover := rfl
@[simp] theorem State.emit_buf (s : State) (o : Output) : (s.emit o).buf = s.buf := rfl
@[simp] theorem State.emit_cache (s : State) (o : Output) : (s.emit o).cache = s.cache := rfl
@[simp] theorem State.emit_hif (s : State) (o : Output) : (s.emit o).hif = s.hif := rfl
@[simp] theorem State.emit_sbd (s : State) (o : Output) : (s.emit o).sbd = s.sbd := rfl
@[simp] theorem State.emit_free (s : State) (o : Output) : (s.emit o).free = s.free := rfl
@[simp] theorem State.emit_out (s : State) (o : Output) : (s.emit o).out = o :: s.out := rfl

/-! ## drew -/

@[simp] theorem State.drew_pending (s : State) : (s.drew).pending = s.pending := rfl
@[simp] theorem State.drew_regs (s : State) : (s.drew).regs = s.regs := rfl
@[simp] theorem State.drew_caps (s : State) : (s.drew).caps = s.caps := rfl
@[simp] theorem State.drew_tqWait (s : State) : (s.drew).tqWait = s.tqWait := rfl
@[simp] theorem State.drew_fuses (s : State) : (s.drew).fuses = s.fuses := rfl
@[simp] theorem State.drew_pins (s : State) : (s.drew).pins = s.pins := rfl
@[simp] theorem State.drew_boot (s : State) : (s.drew).boot = s.boot := rfl
@[simp] theorem State.drew_flash (s : State) : (s.drew).flash = s.flash := rfl
@[simp] theorem State.drew_pwr (s : State) : (s.drew).pwr = s.pwr := rfl
@[simp] theorem State.drew_seqs (s : State) : (s.drew).seqs = s.seqs := rfl
@[simp] theorem State.drew_mend (s : State) : (s.drew).mend = s.mend := rfl
@[simp] theorem State.drew_queues (s : State) : (s.drew).queues = s.queues := rfl
@[simp] theorem State.drew_crn (s : State) : (s.drew).crn = s.crn := rfl
@[simp] theorem State.drew_lanes (s : State) : (s.drew).lanes = s.lanes := rfl
@[simp] theorem State.drew_shared (s : State) : (s.drew).shared = s.shared := rfl
@[simp] theorem State.drew_whl (s : State) : (s.drew).whl = s.whl := rfl
@[simp] theorem State.drew_kln (s : State) : (s.drew).kln = s.kln := rfl
@[simp] theorem State.drew_lko (s : State) : (s.drew).lko = s.lko := rfl
@[simp] theorem State.drew_media (s : State) : (s.drew).media = s.media := rfl
@[simp] theorem State.drew_scheds (s : State) : (s.drew).scheds = s.scheds := rfl
@[simp] theorem State.drew_stale (s : State) : (s.drew).stale = s.stale := rfl
@[simp] theorem State.drew_fills (s : State) : (s.drew).fills = s.fills := rfl
@[simp] theorem State.drew_mover (s : State) : (s.drew).mover = s.mover := rfl
@[simp] theorem State.drew_buf (s : State) : (s.drew).buf = s.buf := rfl
@[simp] theorem State.drew_cache (s : State) : (s.drew).cache = s.cache := rfl
@[simp] theorem State.drew_hif (s : State) : (s.drew).hif = s.hif := rfl
@[simp] theorem State.drew_sbd (s : State) : (s.drew).sbd = s.sbd := rfl
@[simp] theorem State.drew_free (s : State) : (s.drew).free = s.free + 1 := rfl
@[simp] theorem State.drew_out (s : State) : (s.drew).out = s.out := rfl

/-! ## setLane -/

@[simp] theorem State.setLane_pending (s : State) (n : Lane) (l : LaneState) : (s.setLane n l).pending = s.pending := rfl
@[simp] theorem State.setLane_regs (s : State) (n : Lane) (l : LaneState) : (s.setLane n l).regs = s.regs := rfl
@[simp] theorem State.setLane_caps (s : State) (n : Lane) (l : LaneState) : (s.setLane n l).caps = s.caps := rfl
@[simp] theorem State.setLane_tqWait (s : State) (n : Lane) (l : LaneState) : (s.setLane n l).tqWait = s.tqWait := rfl
@[simp] theorem State.setLane_fuses (s : State) (n : Lane) (l : LaneState) : (s.setLane n l).fuses = s.fuses := rfl
@[simp] theorem State.setLane_pins (s : State) (n : Lane) (l : LaneState) : (s.setLane n l).pins = s.pins := rfl
@[simp] theorem State.setLane_boot (s : State) (n : Lane) (l : LaneState) : (s.setLane n l).boot = s.boot := rfl
@[simp] theorem State.setLane_flash (s : State) (n : Lane) (l : LaneState) : (s.setLane n l).flash = s.flash := rfl
@[simp] theorem State.setLane_pwr (s : State) (n : Lane) (l : LaneState) : (s.setLane n l).pwr = s.pwr := rfl
@[simp] theorem State.setLane_seqs (s : State) (n : Lane) (l : LaneState) : (s.setLane n l).seqs = s.seqs := rfl
@[simp] theorem State.setLane_mend (s : State) (n : Lane) (l : LaneState) : (s.setLane n l).mend = s.mend := rfl
@[simp] theorem State.setLane_queues (s : State) (n : Lane) (l : LaneState) : (s.setLane n l).queues = s.queues := rfl
@[simp] theorem State.setLane_crn (s : State) (n : Lane) (l : LaneState) : (s.setLane n l).crn = s.crn := rfl
@[simp] theorem State.setLane_lanes (s : State) (n : Lane) (l : LaneState) : (s.setLane n l).lanes = s.lanes.set n l := rfl
@[simp] theorem State.setLane_shared (s : State) (n : Lane) (l : LaneState) : (s.setLane n l).shared = s.shared := rfl
@[simp] theorem State.setLane_whl (s : State) (n : Lane) (l : LaneState) : (s.setLane n l).whl = s.whl := rfl
@[simp] theorem State.setLane_kln (s : State) (n : Lane) (l : LaneState) : (s.setLane n l).kln = s.kln := rfl
@[simp] theorem State.setLane_lko (s : State) (n : Lane) (l : LaneState) : (s.setLane n l).lko = s.lko := rfl
@[simp] theorem State.setLane_media (s : State) (n : Lane) (l : LaneState) : (s.setLane n l).media = s.media := rfl
@[simp] theorem State.setLane_scheds (s : State) (n : Lane) (l : LaneState) : (s.setLane n l).scheds = s.scheds := rfl
@[simp] theorem State.setLane_stale (s : State) (n : Lane) (l : LaneState) : (s.setLane n l).stale = s.stale := rfl
@[simp] theorem State.setLane_fills (s : State) (n : Lane) (l : LaneState) : (s.setLane n l).fills = s.fills := rfl
@[simp] theorem State.setLane_mover (s : State) (n : Lane) (l : LaneState) : (s.setLane n l).mover = s.mover := rfl
@[simp] theorem State.setLane_buf (s : State) (n : Lane) (l : LaneState) : (s.setLane n l).buf = s.buf := rfl
@[simp] theorem State.setLane_cache (s : State) (n : Lane) (l : LaneState) : (s.setLane n l).cache = s.cache := rfl
@[simp] theorem State.setLane_hif (s : State) (n : Lane) (l : LaneState) : (s.setLane n l).hif = s.hif := rfl
@[simp] theorem State.setLane_sbd (s : State) (n : Lane) (l : LaneState) : (s.setLane n l).sbd = s.sbd := rfl
@[simp] theorem State.setLane_free (s : State) (n : Lane) (l : LaneState) : (s.setLane n l).free = s.free := rfl
@[simp] theorem State.setLane_out (s : State) (n : Lane) (l : LaneState) : (s.setLane n l).out = s.out := rfl

/-! ## setChan -/

@[simp] theorem State.setChan_pending (s : State) (n : Lane) (c : Chan) : (s.setChan n c).pending = s.pending := rfl
@[simp] theorem State.setChan_regs (s : State) (n : Lane) (c : Chan) : (s.setChan n c).regs = s.regs := rfl
@[simp] theorem State.setChan_caps (s : State) (n : Lane) (c : Chan) : (s.setChan n c).caps = s.caps := rfl
@[simp] theorem State.setChan_tqWait (s : State) (n : Lane) (c : Chan) : (s.setChan n c).tqWait = s.tqWait := rfl
@[simp] theorem State.setChan_fuses (s : State) (n : Lane) (c : Chan) : (s.setChan n c).fuses = s.fuses := rfl
@[simp] theorem State.setChan_pins (s : State) (n : Lane) (c : Chan) : (s.setChan n c).pins = s.pins := rfl
@[simp] theorem State.setChan_boot (s : State) (n : Lane) (c : Chan) : (s.setChan n c).boot = s.boot := rfl
@[simp] theorem State.setChan_flash (s : State) (n : Lane) (c : Chan) : (s.setChan n c).flash = s.flash := rfl
@[simp] theorem State.setChan_pwr (s : State) (n : Lane) (c : Chan) : (s.setChan n c).pwr = s.pwr := rfl
@[simp] theorem State.setChan_seqs (s : State) (n : Lane) (c : Chan) : (s.setChan n c).seqs = s.seqs := rfl
@[simp] theorem State.setChan_mend (s : State) (n : Lane) (c : Chan) : (s.setChan n c).mend = s.mend := rfl
@[simp] theorem State.setChan_queues (s : State) (n : Lane) (c : Chan) : (s.setChan n c).queues = s.queues := rfl
@[simp] theorem State.setChan_crn (s : State) (n : Lane) (c : Chan) : (s.setChan n c).crn = s.crn := rfl
@[simp] theorem State.setChan_lanes (s : State) (n : Lane) (c : Chan) : (s.setChan n c).lanes = s.lanes.set n { s.lane n with chan := c } := rfl
@[simp] theorem State.setChan_shared (s : State) (n : Lane) (c : Chan) : (s.setChan n c).shared = s.shared := rfl
@[simp] theorem State.setChan_whl (s : State) (n : Lane) (c : Chan) : (s.setChan n c).whl = s.whl := rfl
@[simp] theorem State.setChan_kln (s : State) (n : Lane) (c : Chan) : (s.setChan n c).kln = s.kln := rfl
@[simp] theorem State.setChan_lko (s : State) (n : Lane) (c : Chan) : (s.setChan n c).lko = s.lko := rfl
@[simp] theorem State.setChan_media (s : State) (n : Lane) (c : Chan) : (s.setChan n c).media = s.media := rfl
@[simp] theorem State.setChan_scheds (s : State) (n : Lane) (c : Chan) : (s.setChan n c).scheds = s.scheds := rfl
@[simp] theorem State.setChan_stale (s : State) (n : Lane) (c : Chan) : (s.setChan n c).stale = s.stale := rfl
@[simp] theorem State.setChan_fills (s : State) (n : Lane) (c : Chan) : (s.setChan n c).fills = s.fills := rfl
@[simp] theorem State.setChan_mover (s : State) (n : Lane) (c : Chan) : (s.setChan n c).mover = s.mover := rfl
@[simp] theorem State.setChan_buf (s : State) (n : Lane) (c : Chan) : (s.setChan n c).buf = s.buf := rfl
@[simp] theorem State.setChan_cache (s : State) (n : Lane) (c : Chan) : (s.setChan n c).cache = s.cache := rfl
@[simp] theorem State.setChan_hif (s : State) (n : Lane) (c : Chan) : (s.setChan n c).hif = s.hif := rfl
@[simp] theorem State.setChan_sbd (s : State) (n : Lane) (c : Chan) : (s.setChan n c).sbd = s.sbd := rfl
@[simp] theorem State.setChan_free (s : State) (n : Lane) (c : Chan) : (s.setChan n c).free = s.free := rfl
@[simp] theorem State.setChan_out (s : State) (n : Lane) (c : Chan) : (s.setChan n c).out = s.out := rfl

/-! ## setFmt -/

@[simp] theorem State.setFmt_pending (s : State) (n : Lane) (c : Fmt) : (s.setFmt n c).pending = s.pending := rfl
@[simp] theorem State.setFmt_regs (s : State) (n : Lane) (c : Fmt) : (s.setFmt n c).regs = s.regs := rfl
@[simp] theorem State.setFmt_caps (s : State) (n : Lane) (c : Fmt) : (s.setFmt n c).caps = s.caps := rfl
@[simp] theorem State.setFmt_tqWait (s : State) (n : Lane) (c : Fmt) : (s.setFmt n c).tqWait = s.tqWait := rfl
@[simp] theorem State.setFmt_fuses (s : State) (n : Lane) (c : Fmt) : (s.setFmt n c).fuses = s.fuses := rfl
@[simp] theorem State.setFmt_pins (s : State) (n : Lane) (c : Fmt) : (s.setFmt n c).pins = s.pins := rfl
@[simp] theorem State.setFmt_boot (s : State) (n : Lane) (c : Fmt) : (s.setFmt n c).boot = s.boot := rfl
@[simp] theorem State.setFmt_flash (s : State) (n : Lane) (c : Fmt) : (s.setFmt n c).flash = s.flash := rfl
@[simp] theorem State.setFmt_pwr (s : State) (n : Lane) (c : Fmt) : (s.setFmt n c).pwr = s.pwr := rfl
@[simp] theorem State.setFmt_seqs (s : State) (n : Lane) (c : Fmt) : (s.setFmt n c).seqs = s.seqs := rfl
@[simp] theorem State.setFmt_mend (s : State) (n : Lane) (c : Fmt) : (s.setFmt n c).mend = s.mend := rfl
@[simp] theorem State.setFmt_queues (s : State) (n : Lane) (c : Fmt) : (s.setFmt n c).queues = s.queues := rfl
@[simp] theorem State.setFmt_crn (s : State) (n : Lane) (c : Fmt) : (s.setFmt n c).crn = s.crn := rfl
@[simp] theorem State.setFmt_lanes (s : State) (n : Lane) (c : Fmt) : (s.setFmt n c).lanes = s.lanes.set n { s.lane n with fmt := c } := rfl
@[simp] theorem State.setFmt_shared (s : State) (n : Lane) (c : Fmt) : (s.setFmt n c).shared = s.shared := rfl
@[simp] theorem State.setFmt_whl (s : State) (n : Lane) (c : Fmt) : (s.setFmt n c).whl = s.whl := rfl
@[simp] theorem State.setFmt_kln (s : State) (n : Lane) (c : Fmt) : (s.setFmt n c).kln = s.kln := rfl
@[simp] theorem State.setFmt_lko (s : State) (n : Lane) (c : Fmt) : (s.setFmt n c).lko = s.lko := rfl
@[simp] theorem State.setFmt_media (s : State) (n : Lane) (c : Fmt) : (s.setFmt n c).media = s.media := rfl
@[simp] theorem State.setFmt_scheds (s : State) (n : Lane) (c : Fmt) : (s.setFmt n c).scheds = s.scheds := rfl
@[simp] theorem State.setFmt_stale (s : State) (n : Lane) (c : Fmt) : (s.setFmt n c).stale = s.stale := rfl
@[simp] theorem State.setFmt_fills (s : State) (n : Lane) (c : Fmt) : (s.setFmt n c).fills = s.fills := rfl
@[simp] theorem State.setFmt_mover (s : State) (n : Lane) (c : Fmt) : (s.setFmt n c).mover = s.mover := rfl
@[simp] theorem State.setFmt_buf (s : State) (n : Lane) (c : Fmt) : (s.setFmt n c).buf = s.buf := rfl
@[simp] theorem State.setFmt_cache (s : State) (n : Lane) (c : Fmt) : (s.setFmt n c).cache = s.cache := rfl
@[simp] theorem State.setFmt_hif (s : State) (n : Lane) (c : Fmt) : (s.setFmt n c).hif = s.hif := rfl
@[simp] theorem State.setFmt_sbd (s : State) (n : Lane) (c : Fmt) : (s.setFmt n c).sbd = s.sbd := rfl
@[simp] theorem State.setFmt_free (s : State) (n : Lane) (c : Fmt) : (s.setFmt n c).free = s.free := rfl
@[simp] theorem State.setFmt_out (s : State) (n : Lane) (c : Fmt) : (s.setFmt n c).out = s.out := rfl

/-! ## setRcv -/

@[simp] theorem State.setRcv_pending (s : State) (n : Lane) (c : Recovery) : (s.setRcv n c).pending = s.pending := rfl
@[simp] theorem State.setRcv_regs (s : State) (n : Lane) (c : Recovery) : (s.setRcv n c).regs = s.regs := rfl
@[simp] theorem State.setRcv_caps (s : State) (n : Lane) (c : Recovery) : (s.setRcv n c).caps = s.caps := rfl
@[simp] theorem State.setRcv_tqWait (s : State) (n : Lane) (c : Recovery) : (s.setRcv n c).tqWait = s.tqWait := rfl
@[simp] theorem State.setRcv_fuses (s : State) (n : Lane) (c : Recovery) : (s.setRcv n c).fuses = s.fuses := rfl
@[simp] theorem State.setRcv_pins (s : State) (n : Lane) (c : Recovery) : (s.setRcv n c).pins = s.pins := rfl
@[simp] theorem State.setRcv_boot (s : State) (n : Lane) (c : Recovery) : (s.setRcv n c).boot = s.boot := rfl
@[simp] theorem State.setRcv_flash (s : State) (n : Lane) (c : Recovery) : (s.setRcv n c).flash = s.flash := rfl
@[simp] theorem State.setRcv_pwr (s : State) (n : Lane) (c : Recovery) : (s.setRcv n c).pwr = s.pwr := rfl
@[simp] theorem State.setRcv_seqs (s : State) (n : Lane) (c : Recovery) : (s.setRcv n c).seqs = s.seqs := rfl
@[simp] theorem State.setRcv_mend (s : State) (n : Lane) (c : Recovery) : (s.setRcv n c).mend = s.mend := rfl
@[simp] theorem State.setRcv_queues (s : State) (n : Lane) (c : Recovery) : (s.setRcv n c).queues = s.queues := rfl
@[simp] theorem State.setRcv_crn (s : State) (n : Lane) (c : Recovery) : (s.setRcv n c).crn = s.crn := rfl
@[simp] theorem State.setRcv_lanes (s : State) (n : Lane) (c : Recovery) : (s.setRcv n c).lanes = s.lanes.set n { s.lane n with rcv := c } := rfl
@[simp] theorem State.setRcv_shared (s : State) (n : Lane) (c : Recovery) : (s.setRcv n c).shared = s.shared := rfl
@[simp] theorem State.setRcv_whl (s : State) (n : Lane) (c : Recovery) : (s.setRcv n c).whl = s.whl := rfl
@[simp] theorem State.setRcv_kln (s : State) (n : Lane) (c : Recovery) : (s.setRcv n c).kln = s.kln := rfl
@[simp] theorem State.setRcv_lko (s : State) (n : Lane) (c : Recovery) : (s.setRcv n c).lko = s.lko := rfl
@[simp] theorem State.setRcv_media (s : State) (n : Lane) (c : Recovery) : (s.setRcv n c).media = s.media := rfl
@[simp] theorem State.setRcv_scheds (s : State) (n : Lane) (c : Recovery) : (s.setRcv n c).scheds = s.scheds := rfl
@[simp] theorem State.setRcv_stale (s : State) (n : Lane) (c : Recovery) : (s.setRcv n c).stale = s.stale := rfl
@[simp] theorem State.setRcv_fills (s : State) (n : Lane) (c : Recovery) : (s.setRcv n c).fills = s.fills := rfl
@[simp] theorem State.setRcv_mover (s : State) (n : Lane) (c : Recovery) : (s.setRcv n c).mover = s.mover := rfl
@[simp] theorem State.setRcv_buf (s : State) (n : Lane) (c : Recovery) : (s.setRcv n c).buf = s.buf := rfl
@[simp] theorem State.setRcv_cache (s : State) (n : Lane) (c : Recovery) : (s.setRcv n c).cache = s.cache := rfl
@[simp] theorem State.setRcv_hif (s : State) (n : Lane) (c : Recovery) : (s.setRcv n c).hif = s.hif := rfl
@[simp] theorem State.setRcv_sbd (s : State) (n : Lane) (c : Recovery) : (s.setRcv n c).sbd = s.sbd := rfl
@[simp] theorem State.setRcv_free (s : State) (n : Lane) (c : Recovery) : (s.setRcv n c).free = s.free := rfl
@[simp] theorem State.setRcv_out (s : State) (n : Lane) (c : Recovery) : (s.setRcv n c).out = s.out := rfl

/-! ## setSve -/

@[simp] theorem State.setSve_pending (s : State) (n : Lane) (c : Sve) : (s.setSve n c).pending = s.pending := rfl
@[simp] theorem State.setSve_regs (s : State) (n : Lane) (c : Sve) : (s.setSve n c).regs = s.regs := rfl
@[simp] theorem State.setSve_caps (s : State) (n : Lane) (c : Sve) : (s.setSve n c).caps = s.caps := rfl
@[simp] theorem State.setSve_tqWait (s : State) (n : Lane) (c : Sve) : (s.setSve n c).tqWait = s.tqWait := rfl
@[simp] theorem State.setSve_fuses (s : State) (n : Lane) (c : Sve) : (s.setSve n c).fuses = s.fuses := rfl
@[simp] theorem State.setSve_pins (s : State) (n : Lane) (c : Sve) : (s.setSve n c).pins = s.pins := rfl
@[simp] theorem State.setSve_boot (s : State) (n : Lane) (c : Sve) : (s.setSve n c).boot = s.boot := rfl
@[simp] theorem State.setSve_flash (s : State) (n : Lane) (c : Sve) : (s.setSve n c).flash = s.flash := rfl
@[simp] theorem State.setSve_pwr (s : State) (n : Lane) (c : Sve) : (s.setSve n c).pwr = s.pwr := rfl
@[simp] theorem State.setSve_seqs (s : State) (n : Lane) (c : Sve) : (s.setSve n c).seqs = s.seqs := rfl
@[simp] theorem State.setSve_mend (s : State) (n : Lane) (c : Sve) : (s.setSve n c).mend = s.mend := rfl
@[simp] theorem State.setSve_queues (s : State) (n : Lane) (c : Sve) : (s.setSve n c).queues = s.queues := rfl
@[simp] theorem State.setSve_crn (s : State) (n : Lane) (c : Sve) : (s.setSve n c).crn = s.crn := rfl
@[simp] theorem State.setSve_lanes (s : State) (n : Lane) (c : Sve) : (s.setSve n c).lanes = s.lanes.set n { s.lane n with sve := c } := rfl
@[simp] theorem State.setSve_shared (s : State) (n : Lane) (c : Sve) : (s.setSve n c).shared = s.shared := rfl
@[simp] theorem State.setSve_whl (s : State) (n : Lane) (c : Sve) : (s.setSve n c).whl = s.whl := rfl
@[simp] theorem State.setSve_kln (s : State) (n : Lane) (c : Sve) : (s.setSve n c).kln = s.kln := rfl
@[simp] theorem State.setSve_lko (s : State) (n : Lane) (c : Sve) : (s.setSve n c).lko = s.lko := rfl
@[simp] theorem State.setSve_media (s : State) (n : Lane) (c : Sve) : (s.setSve n c).media = s.media := rfl
@[simp] theorem State.setSve_scheds (s : State) (n : Lane) (c : Sve) : (s.setSve n c).scheds = s.scheds := rfl
@[simp] theorem State.setSve_stale (s : State) (n : Lane) (c : Sve) : (s.setSve n c).stale = s.stale := rfl
@[simp] theorem State.setSve_fills (s : State) (n : Lane) (c : Sve) : (s.setSve n c).fills = s.fills := rfl
@[simp] theorem State.setSve_mover (s : State) (n : Lane) (c : Sve) : (s.setSve n c).mover = s.mover := rfl
@[simp] theorem State.setSve_buf (s : State) (n : Lane) (c : Sve) : (s.setSve n c).buf = s.buf := rfl
@[simp] theorem State.setSve_cache (s : State) (n : Lane) (c : Sve) : (s.setSve n c).cache = s.cache := rfl
@[simp] theorem State.setSve_hif (s : State) (n : Lane) (c : Sve) : (s.setSve n c).hif = s.hif := rfl
@[simp] theorem State.setSve_sbd (s : State) (n : Lane) (c : Sve) : (s.setSve n c).sbd = s.sbd := rfl
@[simp] theorem State.setSve_free (s : State) (n : Lane) (c : Sve) : (s.setSve n c).free = s.free := rfl
@[simp] theorem State.setSve_out (s : State) (n : Lane) (c : Sve) : (s.setSve n c).out = s.out := rfl

/-! ## setSek -/

@[simp] theorem State.setSek_pending (s : State) (n : Lane) (c : Sek) : (s.setSek n c).pending = s.pending := rfl
@[simp] theorem State.setSek_regs (s : State) (n : Lane) (c : Sek) : (s.setSek n c).regs = s.regs := rfl
@[simp] theorem State.setSek_caps (s : State) (n : Lane) (c : Sek) : (s.setSek n c).caps = s.caps := rfl
@[simp] theorem State.setSek_tqWait (s : State) (n : Lane) (c : Sek) : (s.setSek n c).tqWait = s.tqWait := rfl
@[simp] theorem State.setSek_fuses (s : State) (n : Lane) (c : Sek) : (s.setSek n c).fuses = s.fuses := rfl
@[simp] theorem State.setSek_pins (s : State) (n : Lane) (c : Sek) : (s.setSek n c).pins = s.pins := rfl
@[simp] theorem State.setSek_boot (s : State) (n : Lane) (c : Sek) : (s.setSek n c).boot = s.boot := rfl
@[simp] theorem State.setSek_flash (s : State) (n : Lane) (c : Sek) : (s.setSek n c).flash = s.flash := rfl
@[simp] theorem State.setSek_pwr (s : State) (n : Lane) (c : Sek) : (s.setSek n c).pwr = s.pwr := rfl
@[simp] theorem State.setSek_seqs (s : State) (n : Lane) (c : Sek) : (s.setSek n c).seqs = s.seqs := rfl
@[simp] theorem State.setSek_mend (s : State) (n : Lane) (c : Sek) : (s.setSek n c).mend = s.mend := rfl
@[simp] theorem State.setSek_queues (s : State) (n : Lane) (c : Sek) : (s.setSek n c).queues = s.queues := rfl
@[simp] theorem State.setSek_crn (s : State) (n : Lane) (c : Sek) : (s.setSek n c).crn = s.crn := rfl
@[simp] theorem State.setSek_lanes (s : State) (n : Lane) (c : Sek) : (s.setSek n c).lanes = s.lanes.set n { s.lane n with sek := c } := rfl
@[simp] theorem State.setSek_shared (s : State) (n : Lane) (c : Sek) : (s.setSek n c).shared = s.shared := rfl
@[simp] theorem State.setSek_whl (s : State) (n : Lane) (c : Sek) : (s.setSek n c).whl = s.whl := rfl
@[simp] theorem State.setSek_kln (s : State) (n : Lane) (c : Sek) : (s.setSek n c).kln = s.kln := rfl
@[simp] theorem State.setSek_lko (s : State) (n : Lane) (c : Sek) : (s.setSek n c).lko = s.lko := rfl
@[simp] theorem State.setSek_media (s : State) (n : Lane) (c : Sek) : (s.setSek n c).media = s.media := rfl
@[simp] theorem State.setSek_scheds (s : State) (n : Lane) (c : Sek) : (s.setSek n c).scheds = s.scheds := rfl
@[simp] theorem State.setSek_stale (s : State) (n : Lane) (c : Sek) : (s.setSek n c).stale = s.stale := rfl
@[simp] theorem State.setSek_fills (s : State) (n : Lane) (c : Sek) : (s.setSek n c).fills = s.fills := rfl
@[simp] theorem State.setSek_mover (s : State) (n : Lane) (c : Sek) : (s.setSek n c).mover = s.mover := rfl
@[simp] theorem State.setSek_buf (s : State) (n : Lane) (c : Sek) : (s.setSek n c).buf = s.buf := rfl
@[simp] theorem State.setSek_cache (s : State) (n : Lane) (c : Sek) : (s.setSek n c).cache = s.cache := rfl
@[simp] theorem State.setSek_hif (s : State) (n : Lane) (c : Sek) : (s.setSek n c).hif = s.hif := rfl
@[simp] theorem State.setSek_sbd (s : State) (n : Lane) (c : Sek) : (s.setSek n c).sbd = s.sbd := rfl
@[simp] theorem State.setSek_free (s : State) (n : Lane) (c : Sek) : (s.setSek n c).free = s.free := rfl
@[simp] theorem State.setSek_out (s : State) (n : Lane) (c : Sek) : (s.setSek n c).out = s.out := rfl

/-! ## setMts -/

@[simp] theorem State.setMts_pending (s : State) (n : Lane) (c : MediaTime) : (s.setMts n c).pending = s.pending := rfl
@[simp] theorem State.setMts_regs (s : State) (n : Lane) (c : MediaTime) : (s.setMts n c).regs = s.regs := rfl
@[simp] theorem State.setMts_caps (s : State) (n : Lane) (c : MediaTime) : (s.setMts n c).caps = s.caps := rfl
@[simp] theorem State.setMts_tqWait (s : State) (n : Lane) (c : MediaTime) : (s.setMts n c).tqWait = s.tqWait := rfl
@[simp] theorem State.setMts_fuses (s : State) (n : Lane) (c : MediaTime) : (s.setMts n c).fuses = s.fuses := rfl
@[simp] theorem State.setMts_pins (s : State) (n : Lane) (c : MediaTime) : (s.setMts n c).pins = s.pins := rfl
@[simp] theorem State.setMts_boot (s : State) (n : Lane) (c : MediaTime) : (s.setMts n c).boot = s.boot := rfl
@[simp] theorem State.setMts_flash (s : State) (n : Lane) (c : MediaTime) : (s.setMts n c).flash = s.flash := rfl
@[simp] theorem State.setMts_pwr (s : State) (n : Lane) (c : MediaTime) : (s.setMts n c).pwr = s.pwr := rfl
@[simp] theorem State.setMts_seqs (s : State) (n : Lane) (c : MediaTime) : (s.setMts n c).seqs = s.seqs := rfl
@[simp] theorem State.setMts_mend (s : State) (n : Lane) (c : MediaTime) : (s.setMts n c).mend = s.mend := rfl
@[simp] theorem State.setMts_queues (s : State) (n : Lane) (c : MediaTime) : (s.setMts n c).queues = s.queues := rfl
@[simp] theorem State.setMts_crn (s : State) (n : Lane) (c : MediaTime) : (s.setMts n c).crn = s.crn := rfl
@[simp] theorem State.setMts_lanes (s : State) (n : Lane) (c : MediaTime) : (s.setMts n c).lanes = s.lanes.set n { s.lane n with mts := c } := rfl
@[simp] theorem State.setMts_shared (s : State) (n : Lane) (c : MediaTime) : (s.setMts n c).shared = s.shared := rfl
@[simp] theorem State.setMts_whl (s : State) (n : Lane) (c : MediaTime) : (s.setMts n c).whl = s.whl := rfl
@[simp] theorem State.setMts_kln (s : State) (n : Lane) (c : MediaTime) : (s.setMts n c).kln = s.kln := rfl
@[simp] theorem State.setMts_lko (s : State) (n : Lane) (c : MediaTime) : (s.setMts n c).lko = s.lko := rfl
@[simp] theorem State.setMts_media (s : State) (n : Lane) (c : MediaTime) : (s.setMts n c).media = s.media := rfl
@[simp] theorem State.setMts_scheds (s : State) (n : Lane) (c : MediaTime) : (s.setMts n c).scheds = s.scheds := rfl
@[simp] theorem State.setMts_stale (s : State) (n : Lane) (c : MediaTime) : (s.setMts n c).stale = s.stale := rfl
@[simp] theorem State.setMts_fills (s : State) (n : Lane) (c : MediaTime) : (s.setMts n c).fills = s.fills := rfl
@[simp] theorem State.setMts_mover (s : State) (n : Lane) (c : MediaTime) : (s.setMts n c).mover = s.mover := rfl
@[simp] theorem State.setMts_buf (s : State) (n : Lane) (c : MediaTime) : (s.setMts n c).buf = s.buf := rfl
@[simp] theorem State.setMts_cache (s : State) (n : Lane) (c : MediaTime) : (s.setMts n c).cache = s.cache := rfl
@[simp] theorem State.setMts_hif (s : State) (n : Lane) (c : MediaTime) : (s.setMts n c).hif = s.hif := rfl
@[simp] theorem State.setMts_sbd (s : State) (n : Lane) (c : MediaTime) : (s.setMts n c).sbd = s.sbd := rfl
@[simp] theorem State.setMts_free (s : State) (n : Lane) (c : MediaTime) : (s.setMts n c).free = s.free := rfl
@[simp] theorem State.setMts_out (s : State) (n : Lane) (c : MediaTime) : (s.setMts n c).out = s.out := rfl

/-! ## setSeq -/

@[simp] theorem State.setSeq_pending (s : State) (q : SeqIx) (x : Seq) : (s.setSeq q x).pending = s.pending := rfl
@[simp] theorem State.setSeq_regs (s : State) (q : SeqIx) (x : Seq) : (s.setSeq q x).regs = s.regs := rfl
@[simp] theorem State.setSeq_caps (s : State) (q : SeqIx) (x : Seq) : (s.setSeq q x).caps = s.caps := rfl
@[simp] theorem State.setSeq_tqWait (s : State) (q : SeqIx) (x : Seq) : (s.setSeq q x).tqWait = s.tqWait := rfl
@[simp] theorem State.setSeq_fuses (s : State) (q : SeqIx) (x : Seq) : (s.setSeq q x).fuses = s.fuses := rfl
@[simp] theorem State.setSeq_pins (s : State) (q : SeqIx) (x : Seq) : (s.setSeq q x).pins = s.pins := rfl
@[simp] theorem State.setSeq_boot (s : State) (q : SeqIx) (x : Seq) : (s.setSeq q x).boot = s.boot := rfl
@[simp] theorem State.setSeq_flash (s : State) (q : SeqIx) (x : Seq) : (s.setSeq q x).flash = s.flash := rfl
@[simp] theorem State.setSeq_pwr (s : State) (q : SeqIx) (x : Seq) : (s.setSeq q x).pwr = s.pwr := rfl
@[simp] theorem State.setSeq_seqs (s : State) (q : SeqIx) (x : Seq) : (s.setSeq q x).seqs = s.seqs.set q x := rfl
@[simp] theorem State.setSeq_mend (s : State) (q : SeqIx) (x : Seq) : (s.setSeq q x).mend = s.mend := rfl
@[simp] theorem State.setSeq_queues (s : State) (q : SeqIx) (x : Seq) : (s.setSeq q x).queues = s.queues := rfl
@[simp] theorem State.setSeq_crn (s : State) (q : SeqIx) (x : Seq) : (s.setSeq q x).crn = s.crn := rfl
@[simp] theorem State.setSeq_lanes (s : State) (q : SeqIx) (x : Seq) : (s.setSeq q x).lanes = s.lanes := rfl
@[simp] theorem State.setSeq_shared (s : State) (q : SeqIx) (x : Seq) : (s.setSeq q x).shared = s.shared := rfl
@[simp] theorem State.setSeq_whl (s : State) (q : SeqIx) (x : Seq) : (s.setSeq q x).whl = s.whl := rfl
@[simp] theorem State.setSeq_kln (s : State) (q : SeqIx) (x : Seq) : (s.setSeq q x).kln = s.kln := rfl
@[simp] theorem State.setSeq_lko (s : State) (q : SeqIx) (x : Seq) : (s.setSeq q x).lko = s.lko := rfl
@[simp] theorem State.setSeq_media (s : State) (q : SeqIx) (x : Seq) : (s.setSeq q x).media = s.media := rfl
@[simp] theorem State.setSeq_scheds (s : State) (q : SeqIx) (x : Seq) : (s.setSeq q x).scheds = s.scheds := rfl
@[simp] theorem State.setSeq_stale (s : State) (q : SeqIx) (x : Seq) : (s.setSeq q x).stale = s.stale := rfl
@[simp] theorem State.setSeq_fills (s : State) (q : SeqIx) (x : Seq) : (s.setSeq q x).fills = s.fills := rfl
@[simp] theorem State.setSeq_mover (s : State) (q : SeqIx) (x : Seq) : (s.setSeq q x).mover = s.mover := rfl
@[simp] theorem State.setSeq_buf (s : State) (q : SeqIx) (x : Seq) : (s.setSeq q x).buf = s.buf := rfl
@[simp] theorem State.setSeq_cache (s : State) (q : SeqIx) (x : Seq) : (s.setSeq q x).cache = s.cache := rfl
@[simp] theorem State.setSeq_hif (s : State) (q : SeqIx) (x : Seq) : (s.setSeq q x).hif = s.hif := rfl
@[simp] theorem State.setSeq_sbd (s : State) (q : SeqIx) (x : Seq) : (s.setSeq q x).sbd = s.sbd := rfl
@[simp] theorem State.setSeq_free (s : State) (q : SeqIx) (x : Seq) : (s.setSeq q x).free = s.free := rfl
@[simp] theorem State.setSeq_out (s : State) (q : SeqIx) (x : Seq) : (s.setSeq q x).out = s.out := rfl

/-! ## setMover -/

@[simp] theorem State.setMover_pending (s : State) (c : ChanIx) (x : MoverChan) : (s.setMover c x).pending = s.pending := rfl
@[simp] theorem State.setMover_regs (s : State) (c : ChanIx) (x : MoverChan) : (s.setMover c x).regs = s.regs := rfl
@[simp] theorem State.setMover_caps (s : State) (c : ChanIx) (x : MoverChan) : (s.setMover c x).caps = s.caps := rfl
@[simp] theorem State.setMover_tqWait (s : State) (c : ChanIx) (x : MoverChan) : (s.setMover c x).tqWait = s.tqWait := rfl
@[simp] theorem State.setMover_fuses (s : State) (c : ChanIx) (x : MoverChan) : (s.setMover c x).fuses = s.fuses := rfl
@[simp] theorem State.setMover_pins (s : State) (c : ChanIx) (x : MoverChan) : (s.setMover c x).pins = s.pins := rfl
@[simp] theorem State.setMover_boot (s : State) (c : ChanIx) (x : MoverChan) : (s.setMover c x).boot = s.boot := rfl
@[simp] theorem State.setMover_flash (s : State) (c : ChanIx) (x : MoverChan) : (s.setMover c x).flash = s.flash := rfl
@[simp] theorem State.setMover_pwr (s : State) (c : ChanIx) (x : MoverChan) : (s.setMover c x).pwr = s.pwr := rfl
@[simp] theorem State.setMover_seqs (s : State) (c : ChanIx) (x : MoverChan) : (s.setMover c x).seqs = s.seqs := rfl
@[simp] theorem State.setMover_mend (s : State) (c : ChanIx) (x : MoverChan) : (s.setMover c x).mend = s.mend := rfl
@[simp] theorem State.setMover_queues (s : State) (c : ChanIx) (x : MoverChan) : (s.setMover c x).queues = s.queues := rfl
@[simp] theorem State.setMover_crn (s : State) (c : ChanIx) (x : MoverChan) : (s.setMover c x).crn = s.crn := rfl
@[simp] theorem State.setMover_lanes (s : State) (c : ChanIx) (x : MoverChan) : (s.setMover c x).lanes = s.lanes := rfl
@[simp] theorem State.setMover_shared (s : State) (c : ChanIx) (x : MoverChan) : (s.setMover c x).shared = s.shared := rfl
@[simp] theorem State.setMover_whl (s : State) (c : ChanIx) (x : MoverChan) : (s.setMover c x).whl = s.whl := rfl
@[simp] theorem State.setMover_kln (s : State) (c : ChanIx) (x : MoverChan) : (s.setMover c x).kln = s.kln := rfl
@[simp] theorem State.setMover_lko (s : State) (c : ChanIx) (x : MoverChan) : (s.setMover c x).lko = s.lko := rfl
@[simp] theorem State.setMover_media (s : State) (c : ChanIx) (x : MoverChan) : (s.setMover c x).media = s.media := rfl
@[simp] theorem State.setMover_scheds (s : State) (c : ChanIx) (x : MoverChan) : (s.setMover c x).scheds = s.scheds := rfl
@[simp] theorem State.setMover_stale (s : State) (c : ChanIx) (x : MoverChan) : (s.setMover c x).stale = s.stale := rfl
@[simp] theorem State.setMover_fills (s : State) (c : ChanIx) (x : MoverChan) : (s.setMover c x).fills = s.fills := rfl
@[simp] theorem State.setMover_mover (s : State) (c : ChanIx) (x : MoverChan) : (s.setMover c x).mover = { s.mover with chans := s.mover.chans.set c x } := rfl
@[simp] theorem State.setMover_buf (s : State) (c : ChanIx) (x : MoverChan) : (s.setMover c x).buf = s.buf := rfl
@[simp] theorem State.setMover_cache (s : State) (c : ChanIx) (x : MoverChan) : (s.setMover c x).cache = s.cache := rfl
@[simp] theorem State.setMover_hif (s : State) (c : ChanIx) (x : MoverChan) : (s.setMover c x).hif = s.hif := rfl
@[simp] theorem State.setMover_sbd (s : State) (c : ChanIx) (x : MoverChan) : (s.setMover c x).sbd = s.sbd := rfl
@[simp] theorem State.setMover_free (s : State) (c : ChanIx) (x : MoverChan) : (s.setMover c x).free = s.free := rfl
@[simp] theorem State.setMover_out (s : State) (c : ChanIx) (x : MoverChan) : (s.setMover c x).out = s.out := rfl

/-! ## setQueue -/

@[simp] theorem State.setQueue_pending (s : State) (q : QIx) (x : Queue) : (s.setQueue q x).pending = s.pending := rfl
@[simp] theorem State.setQueue_regs (s : State) (q : QIx) (x : Queue) : (s.setQueue q x).regs = s.regs := rfl
@[simp] theorem State.setQueue_caps (s : State) (q : QIx) (x : Queue) : (s.setQueue q x).caps = s.caps := rfl
@[simp] theorem State.setQueue_tqWait (s : State) (q : QIx) (x : Queue) : (s.setQueue q x).tqWait = s.tqWait := rfl
@[simp] theorem State.setQueue_fuses (s : State) (q : QIx) (x : Queue) : (s.setQueue q x).fuses = s.fuses := rfl
@[simp] theorem State.setQueue_pins (s : State) (q : QIx) (x : Queue) : (s.setQueue q x).pins = s.pins := rfl
@[simp] theorem State.setQueue_boot (s : State) (q : QIx) (x : Queue) : (s.setQueue q x).boot = s.boot := rfl
@[simp] theorem State.setQueue_flash (s : State) (q : QIx) (x : Queue) : (s.setQueue q x).flash = s.flash := rfl
@[simp] theorem State.setQueue_pwr (s : State) (q : QIx) (x : Queue) : (s.setQueue q x).pwr = s.pwr := rfl
@[simp] theorem State.setQueue_seqs (s : State) (q : QIx) (x : Queue) : (s.setQueue q x).seqs = s.seqs := rfl
@[simp] theorem State.setQueue_mend (s : State) (q : QIx) (x : Queue) : (s.setQueue q x).mend = s.mend := rfl
@[simp] theorem State.setQueue_queues (s : State) (q : QIx) (x : Queue) : (s.setQueue q x).queues = s.queues.set q x := rfl
@[simp] theorem State.setQueue_crn (s : State) (q : QIx) (x : Queue) : (s.setQueue q x).crn = s.crn := rfl
@[simp] theorem State.setQueue_lanes (s : State) (q : QIx) (x : Queue) : (s.setQueue q x).lanes = s.lanes := rfl
@[simp] theorem State.setQueue_shared (s : State) (q : QIx) (x : Queue) : (s.setQueue q x).shared = s.shared := rfl
@[simp] theorem State.setQueue_whl (s : State) (q : QIx) (x : Queue) : (s.setQueue q x).whl = s.whl := rfl
@[simp] theorem State.setQueue_kln (s : State) (q : QIx) (x : Queue) : (s.setQueue q x).kln = s.kln := rfl
@[simp] theorem State.setQueue_lko (s : State) (q : QIx) (x : Queue) : (s.setQueue q x).lko = s.lko := rfl
@[simp] theorem State.setQueue_media (s : State) (q : QIx) (x : Queue) : (s.setQueue q x).media = s.media := rfl
@[simp] theorem State.setQueue_scheds (s : State) (q : QIx) (x : Queue) : (s.setQueue q x).scheds = s.scheds := rfl
@[simp] theorem State.setQueue_stale (s : State) (q : QIx) (x : Queue) : (s.setQueue q x).stale = s.stale := rfl
@[simp] theorem State.setQueue_fills (s : State) (q : QIx) (x : Queue) : (s.setQueue q x).fills = s.fills := rfl
@[simp] theorem State.setQueue_mover (s : State) (q : QIx) (x : Queue) : (s.setQueue q x).mover = s.mover := rfl
@[simp] theorem State.setQueue_buf (s : State) (q : QIx) (x : Queue) : (s.setQueue q x).buf = s.buf := rfl
@[simp] theorem State.setQueue_cache (s : State) (q : QIx) (x : Queue) : (s.setQueue q x).cache = s.cache := rfl
@[simp] theorem State.setQueue_hif (s : State) (q : QIx) (x : Queue) : (s.setQueue q x).hif = s.hif := rfl
@[simp] theorem State.setQueue_sbd (s : State) (q : QIx) (x : Queue) : (s.setQueue q x).sbd = s.sbd := rfl
@[simp] theorem State.setQueue_free (s : State) (q : QIx) (x : Queue) : (s.setQueue q x).free = s.free := rfl
@[simp] theorem State.setQueue_out (s : State) (q : QIx) (x : Queue) : (s.setQueue q x).out = s.out := rfl

/-! ## setHif -/

@[simp] theorem State.setHif_pending (s : State) (h : Hif) : (s.setHif h).pending = s.pending := rfl
@[simp] theorem State.setHif_regs (s : State) (h : Hif) : (s.setHif h).regs = s.regs := rfl
@[simp] theorem State.setHif_caps (s : State) (h : Hif) : (s.setHif h).caps = s.caps := rfl
@[simp] theorem State.setHif_tqWait (s : State) (h : Hif) : (s.setHif h).tqWait = s.tqWait := rfl
@[simp] theorem State.setHif_fuses (s : State) (h : Hif) : (s.setHif h).fuses = s.fuses := rfl
@[simp] theorem State.setHif_pins (s : State) (h : Hif) : (s.setHif h).pins = s.pins := rfl
@[simp] theorem State.setHif_boot (s : State) (h : Hif) : (s.setHif h).boot = s.boot := rfl
@[simp] theorem State.setHif_flash (s : State) (h : Hif) : (s.setHif h).flash = s.flash := rfl
@[simp] theorem State.setHif_pwr (s : State) (h : Hif) : (s.setHif h).pwr = s.pwr := rfl
@[simp] theorem State.setHif_seqs (s : State) (h : Hif) : (s.setHif h).seqs = s.seqs := rfl
@[simp] theorem State.setHif_mend (s : State) (h : Hif) : (s.setHif h).mend = s.mend := rfl
@[simp] theorem State.setHif_queues (s : State) (h : Hif) : (s.setHif h).queues = s.queues := rfl
@[simp] theorem State.setHif_crn (s : State) (h : Hif) : (s.setHif h).crn = s.crn := rfl
@[simp] theorem State.setHif_lanes (s : State) (h : Hif) : (s.setHif h).lanes = s.lanes := rfl
@[simp] theorem State.setHif_shared (s : State) (h : Hif) : (s.setHif h).shared = s.shared := rfl
@[simp] theorem State.setHif_whl (s : State) (h : Hif) : (s.setHif h).whl = s.whl := rfl
@[simp] theorem State.setHif_kln (s : State) (h : Hif) : (s.setHif h).kln = s.kln := rfl
@[simp] theorem State.setHif_lko (s : State) (h : Hif) : (s.setHif h).lko = s.lko := rfl
@[simp] theorem State.setHif_media (s : State) (h : Hif) : (s.setHif h).media = s.media := rfl
@[simp] theorem State.setHif_scheds (s : State) (h : Hif) : (s.setHif h).scheds = s.scheds := rfl
@[simp] theorem State.setHif_stale (s : State) (h : Hif) : (s.setHif h).stale = s.stale := rfl
@[simp] theorem State.setHif_fills (s : State) (h : Hif) : (s.setHif h).fills = s.fills := rfl
@[simp] theorem State.setHif_mover (s : State) (h : Hif) : (s.setHif h).mover = s.mover := rfl
@[simp] theorem State.setHif_buf (s : State) (h : Hif) : (s.setHif h).buf = s.buf := rfl
@[simp] theorem State.setHif_cache (s : State) (h : Hif) : (s.setHif h).cache = s.cache := rfl
@[simp] theorem State.setHif_hif (s : State) (h : Hif) : (s.setHif h).hif = h := rfl
@[simp] theorem State.setHif_sbd (s : State) (h : Hif) : (s.setHif h).sbd = s.sbd := rfl
@[simp] theorem State.setHif_free (s : State) (h : Hif) : (s.setHif h).free = s.free := rfl
@[simp] theorem State.setHif_out (s : State) (h : Hif) : (s.setHif h).out = s.out := rfl

/-! ## setCtl -/

@[simp] theorem State.setCtl_pending (s : State) (p : Port) (c : Controller) : (s.setCtl p c).pending = s.pending := rfl
@[simp] theorem State.setCtl_regs (s : State) (p : Port) (c : Controller) : (s.setCtl p c).regs = s.regs := rfl
@[simp] theorem State.setCtl_caps (s : State) (p : Port) (c : Controller) : (s.setCtl p c).caps = s.caps := rfl
@[simp] theorem State.setCtl_tqWait (s : State) (p : Port) (c : Controller) : (s.setCtl p c).tqWait = s.tqWait := rfl
@[simp] theorem State.setCtl_fuses (s : State) (p : Port) (c : Controller) : (s.setCtl p c).fuses = s.fuses := rfl
@[simp] theorem State.setCtl_pins (s : State) (p : Port) (c : Controller) : (s.setCtl p c).pins = s.pins := rfl
@[simp] theorem State.setCtl_boot (s : State) (p : Port) (c : Controller) : (s.setCtl p c).boot = s.boot := rfl
@[simp] theorem State.setCtl_flash (s : State) (p : Port) (c : Controller) : (s.setCtl p c).flash = s.flash := rfl
@[simp] theorem State.setCtl_pwr (s : State) (p : Port) (c : Controller) : (s.setCtl p c).pwr = s.pwr := rfl
@[simp] theorem State.setCtl_seqs (s : State) (p : Port) (c : Controller) : (s.setCtl p c).seqs = s.seqs := rfl
@[simp] theorem State.setCtl_mend (s : State) (p : Port) (c : Controller) : (s.setCtl p c).mend = s.mend := rfl
@[simp] theorem State.setCtl_queues (s : State) (p : Port) (c : Controller) : (s.setCtl p c).queues = s.queues := rfl
@[simp] theorem State.setCtl_crn (s : State) (p : Port) (c : Controller) : (s.setCtl p c).crn = s.crn := rfl
@[simp] theorem State.setCtl_lanes (s : State) (p : Port) (c : Controller) : (s.setCtl p c).lanes = s.lanes := rfl
@[simp] theorem State.setCtl_shared (s : State) (p : Port) (c : Controller) : (s.setCtl p c).shared = s.shared := rfl
@[simp] theorem State.setCtl_whl (s : State) (p : Port) (c : Controller) : (s.setCtl p c).whl = s.whl := rfl
@[simp] theorem State.setCtl_kln (s : State) (p : Port) (c : Controller) : (s.setCtl p c).kln = s.kln := rfl
@[simp] theorem State.setCtl_lko (s : State) (p : Port) (c : Controller) : (s.setCtl p c).lko = s.lko := rfl
@[simp] theorem State.setCtl_media (s : State) (p : Port) (c : Controller) : (s.setCtl p c).media = s.media := rfl
@[simp] theorem State.setCtl_scheds (s : State) (p : Port) (c : Controller) : (s.setCtl p c).scheds = s.scheds := rfl
@[simp] theorem State.setCtl_stale (s : State) (p : Port) (c : Controller) : (s.setCtl p c).stale = s.stale := rfl
@[simp] theorem State.setCtl_fills (s : State) (p : Port) (c : Controller) : (s.setCtl p c).fills = s.fills := rfl
@[simp] theorem State.setCtl_mover (s : State) (p : Port) (c : Controller) : (s.setCtl p c).mover = s.mover := rfl
@[simp] theorem State.setCtl_buf (s : State) (p : Port) (c : Controller) : (s.setCtl p c).buf = s.buf := rfl
@[simp] theorem State.setCtl_cache (s : State) (p : Port) (c : Controller) : (s.setCtl p c).cache = s.cache := rfl
@[simp] theorem State.setCtl_hif (s : State) (p : Port) (c : Controller) : (s.setCtl p c).hif = { s.hif with ctls := s.hif.ctls.set p c } := rfl
@[simp] theorem State.setCtl_sbd (s : State) (p : Port) (c : Controller) : (s.setCtl p c).sbd = s.sbd := rfl
@[simp] theorem State.setCtl_free (s : State) (p : Port) (c : Controller) : (s.setCtl p c).free = s.free := rfl
@[simp] theorem State.setCtl_out (s : State) (p : Port) (c : Controller) : (s.setCtl p c).out = s.out := rfl

/-! ## setPort -/

@[simp] theorem State.setPort_pending (s : State) (p : Port) (x : PortState) : (s.setPort p x).pending = s.pending := rfl
@[simp] theorem State.setPort_regs (s : State) (p : Port) (x : PortState) : (s.setPort p x).regs = s.regs := rfl
@[simp] theorem State.setPort_caps (s : State) (p : Port) (x : PortState) : (s.setPort p x).caps = s.caps := rfl
@[simp] theorem State.setPort_tqWait (s : State) (p : Port) (x : PortState) : (s.setPort p x).tqWait = s.tqWait := rfl
@[simp] theorem State.setPort_fuses (s : State) (p : Port) (x : PortState) : (s.setPort p x).fuses = s.fuses := rfl
@[simp] theorem State.setPort_pins (s : State) (p : Port) (x : PortState) : (s.setPort p x).pins = s.pins := rfl
@[simp] theorem State.setPort_boot (s : State) (p : Port) (x : PortState) : (s.setPort p x).boot = s.boot := rfl
@[simp] theorem State.setPort_flash (s : State) (p : Port) (x : PortState) : (s.setPort p x).flash = s.flash := rfl
@[simp] theorem State.setPort_pwr (s : State) (p : Port) (x : PortState) : (s.setPort p x).pwr = s.pwr := rfl
@[simp] theorem State.setPort_seqs (s : State) (p : Port) (x : PortState) : (s.setPort p x).seqs = s.seqs := rfl
@[simp] theorem State.setPort_mend (s : State) (p : Port) (x : PortState) : (s.setPort p x).mend = s.mend := rfl
@[simp] theorem State.setPort_queues (s : State) (p : Port) (x : PortState) : (s.setPort p x).queues = s.queues := rfl
@[simp] theorem State.setPort_crn (s : State) (p : Port) (x : PortState) : (s.setPort p x).crn = s.crn := rfl
@[simp] theorem State.setPort_lanes (s : State) (p : Port) (x : PortState) : (s.setPort p x).lanes = s.lanes := rfl
@[simp] theorem State.setPort_shared (s : State) (p : Port) (x : PortState) : (s.setPort p x).shared = s.shared := rfl
@[simp] theorem State.setPort_whl (s : State) (p : Port) (x : PortState) : (s.setPort p x).whl = s.whl := rfl
@[simp] theorem State.setPort_kln (s : State) (p : Port) (x : PortState) : (s.setPort p x).kln = s.kln := rfl
@[simp] theorem State.setPort_lko (s : State) (p : Port) (x : PortState) : (s.setPort p x).lko = s.lko := rfl
@[simp] theorem State.setPort_media (s : State) (p : Port) (x : PortState) : (s.setPort p x).media = s.media := rfl
@[simp] theorem State.setPort_scheds (s : State) (p : Port) (x : PortState) : (s.setPort p x).scheds = s.scheds := rfl
@[simp] theorem State.setPort_stale (s : State) (p : Port) (x : PortState) : (s.setPort p x).stale = s.stale := rfl
@[simp] theorem State.setPort_fills (s : State) (p : Port) (x : PortState) : (s.setPort p x).fills = s.fills := rfl
@[simp] theorem State.setPort_mover (s : State) (p : Port) (x : PortState) : (s.setPort p x).mover = s.mover := rfl
@[simp] theorem State.setPort_buf (s : State) (p : Port) (x : PortState) : (s.setPort p x).buf = s.buf := rfl
@[simp] theorem State.setPort_cache (s : State) (p : Port) (x : PortState) : (s.setPort p x).cache = s.cache := rfl
@[simp] theorem State.setPort_hif (s : State) (p : Port) (x : PortState) : (s.setPort p x).hif = { s.hif with ports := s.hif.ports.set p x } := rfl
@[simp] theorem State.setPort_sbd (s : State) (p : Port) (x : PortState) : (s.setPort p x).sbd = s.sbd := rfl
@[simp] theorem State.setPort_free (s : State) (p : Port) (x : PortState) : (s.setPort p x).free = s.free := rfl
@[simp] theorem State.setPort_out (s : State) (p : Port) (x : PortState) : (s.setPort p x).out = s.out := rfl

/-! ## setSata -/

@[simp] theorem State.setSata_pending (s : State) (x : Sata) : (s.setSata x).pending = s.pending := rfl
@[simp] theorem State.setSata_regs (s : State) (x : Sata) : (s.setSata x).regs = s.regs := rfl
@[simp] theorem State.setSata_caps (s : State) (x : Sata) : (s.setSata x).caps = s.caps := rfl
@[simp] theorem State.setSata_tqWait (s : State) (x : Sata) : (s.setSata x).tqWait = s.tqWait := rfl
@[simp] theorem State.setSata_fuses (s : State) (x : Sata) : (s.setSata x).fuses = s.fuses := rfl
@[simp] theorem State.setSata_pins (s : State) (x : Sata) : (s.setSata x).pins = s.pins := rfl
@[simp] theorem State.setSata_boot (s : State) (x : Sata) : (s.setSata x).boot = s.boot := rfl
@[simp] theorem State.setSata_flash (s : State) (x : Sata) : (s.setSata x).flash = s.flash := rfl
@[simp] theorem State.setSata_pwr (s : State) (x : Sata) : (s.setSata x).pwr = s.pwr := rfl
@[simp] theorem State.setSata_seqs (s : State) (x : Sata) : (s.setSata x).seqs = s.seqs := rfl
@[simp] theorem State.setSata_mend (s : State) (x : Sata) : (s.setSata x).mend = s.mend := rfl
@[simp] theorem State.setSata_queues (s : State) (x : Sata) : (s.setSata x).queues = s.queues := rfl
@[simp] theorem State.setSata_crn (s : State) (x : Sata) : (s.setSata x).crn = s.crn := rfl
@[simp] theorem State.setSata_lanes (s : State) (x : Sata) : (s.setSata x).lanes = s.lanes := rfl
@[simp] theorem State.setSata_shared (s : State) (x : Sata) : (s.setSata x).shared = s.shared := rfl
@[simp] theorem State.setSata_whl (s : State) (x : Sata) : (s.setSata x).whl = s.whl := rfl
@[simp] theorem State.setSata_kln (s : State) (x : Sata) : (s.setSata x).kln = s.kln := rfl
@[simp] theorem State.setSata_lko (s : State) (x : Sata) : (s.setSata x).lko = s.lko := rfl
@[simp] theorem State.setSata_media (s : State) (x : Sata) : (s.setSata x).media = s.media := rfl
@[simp] theorem State.setSata_scheds (s : State) (x : Sata) : (s.setSata x).scheds = s.scheds := rfl
@[simp] theorem State.setSata_stale (s : State) (x : Sata) : (s.setSata x).stale = s.stale := rfl
@[simp] theorem State.setSata_fills (s : State) (x : Sata) : (s.setSata x).fills = s.fills := rfl
@[simp] theorem State.setSata_mover (s : State) (x : Sata) : (s.setSata x).mover = s.mover := rfl
@[simp] theorem State.setSata_buf (s : State) (x : Sata) : (s.setSata x).buf = s.buf := rfl
@[simp] theorem State.setSata_cache (s : State) (x : Sata) : (s.setSata x).cache = s.cache := rfl
@[simp] theorem State.setSata_hif (s : State) (x : Sata) : (s.setSata x).hif = { s.hif with sata := x } := rfl
@[simp] theorem State.setSata_sbd (s : State) (x : Sata) : (s.setSata x).sbd = s.sbd := rfl
@[simp] theorem State.setSata_free (s : State) (x : Sata) : (s.setSata x).free = s.free := rfl
@[simp] theorem State.setSata_out (s : State) (x : Sata) : (s.setSata x).out = s.out := rfl

/-! ## setBoot -/

@[simp] theorem State.setBoot_pending (s : State) (b : Boot) : (s.setBoot b).pending = s.pending := rfl
@[simp] theorem State.setBoot_regs (s : State) (b : Boot) : (s.setBoot b).regs = s.regs := rfl
@[simp] theorem State.setBoot_caps (s : State) (b : Boot) : (s.setBoot b).caps = s.caps := rfl
@[simp] theorem State.setBoot_tqWait (s : State) (b : Boot) : (s.setBoot b).tqWait = s.tqWait := rfl
@[simp] theorem State.setBoot_fuses (s : State) (b : Boot) : (s.setBoot b).fuses = s.fuses := rfl
@[simp] theorem State.setBoot_pins (s : State) (b : Boot) : (s.setBoot b).pins = s.pins := rfl
@[simp] theorem State.setBoot_boot (s : State) (b : Boot) : (s.setBoot b).boot = b := rfl
@[simp] theorem State.setBoot_flash (s : State) (b : Boot) : (s.setBoot b).flash = s.flash := rfl
@[simp] theorem State.setBoot_pwr (s : State) (b : Boot) : (s.setBoot b).pwr = s.pwr := rfl
@[simp] theorem State.setBoot_seqs (s : State) (b : Boot) : (s.setBoot b).seqs = s.seqs := rfl
@[simp] theorem State.setBoot_mend (s : State) (b : Boot) : (s.setBoot b).mend = s.mend := rfl
@[simp] theorem State.setBoot_queues (s : State) (b : Boot) : (s.setBoot b).queues = s.queues := rfl
@[simp] theorem State.setBoot_crn (s : State) (b : Boot) : (s.setBoot b).crn = s.crn := rfl
@[simp] theorem State.setBoot_lanes (s : State) (b : Boot) : (s.setBoot b).lanes = s.lanes := rfl
@[simp] theorem State.setBoot_shared (s : State) (b : Boot) : (s.setBoot b).shared = s.shared := rfl
@[simp] theorem State.setBoot_whl (s : State) (b : Boot) : (s.setBoot b).whl = s.whl := rfl
@[simp] theorem State.setBoot_kln (s : State) (b : Boot) : (s.setBoot b).kln = s.kln := rfl
@[simp] theorem State.setBoot_lko (s : State) (b : Boot) : (s.setBoot b).lko = s.lko := rfl
@[simp] theorem State.setBoot_media (s : State) (b : Boot) : (s.setBoot b).media = s.media := rfl
@[simp] theorem State.setBoot_scheds (s : State) (b : Boot) : (s.setBoot b).scheds = s.scheds := rfl
@[simp] theorem State.setBoot_stale (s : State) (b : Boot) : (s.setBoot b).stale = s.stale := rfl
@[simp] theorem State.setBoot_fills (s : State) (b : Boot) : (s.setBoot b).fills = s.fills := rfl
@[simp] theorem State.setBoot_mover (s : State) (b : Boot) : (s.setBoot b).mover = s.mover := rfl
@[simp] theorem State.setBoot_buf (s : State) (b : Boot) : (s.setBoot b).buf = s.buf := rfl
@[simp] theorem State.setBoot_cache (s : State) (b : Boot) : (s.setBoot b).cache = s.cache := rfl
@[simp] theorem State.setBoot_hif (s : State) (b : Boot) : (s.setBoot b).hif = s.hif := rfl
@[simp] theorem State.setBoot_sbd (s : State) (b : Boot) : (s.setBoot b).sbd = s.sbd := rfl
@[simp] theorem State.setBoot_free (s : State) (b : Boot) : (s.setBoot b).free = s.free := rfl
@[simp] theorem State.setBoot_out (s : State) (b : Boot) : (s.setBoot b).out = s.out := rfl

/-! ## setStage -/

@[simp] theorem State.setStage_pending (s : State) (k : Nat) : (s.setStage k).pending = s.pending := rfl
@[simp] theorem State.setStage_regs (s : State) (k : Nat) : (s.setStage k).regs = (s.put Reg.IMG_BOOT_STATUS_STAGE k).regs := rfl
@[simp] theorem State.setStage_caps (s : State) (k : Nat) : (s.setStage k).caps = s.caps := rfl
@[simp] theorem State.setStage_tqWait (s : State) (k : Nat) : (s.setStage k).tqWait = s.tqWait := rfl
@[simp] theorem State.setStage_fuses (s : State) (k : Nat) : (s.setStage k).fuses = s.fuses := rfl
@[simp] theorem State.setStage_pins (s : State) (k : Nat) : (s.setStage k).pins = s.pins := rfl
@[simp] theorem State.setStage_boot (s : State) (k : Nat) : (s.setStage k).boot = s.boot := rfl
@[simp] theorem State.setStage_flash (s : State) (k : Nat) : (s.setStage k).flash = s.flash := rfl
@[simp] theorem State.setStage_pwr (s : State) (k : Nat) : (s.setStage k).pwr = s.pwr := rfl
@[simp] theorem State.setStage_seqs (s : State) (k : Nat) : (s.setStage k).seqs = s.seqs := rfl
@[simp] theorem State.setStage_mend (s : State) (k : Nat) : (s.setStage k).mend = s.mend := rfl
@[simp] theorem State.setStage_queues (s : State) (k : Nat) : (s.setStage k).queues = s.queues := rfl
@[simp] theorem State.setStage_crn (s : State) (k : Nat) : (s.setStage k).crn = s.crn := rfl
@[simp] theorem State.setStage_lanes (s : State) (k : Nat) : (s.setStage k).lanes = s.lanes := rfl
@[simp] theorem State.setStage_shared (s : State) (k : Nat) : (s.setStage k).shared = s.shared := rfl
@[simp] theorem State.setStage_whl (s : State) (k : Nat) : (s.setStage k).whl = s.whl := rfl
@[simp] theorem State.setStage_kln (s : State) (k : Nat) : (s.setStage k).kln = s.kln := rfl
@[simp] theorem State.setStage_lko (s : State) (k : Nat) : (s.setStage k).lko = s.lko := rfl
@[simp] theorem State.setStage_media (s : State) (k : Nat) : (s.setStage k).media = s.media := rfl
@[simp] theorem State.setStage_scheds (s : State) (k : Nat) : (s.setStage k).scheds = s.scheds := rfl
@[simp] theorem State.setStage_stale (s : State) (k : Nat) : (s.setStage k).stale = s.stale := rfl
@[simp] theorem State.setStage_fills (s : State) (k : Nat) : (s.setStage k).fills = s.fills := rfl
@[simp] theorem State.setStage_mover (s : State) (k : Nat) : (s.setStage k).mover = s.mover := rfl
@[simp] theorem State.setStage_buf (s : State) (k : Nat) : (s.setStage k).buf = s.buf := rfl
@[simp] theorem State.setStage_cache (s : State) (k : Nat) : (s.setStage k).cache = s.cache := rfl
@[simp] theorem State.setStage_hif (s : State) (k : Nat) : (s.setStage k).hif = s.hif := rfl
@[simp] theorem State.setStage_sbd (s : State) (k : Nat) : (s.setStage k).sbd = s.sbd := rfl
@[simp] theorem State.setStage_free (s : State) (k : Nat) : (s.setStage k).free = s.free := rfl
@[simp] theorem State.setStage_out (s : State) (k : Nat) : (s.setStage k).out = s.out := rfl

/-! ## setCrn -/

@[simp] theorem State.setCrn_pending (s : State) (c : Cairn) : (s.setCrn c).pending = s.pending := rfl
@[simp] theorem State.setCrn_regs (s : State) (c : Cairn) : (s.setCrn c).regs = s.regs := rfl
@[simp] theorem State.setCrn_caps (s : State) (c : Cairn) : (s.setCrn c).caps = s.caps := rfl
@[simp] theorem State.setCrn_tqWait (s : State) (c : Cairn) : (s.setCrn c).tqWait = s.tqWait := rfl
@[simp] theorem State.setCrn_fuses (s : State) (c : Cairn) : (s.setCrn c).fuses = s.fuses := rfl
@[simp] theorem State.setCrn_pins (s : State) (c : Cairn) : (s.setCrn c).pins = s.pins := rfl
@[simp] theorem State.setCrn_boot (s : State) (c : Cairn) : (s.setCrn c).boot = s.boot := rfl
@[simp] theorem State.setCrn_flash (s : State) (c : Cairn) : (s.setCrn c).flash = s.flash := rfl
@[simp] theorem State.setCrn_pwr (s : State) (c : Cairn) : (s.setCrn c).pwr = s.pwr := rfl
@[simp] theorem State.setCrn_seqs (s : State) (c : Cairn) : (s.setCrn c).seqs = s.seqs := rfl
@[simp] theorem State.setCrn_mend (s : State) (c : Cairn) : (s.setCrn c).mend = s.mend := rfl
@[simp] theorem State.setCrn_queues (s : State) (c : Cairn) : (s.setCrn c).queues = s.queues := rfl
@[simp] theorem State.setCrn_crn (s : State) (c : Cairn) : (s.setCrn c).crn = c := rfl
@[simp] theorem State.setCrn_lanes (s : State) (c : Cairn) : (s.setCrn c).lanes = s.lanes := rfl
@[simp] theorem State.setCrn_shared (s : State) (c : Cairn) : (s.setCrn c).shared = s.shared := rfl
@[simp] theorem State.setCrn_whl (s : State) (c : Cairn) : (s.setCrn c).whl = s.whl := rfl
@[simp] theorem State.setCrn_kln (s : State) (c : Cairn) : (s.setCrn c).kln = s.kln := rfl
@[simp] theorem State.setCrn_lko (s : State) (c : Cairn) : (s.setCrn c).lko = s.lko := rfl
@[simp] theorem State.setCrn_media (s : State) (c : Cairn) : (s.setCrn c).media = s.media := rfl
@[simp] theorem State.setCrn_scheds (s : State) (c : Cairn) : (s.setCrn c).scheds = s.scheds := rfl
@[simp] theorem State.setCrn_stale (s : State) (c : Cairn) : (s.setCrn c).stale = s.stale := rfl
@[simp] theorem State.setCrn_fills (s : State) (c : Cairn) : (s.setCrn c).fills = s.fills := rfl
@[simp] theorem State.setCrn_mover (s : State) (c : Cairn) : (s.setCrn c).mover = s.mover := rfl
@[simp] theorem State.setCrn_buf (s : State) (c : Cairn) : (s.setCrn c).buf = s.buf := rfl
@[simp] theorem State.setCrn_cache (s : State) (c : Cairn) : (s.setCrn c).cache = s.cache := rfl
@[simp] theorem State.setCrn_hif (s : State) (c : Cairn) : (s.setCrn c).hif = s.hif := rfl
@[simp] theorem State.setCrn_sbd (s : State) (c : Cairn) : (s.setCrn c).sbd = s.sbd := rfl
@[simp] theorem State.setCrn_free (s : State) (c : Cairn) : (s.setCrn c).free = s.free := rfl
@[simp] theorem State.setCrn_out (s : State) (c : Cairn) : (s.setCrn c).out = s.out := rfl

/-! ## setWhl -/

@[simp] theorem State.setWhl_pending (s : State) (w : Wheel) : (s.setWhl w).pending = s.pending := rfl
@[simp] theorem State.setWhl_regs (s : State) (w : Wheel) : (s.setWhl w).regs = s.regs := rfl
@[simp] theorem State.setWhl_caps (s : State) (w : Wheel) : (s.setWhl w).caps = s.caps := rfl
@[simp] theorem State.setWhl_tqWait (s : State) (w : Wheel) : (s.setWhl w).tqWait = s.tqWait := rfl
@[simp] theorem State.setWhl_fuses (s : State) (w : Wheel) : (s.setWhl w).fuses = s.fuses := rfl
@[simp] theorem State.setWhl_pins (s : State) (w : Wheel) : (s.setWhl w).pins = s.pins := rfl
@[simp] theorem State.setWhl_boot (s : State) (w : Wheel) : (s.setWhl w).boot = s.boot := rfl
@[simp] theorem State.setWhl_flash (s : State) (w : Wheel) : (s.setWhl w).flash = s.flash := rfl
@[simp] theorem State.setWhl_pwr (s : State) (w : Wheel) : (s.setWhl w).pwr = s.pwr := rfl
@[simp] theorem State.setWhl_seqs (s : State) (w : Wheel) : (s.setWhl w).seqs = s.seqs := rfl
@[simp] theorem State.setWhl_mend (s : State) (w : Wheel) : (s.setWhl w).mend = s.mend := rfl
@[simp] theorem State.setWhl_queues (s : State) (w : Wheel) : (s.setWhl w).queues = s.queues := rfl
@[simp] theorem State.setWhl_crn (s : State) (w : Wheel) : (s.setWhl w).crn = s.crn := rfl
@[simp] theorem State.setWhl_lanes (s : State) (w : Wheel) : (s.setWhl w).lanes = s.lanes := rfl
@[simp] theorem State.setWhl_shared (s : State) (w : Wheel) : (s.setWhl w).shared = s.shared := rfl
@[simp] theorem State.setWhl_whl (s : State) (w : Wheel) : (s.setWhl w).whl = w := rfl
@[simp] theorem State.setWhl_kln (s : State) (w : Wheel) : (s.setWhl w).kln = s.kln := rfl
@[simp] theorem State.setWhl_lko (s : State) (w : Wheel) : (s.setWhl w).lko = s.lko := rfl
@[simp] theorem State.setWhl_media (s : State) (w : Wheel) : (s.setWhl w).media = s.media := rfl
@[simp] theorem State.setWhl_scheds (s : State) (w : Wheel) : (s.setWhl w).scheds = s.scheds := rfl
@[simp] theorem State.setWhl_stale (s : State) (w : Wheel) : (s.setWhl w).stale = s.stale := rfl
@[simp] theorem State.setWhl_fills (s : State) (w : Wheel) : (s.setWhl w).fills = s.fills := rfl
@[simp] theorem State.setWhl_mover (s : State) (w : Wheel) : (s.setWhl w).mover = s.mover := rfl
@[simp] theorem State.setWhl_buf (s : State) (w : Wheel) : (s.setWhl w).buf = s.buf := rfl
@[simp] theorem State.setWhl_cache (s : State) (w : Wheel) : (s.setWhl w).cache = s.cache := rfl
@[simp] theorem State.setWhl_hif (s : State) (w : Wheel) : (s.setWhl w).hif = s.hif := rfl
@[simp] theorem State.setWhl_sbd (s : State) (w : Wheel) : (s.setWhl w).sbd = s.sbd := rfl
@[simp] theorem State.setWhl_free (s : State) (w : Wheel) : (s.setWhl w).free = s.free := rfl
@[simp] theorem State.setWhl_out (s : State) (w : Wheel) : (s.setWhl w).out = s.out := rfl

/-! ## setKln -/

@[simp] theorem State.setKln_pending (s : State) (k : Kiln) : (s.setKln k).pending = s.pending := rfl
@[simp] theorem State.setKln_regs (s : State) (k : Kiln) : (s.setKln k).regs = s.regs := rfl
@[simp] theorem State.setKln_caps (s : State) (k : Kiln) : (s.setKln k).caps = s.caps := rfl
@[simp] theorem State.setKln_tqWait (s : State) (k : Kiln) : (s.setKln k).tqWait = s.tqWait := rfl
@[simp] theorem State.setKln_fuses (s : State) (k : Kiln) : (s.setKln k).fuses = s.fuses := rfl
@[simp] theorem State.setKln_pins (s : State) (k : Kiln) : (s.setKln k).pins = s.pins := rfl
@[simp] theorem State.setKln_boot (s : State) (k : Kiln) : (s.setKln k).boot = s.boot := rfl
@[simp] theorem State.setKln_flash (s : State) (k : Kiln) : (s.setKln k).flash = s.flash := rfl
@[simp] theorem State.setKln_pwr (s : State) (k : Kiln) : (s.setKln k).pwr = s.pwr := rfl
@[simp] theorem State.setKln_seqs (s : State) (k : Kiln) : (s.setKln k).seqs = s.seqs := rfl
@[simp] theorem State.setKln_mend (s : State) (k : Kiln) : (s.setKln k).mend = s.mend := rfl
@[simp] theorem State.setKln_queues (s : State) (k : Kiln) : (s.setKln k).queues = s.queues := rfl
@[simp] theorem State.setKln_crn (s : State) (k : Kiln) : (s.setKln k).crn = s.crn := rfl
@[simp] theorem State.setKln_lanes (s : State) (k : Kiln) : (s.setKln k).lanes = s.lanes := rfl
@[simp] theorem State.setKln_shared (s : State) (k : Kiln) : (s.setKln k).shared = s.shared := rfl
@[simp] theorem State.setKln_whl (s : State) (k : Kiln) : (s.setKln k).whl = s.whl := rfl
@[simp] theorem State.setKln_kln (s : State) (k : Kiln) : (s.setKln k).kln = k := rfl
@[simp] theorem State.setKln_lko (s : State) (k : Kiln) : (s.setKln k).lko = s.lko := rfl
@[simp] theorem State.setKln_media (s : State) (k : Kiln) : (s.setKln k).media = s.media := rfl
@[simp] theorem State.setKln_scheds (s : State) (k : Kiln) : (s.setKln k).scheds = s.scheds := rfl
@[simp] theorem State.setKln_stale (s : State) (k : Kiln) : (s.setKln k).stale = s.stale := rfl
@[simp] theorem State.setKln_fills (s : State) (k : Kiln) : (s.setKln k).fills = s.fills := rfl
@[simp] theorem State.setKln_mover (s : State) (k : Kiln) : (s.setKln k).mover = s.mover := rfl
@[simp] theorem State.setKln_buf (s : State) (k : Kiln) : (s.setKln k).buf = s.buf := rfl
@[simp] theorem State.setKln_cache (s : State) (k : Kiln) : (s.setKln k).cache = s.cache := rfl
@[simp] theorem State.setKln_hif (s : State) (k : Kiln) : (s.setKln k).hif = s.hif := rfl
@[simp] theorem State.setKln_sbd (s : State) (k : Kiln) : (s.setKln k).sbd = s.sbd := rfl
@[simp] theorem State.setKln_free (s : State) (k : Kiln) : (s.setKln k).free = s.free := rfl
@[simp] theorem State.setKln_out (s : State) (k : Kiln) : (s.setKln k).out = s.out := rfl

/-! ## setLko -/

@[simp] theorem State.setLko_pending (s : State) (l : Lookout) : (s.setLko l).pending = s.pending := rfl
@[simp] theorem State.setLko_regs (s : State) (l : Lookout) : (s.setLko l).regs = s.regs := rfl
@[simp] theorem State.setLko_caps (s : State) (l : Lookout) : (s.setLko l).caps = s.caps := rfl
@[simp] theorem State.setLko_tqWait (s : State) (l : Lookout) : (s.setLko l).tqWait = s.tqWait := rfl
@[simp] theorem State.setLko_fuses (s : State) (l : Lookout) : (s.setLko l).fuses = s.fuses := rfl
@[simp] theorem State.setLko_pins (s : State) (l : Lookout) : (s.setLko l).pins = s.pins := rfl
@[simp] theorem State.setLko_boot (s : State) (l : Lookout) : (s.setLko l).boot = s.boot := rfl
@[simp] theorem State.setLko_flash (s : State) (l : Lookout) : (s.setLko l).flash = s.flash := rfl
@[simp] theorem State.setLko_pwr (s : State) (l : Lookout) : (s.setLko l).pwr = s.pwr := rfl
@[simp] theorem State.setLko_seqs (s : State) (l : Lookout) : (s.setLko l).seqs = s.seqs := rfl
@[simp] theorem State.setLko_mend (s : State) (l : Lookout) : (s.setLko l).mend = s.mend := rfl
@[simp] theorem State.setLko_queues (s : State) (l : Lookout) : (s.setLko l).queues = s.queues := rfl
@[simp] theorem State.setLko_crn (s : State) (l : Lookout) : (s.setLko l).crn = s.crn := rfl
@[simp] theorem State.setLko_lanes (s : State) (l : Lookout) : (s.setLko l).lanes = s.lanes := rfl
@[simp] theorem State.setLko_shared (s : State) (l : Lookout) : (s.setLko l).shared = s.shared := rfl
@[simp] theorem State.setLko_whl (s : State) (l : Lookout) : (s.setLko l).whl = s.whl := rfl
@[simp] theorem State.setLko_kln (s : State) (l : Lookout) : (s.setLko l).kln = s.kln := rfl
@[simp] theorem State.setLko_lko (s : State) (l : Lookout) : (s.setLko l).lko = l := rfl
@[simp] theorem State.setLko_media (s : State) (l : Lookout) : (s.setLko l).media = s.media := rfl
@[simp] theorem State.setLko_scheds (s : State) (l : Lookout) : (s.setLko l).scheds = s.scheds := rfl
@[simp] theorem State.setLko_stale (s : State) (l : Lookout) : (s.setLko l).stale = s.stale := rfl
@[simp] theorem State.setLko_fills (s : State) (l : Lookout) : (s.setLko l).fills = s.fills := rfl
@[simp] theorem State.setLko_mover (s : State) (l : Lookout) : (s.setLko l).mover = s.mover := rfl
@[simp] theorem State.setLko_buf (s : State) (l : Lookout) : (s.setLko l).buf = s.buf := rfl
@[simp] theorem State.setLko_cache (s : State) (l : Lookout) : (s.setLko l).cache = s.cache := rfl
@[simp] theorem State.setLko_hif (s : State) (l : Lookout) : (s.setLko l).hif = s.hif := rfl
@[simp] theorem State.setLko_sbd (s : State) (l : Lookout) : (s.setLko l).sbd = s.sbd := rfl
@[simp] theorem State.setLko_free (s : State) (l : Lookout) : (s.setLko l).free = s.free := rfl
@[simp] theorem State.setLko_out (s : State) (l : Lookout) : (s.setLko l).out = s.out := rfl

/-! ## setBuf -/

@[simp] theorem State.setBuf_pending (s : State) (b : Buffer) : (s.setBuf b).pending = s.pending := rfl
@[simp] theorem State.setBuf_regs (s : State) (b : Buffer) : (s.setBuf b).regs = s.regs := rfl
@[simp] theorem State.setBuf_caps (s : State) (b : Buffer) : (s.setBuf b).caps = s.caps := rfl
@[simp] theorem State.setBuf_tqWait (s : State) (b : Buffer) : (s.setBuf b).tqWait = s.tqWait := rfl
@[simp] theorem State.setBuf_fuses (s : State) (b : Buffer) : (s.setBuf b).fuses = s.fuses := rfl
@[simp] theorem State.setBuf_pins (s : State) (b : Buffer) : (s.setBuf b).pins = s.pins := rfl
@[simp] theorem State.setBuf_boot (s : State) (b : Buffer) : (s.setBuf b).boot = s.boot := rfl
@[simp] theorem State.setBuf_flash (s : State) (b : Buffer) : (s.setBuf b).flash = s.flash := rfl
@[simp] theorem State.setBuf_pwr (s : State) (b : Buffer) : (s.setBuf b).pwr = s.pwr := rfl
@[simp] theorem State.setBuf_seqs (s : State) (b : Buffer) : (s.setBuf b).seqs = s.seqs := rfl
@[simp] theorem State.setBuf_mend (s : State) (b : Buffer) : (s.setBuf b).mend = s.mend := rfl
@[simp] theorem State.setBuf_queues (s : State) (b : Buffer) : (s.setBuf b).queues = s.queues := rfl
@[simp] theorem State.setBuf_crn (s : State) (b : Buffer) : (s.setBuf b).crn = s.crn := rfl
@[simp] theorem State.setBuf_lanes (s : State) (b : Buffer) : (s.setBuf b).lanes = s.lanes := rfl
@[simp] theorem State.setBuf_shared (s : State) (b : Buffer) : (s.setBuf b).shared = s.shared := rfl
@[simp] theorem State.setBuf_whl (s : State) (b : Buffer) : (s.setBuf b).whl = s.whl := rfl
@[simp] theorem State.setBuf_kln (s : State) (b : Buffer) : (s.setBuf b).kln = s.kln := rfl
@[simp] theorem State.setBuf_lko (s : State) (b : Buffer) : (s.setBuf b).lko = s.lko := rfl
@[simp] theorem State.setBuf_media (s : State) (b : Buffer) : (s.setBuf b).media = s.media := rfl
@[simp] theorem State.setBuf_scheds (s : State) (b : Buffer) : (s.setBuf b).scheds = s.scheds := rfl
@[simp] theorem State.setBuf_stale (s : State) (b : Buffer) : (s.setBuf b).stale = s.stale := rfl
@[simp] theorem State.setBuf_fills (s : State) (b : Buffer) : (s.setBuf b).fills = s.fills := rfl
@[simp] theorem State.setBuf_mover (s : State) (b : Buffer) : (s.setBuf b).mover = s.mover := rfl
@[simp] theorem State.setBuf_buf (s : State) (b : Buffer) : (s.setBuf b).buf = b := rfl
@[simp] theorem State.setBuf_cache (s : State) (b : Buffer) : (s.setBuf b).cache = s.cache := rfl
@[simp] theorem State.setBuf_hif (s : State) (b : Buffer) : (s.setBuf b).hif = s.hif := rfl
@[simp] theorem State.setBuf_sbd (s : State) (b : Buffer) : (s.setBuf b).sbd = s.sbd := rfl
@[simp] theorem State.setBuf_free (s : State) (b : Buffer) : (s.setBuf b).free = s.free := rfl
@[simp] theorem State.setBuf_out (s : State) (b : Buffer) : (s.setBuf b).out = s.out := rfl

/-! ## setCache -/

@[simp] theorem State.setCache_pending (s : State) (c : Cache) : (s.setCache c).pending = s.pending := rfl
@[simp] theorem State.setCache_regs (s : State) (c : Cache) : (s.setCache c).regs = s.regs := rfl
@[simp] theorem State.setCache_caps (s : State) (c : Cache) : (s.setCache c).caps = s.caps := rfl
@[simp] theorem State.setCache_tqWait (s : State) (c : Cache) : (s.setCache c).tqWait = s.tqWait := rfl
@[simp] theorem State.setCache_fuses (s : State) (c : Cache) : (s.setCache c).fuses = s.fuses := rfl
@[simp] theorem State.setCache_pins (s : State) (c : Cache) : (s.setCache c).pins = s.pins := rfl
@[simp] theorem State.setCache_boot (s : State) (c : Cache) : (s.setCache c).boot = s.boot := rfl
@[simp] theorem State.setCache_flash (s : State) (c : Cache) : (s.setCache c).flash = s.flash := rfl
@[simp] theorem State.setCache_pwr (s : State) (c : Cache) : (s.setCache c).pwr = s.pwr := rfl
@[simp] theorem State.setCache_seqs (s : State) (c : Cache) : (s.setCache c).seqs = s.seqs := rfl
@[simp] theorem State.setCache_mend (s : State) (c : Cache) : (s.setCache c).mend = s.mend := rfl
@[simp] theorem State.setCache_queues (s : State) (c : Cache) : (s.setCache c).queues = s.queues := rfl
@[simp] theorem State.setCache_crn (s : State) (c : Cache) : (s.setCache c).crn = s.crn := rfl
@[simp] theorem State.setCache_lanes (s : State) (c : Cache) : (s.setCache c).lanes = s.lanes := rfl
@[simp] theorem State.setCache_shared (s : State) (c : Cache) : (s.setCache c).shared = s.shared := rfl
@[simp] theorem State.setCache_whl (s : State) (c : Cache) : (s.setCache c).whl = s.whl := rfl
@[simp] theorem State.setCache_kln (s : State) (c : Cache) : (s.setCache c).kln = s.kln := rfl
@[simp] theorem State.setCache_lko (s : State) (c : Cache) : (s.setCache c).lko = s.lko := rfl
@[simp] theorem State.setCache_media (s : State) (c : Cache) : (s.setCache c).media = s.media := rfl
@[simp] theorem State.setCache_scheds (s : State) (c : Cache) : (s.setCache c).scheds = s.scheds := rfl
@[simp] theorem State.setCache_stale (s : State) (c : Cache) : (s.setCache c).stale = s.stale := rfl
@[simp] theorem State.setCache_fills (s : State) (c : Cache) : (s.setCache c).fills = s.fills := rfl
@[simp] theorem State.setCache_mover (s : State) (c : Cache) : (s.setCache c).mover = s.mover := rfl
@[simp] theorem State.setCache_buf (s : State) (c : Cache) : (s.setCache c).buf = s.buf := rfl
@[simp] theorem State.setCache_cache (s : State) (c : Cache) : (s.setCache c).cache = c := rfl
@[simp] theorem State.setCache_hif (s : State) (c : Cache) : (s.setCache c).hif = s.hif := rfl
@[simp] theorem State.setCache_sbd (s : State) (c : Cache) : (s.setCache c).sbd = s.sbd := rfl
@[simp] theorem State.setCache_free (s : State) (c : Cache) : (s.setCache c).free = s.free := rfl
@[simp] theorem State.setCache_out (s : State) (c : Cache) : (s.setCache c).out = s.out := rfl

/-! ## setSbd -/

@[simp] theorem State.setSbd_pending (s : State) (x : Sideband) : (s.setSbd x).pending = s.pending := rfl
@[simp] theorem State.setSbd_regs (s : State) (x : Sideband) : (s.setSbd x).regs = s.regs := rfl
@[simp] theorem State.setSbd_caps (s : State) (x : Sideband) : (s.setSbd x).caps = s.caps := rfl
@[simp] theorem State.setSbd_tqWait (s : State) (x : Sideband) : (s.setSbd x).tqWait = s.tqWait := rfl
@[simp] theorem State.setSbd_fuses (s : State) (x : Sideband) : (s.setSbd x).fuses = s.fuses := rfl
@[simp] theorem State.setSbd_pins (s : State) (x : Sideband) : (s.setSbd x).pins = s.pins := rfl
@[simp] theorem State.setSbd_boot (s : State) (x : Sideband) : (s.setSbd x).boot = s.boot := rfl
@[simp] theorem State.setSbd_flash (s : State) (x : Sideband) : (s.setSbd x).flash = s.flash := rfl
@[simp] theorem State.setSbd_pwr (s : State) (x : Sideband) : (s.setSbd x).pwr = s.pwr := rfl
@[simp] theorem State.setSbd_seqs (s : State) (x : Sideband) : (s.setSbd x).seqs = s.seqs := rfl
@[simp] theorem State.setSbd_mend (s : State) (x : Sideband) : (s.setSbd x).mend = s.mend := rfl
@[simp] theorem State.setSbd_queues (s : State) (x : Sideband) : (s.setSbd x).queues = s.queues := rfl
@[simp] theorem State.setSbd_crn (s : State) (x : Sideband) : (s.setSbd x).crn = s.crn := rfl
@[simp] theorem State.setSbd_lanes (s : State) (x : Sideband) : (s.setSbd x).lanes = s.lanes := rfl
@[simp] theorem State.setSbd_shared (s : State) (x : Sideband) : (s.setSbd x).shared = s.shared := rfl
@[simp] theorem State.setSbd_whl (s : State) (x : Sideband) : (s.setSbd x).whl = s.whl := rfl
@[simp] theorem State.setSbd_kln (s : State) (x : Sideband) : (s.setSbd x).kln = s.kln := rfl
@[simp] theorem State.setSbd_lko (s : State) (x : Sideband) : (s.setSbd x).lko = s.lko := rfl
@[simp] theorem State.setSbd_media (s : State) (x : Sideband) : (s.setSbd x).media = s.media := rfl
@[simp] theorem State.setSbd_scheds (s : State) (x : Sideband) : (s.setSbd x).scheds = s.scheds := rfl
@[simp] theorem State.setSbd_stale (s : State) (x : Sideband) : (s.setSbd x).stale = s.stale := rfl
@[simp] theorem State.setSbd_fills (s : State) (x : Sideband) : (s.setSbd x).fills = s.fills := rfl
@[simp] theorem State.setSbd_mover (s : State) (x : Sideband) : (s.setSbd x).mover = s.mover := rfl
@[simp] theorem State.setSbd_buf (s : State) (x : Sideband) : (s.setSbd x).buf = s.buf := rfl
@[simp] theorem State.setSbd_cache (s : State) (x : Sideband) : (s.setSbd x).cache = s.cache := rfl
@[simp] theorem State.setSbd_hif (s : State) (x : Sideband) : (s.setSbd x).hif = s.hif := rfl
@[simp] theorem State.setSbd_sbd (s : State) (x : Sideband) : (s.setSbd x).sbd = x := rfl
@[simp] theorem State.setSbd_free (s : State) (x : Sideband) : (s.setSbd x).free = s.free := rfl
@[simp] theorem State.setSbd_out (s : State) (x : Sideband) : (s.setSbd x).out = s.out := rfl

/-! ## setSched -/

@[simp] theorem State.setSched_pending (s : State) (n : Lane) (l : List MediaOp) : (s.setSched n l).pending = s.pending := rfl
@[simp] theorem State.setSched_regs (s : State) (n : Lane) (l : List MediaOp) : (s.setSched n l).regs = (s.put (Reg.CACHE_SCHED_PENDING n) (min 4096 l.length)).regs := rfl
@[simp] theorem State.setSched_caps (s : State) (n : Lane) (l : List MediaOp) : (s.setSched n l).caps = s.caps := rfl
@[simp] theorem State.setSched_tqWait (s : State) (n : Lane) (l : List MediaOp) : (s.setSched n l).tqWait = s.tqWait := rfl
@[simp] theorem State.setSched_fuses (s : State) (n : Lane) (l : List MediaOp) : (s.setSched n l).fuses = s.fuses := rfl
@[simp] theorem State.setSched_pins (s : State) (n : Lane) (l : List MediaOp) : (s.setSched n l).pins = s.pins := rfl
@[simp] theorem State.setSched_boot (s : State) (n : Lane) (l : List MediaOp) : (s.setSched n l).boot = s.boot := rfl
@[simp] theorem State.setSched_flash (s : State) (n : Lane) (l : List MediaOp) : (s.setSched n l).flash = s.flash := rfl
@[simp] theorem State.setSched_pwr (s : State) (n : Lane) (l : List MediaOp) : (s.setSched n l).pwr = s.pwr := rfl
@[simp] theorem State.setSched_seqs (s : State) (n : Lane) (l : List MediaOp) : (s.setSched n l).seqs = s.seqs := rfl
@[simp] theorem State.setSched_mend (s : State) (n : Lane) (l : List MediaOp) : (s.setSched n l).mend = s.mend := rfl
@[simp] theorem State.setSched_queues (s : State) (n : Lane) (l : List MediaOp) : (s.setSched n l).queues = s.queues := rfl
@[simp] theorem State.setSched_crn (s : State) (n : Lane) (l : List MediaOp) : (s.setSched n l).crn = s.crn := rfl
@[simp] theorem State.setSched_lanes (s : State) (n : Lane) (l : List MediaOp) : (s.setSched n l).lanes = s.lanes := rfl
@[simp] theorem State.setSched_shared (s : State) (n : Lane) (l : List MediaOp) : (s.setSched n l).shared = s.shared := rfl
@[simp] theorem State.setSched_whl (s : State) (n : Lane) (l : List MediaOp) : (s.setSched n l).whl = s.whl := rfl
@[simp] theorem State.setSched_kln (s : State) (n : Lane) (l : List MediaOp) : (s.setSched n l).kln = s.kln := rfl
@[simp] theorem State.setSched_lko (s : State) (n : Lane) (l : List MediaOp) : (s.setSched n l).lko = s.lko := rfl
@[simp] theorem State.setSched_media (s : State) (n : Lane) (l : List MediaOp) : (s.setSched n l).media = s.media := rfl
@[simp] theorem State.setSched_scheds (s : State) (n : Lane) (l : List MediaOp) : (s.setSched n l).scheds = s.scheds.set n l := rfl
@[simp] theorem State.setSched_stale (s : State) (n : Lane) (l : List MediaOp) : (s.setSched n l).stale = s.stale := rfl
@[simp] theorem State.setSched_fills (s : State) (n : Lane) (l : List MediaOp) : (s.setSched n l).fills = s.fills := rfl
@[simp] theorem State.setSched_mover (s : State) (n : Lane) (l : List MediaOp) : (s.setSched n l).mover = s.mover := rfl
@[simp] theorem State.setSched_buf (s : State) (n : Lane) (l : List MediaOp) : (s.setSched n l).buf = s.buf := rfl
@[simp] theorem State.setSched_cache (s : State) (n : Lane) (l : List MediaOp) : (s.setSched n l).cache = s.cache := rfl
@[simp] theorem State.setSched_hif (s : State) (n : Lane) (l : List MediaOp) : (s.setSched n l).hif = s.hif := rfl
@[simp] theorem State.setSched_sbd (s : State) (n : Lane) (l : List MediaOp) : (s.setSched n l).sbd = s.sbd := rfl
@[simp] theorem State.setSched_free (s : State) (n : Lane) (l : List MediaOp) : (s.setSched n l).free = s.free := rfl
@[simp] theorem State.setSched_out (s : State) (n : Lane) (l : List MediaOp) : (s.setSched n l).out = s.out := rfl

/-! ## offer -/

@[simp] theorem State.offer_pending (s : State) (c : Instr) : (s.offer c).pending = c :: s.pending := rfl
@[simp] theorem State.offer_regs (s : State) (c : Instr) : (s.offer c).regs = s.regs := rfl
@[simp] theorem State.offer_caps (s : State) (c : Instr) : (s.offer c).caps = s.caps := rfl
@[simp] theorem State.offer_tqWait (s : State) (c : Instr) : (s.offer c).tqWait = s.tqWait := rfl
@[simp] theorem State.offer_fuses (s : State) (c : Instr) : (s.offer c).fuses = s.fuses := rfl
@[simp] theorem State.offer_pins (s : State) (c : Instr) : (s.offer c).pins = s.pins := rfl
@[simp] theorem State.offer_boot (s : State) (c : Instr) : (s.offer c).boot = s.boot := rfl
@[simp] theorem State.offer_flash (s : State) (c : Instr) : (s.offer c).flash = s.flash := rfl
@[simp] theorem State.offer_pwr (s : State) (c : Instr) : (s.offer c).pwr = s.pwr := rfl
@[simp] theorem State.offer_seqs (s : State) (c : Instr) : (s.offer c).seqs = s.seqs := rfl
@[simp] theorem State.offer_mend (s : State) (c : Instr) : (s.offer c).mend = s.mend := rfl
@[simp] theorem State.offer_queues (s : State) (c : Instr) : (s.offer c).queues = s.queues := rfl
@[simp] theorem State.offer_crn (s : State) (c : Instr) : (s.offer c).crn = s.crn := rfl
@[simp] theorem State.offer_lanes (s : State) (c : Instr) : (s.offer c).lanes = s.lanes := rfl
@[simp] theorem State.offer_shared (s : State) (c : Instr) : (s.offer c).shared = s.shared := rfl
@[simp] theorem State.offer_whl (s : State) (c : Instr) : (s.offer c).whl = s.whl := rfl
@[simp] theorem State.offer_kln (s : State) (c : Instr) : (s.offer c).kln = s.kln := rfl
@[simp] theorem State.offer_lko (s : State) (c : Instr) : (s.offer c).lko = s.lko := rfl
@[simp] theorem State.offer_media (s : State) (c : Instr) : (s.offer c).media = s.media := rfl
@[simp] theorem State.offer_scheds (s : State) (c : Instr) : (s.offer c).scheds = s.scheds := rfl
@[simp] theorem State.offer_stale (s : State) (c : Instr) : (s.offer c).stale = s.stale := rfl
@[simp] theorem State.offer_fills (s : State) (c : Instr) : (s.offer c).fills = s.fills := rfl
@[simp] theorem State.offer_mover (s : State) (c : Instr) : (s.offer c).mover = s.mover := rfl
@[simp] theorem State.offer_buf (s : State) (c : Instr) : (s.offer c).buf = s.buf := rfl
@[simp] theorem State.offer_cache (s : State) (c : Instr) : (s.offer c).cache = s.cache := rfl
@[simp] theorem State.offer_hif (s : State) (c : Instr) : (s.offer c).hif = s.hif := rfl
@[simp] theorem State.offer_sbd (s : State) (c : Instr) : (s.offer c).sbd = s.sbd := rfl
@[simp] theorem State.offer_free (s : State) (c : Instr) : (s.offer c).free = s.free := rfl
@[simp] theorem State.offer_out (s : State) (c : Instr) : (s.offer c).out = s.out := rfl

end Sys2Proof.Machine
end

