-- ==== Sys2Proof/Laws/Events.lean ====
section
/-! SUPPORT. What raising an event can do: which registers and which parts of the state it leaves unchanged. -/

namespace Sys2Proof.Machine

/-- Registers that the delivery of an event may write: EVT's status and queues, the block mover's channels, Cairn's counts of missed
events, and the bit that a trigger wakes the block mover by. -/
def eventReg (off : Nat) : Bool :=
  (decide (0x12000 ≤ off) && decide (off < 0x13100)) || (decide (0x50000 ≤ off) && decide (off < 0x51000)) ||
    (decide (0xB0040 ≤ off) && decide (off < 0xB0080)) || off == 0xD0014

/-- What a delivery does to a sequencer: nothing, or, where it was stalled in WAIT, it hands it an item and the sequencer runs (R202). -/
def SeqServed (x y : Seq) : Prop :=
  y = x ∨ (x.run = .stalled ∧ x.item = none ∧ ∃ i, y = { x with run := .running, item := some i })

theorem SeqServed.trans {x y z : Seq} (h : SeqServed x y) (k : SeqServed y z) : SeqServed x z := by
  rcases h with rfl | ⟨hr, hi, i, rfl⟩
  · exact k
  · rcases k with rfl | ⟨hk, -, -⟩
    · exact .inr ⟨hr, hi, i, rfl⟩
    · cases hk

/-- What the delivery of events leaves as it was, and what it may do to a sequencer. -/
structure EventFrame (s t : State) : Prop where
  pending : t.pending = s.pending
  fuses : t.fuses = s.fuses
  boot : t.boot = s.boot
  flash : t.flash = s.flash
  pwr : t.pwr = s.pwr
  seq : ∀ q, SeqServed (s.seq q) (t.seq q)
  mend : t.mend = s.mend
  lanes : t.lanes = s.lanes
  shared : t.shared = s.shared
  whl : t.whl = s.whl
  kln : t.kln = s.kln
  lko : t.lko = s.lko
  media : t.media = s.media
  scheds : t.scheds = s.scheds
  stale : t.stale = s.stale
  rebuilds : t.rebuilds = s.rebuilds
  tap : t.tap = s.tap
  fills : t.fills = s.fills
  sram : t.mover.sram = s.mover.sram
  buf : t.buf = s.buf
  cache : t.cache = s.cache
  free : t.free = s.free
  pins : t.pins = { s.pins with alertLow := t.pins.alertLow }
  sbd : t.sbd = { s.sbd with alertPend := t.sbd.alertPend, tqRead := t.sbd.tqRead }
  reg : ∀ off, eventReg off = false → t.reg off = s.reg off
  regs : Sparse.wf resetOf s.regs = true → Sparse.wf resetOf t.regs = true

theorem EventFrame.refl (s : State) : EventFrame s s := by
  constructor <;> first | rfl | exact fun _ _ => rfl | exact fun _ => .inl rfl | exact id

theorem EventFrame.trans {s t u : State} (h : EventFrame s t) (k : EventFrame t u) : EventFrame s u where
  pending := k.pending.trans h.pending
  fuses := k.fuses.trans h.fuses
  boot := k.boot.trans h.boot
  flash := k.flash.trans h.flash
  pwr := k.pwr.trans h.pwr
  seq := fun q => (h.seq q).trans (k.seq q)
  mend := k.mend.trans h.mend
  lanes := k.lanes.trans h.lanes
  shared := k.shared.trans h.shared
  whl := k.whl.trans h.whl
  kln := k.kln.trans h.kln
  lko := k.lko.trans h.lko
  media := k.media.trans h.media
  scheds := k.scheds.trans h.scheds
  stale := k.stale.trans h.stale
  rebuilds := k.rebuilds.trans h.rebuilds
  tap := k.tap.trans h.tap
  fills := k.fills.trans h.fills
  sram := k.sram.trans h.sram
  buf := k.buf.trans h.buf
  cache := k.cache.trans h.cache
  free := k.free.trans h.free
  pins := by rw [k.pins, h.pins]
  sbd := by rw [k.sbd, h.sbd]
  reg := fun off ho => (k.reg off ho).trans (h.reg off ho)
  regs := fun hw => k.regs (h.regs hw)

/-- A register write among the event registers. -/
theorem EventFrame.setReg (s : State) (off : Nat) (v : Word) (h : eventReg off = true) : EventFrame s (s.setReg off v) := by
  constructor <;> first | rfl | exact fun _ => .inl rfl | skip
  · intro o ho
    exact s.reg_setReg_ne v fun e => by subst e; simp [h] at ho
  · exact fun hw => Sparse.wf_set _ _ _ _ hw

theorem EventFrame.put (s : State) (f : Fld) (v : Nat) (h : eventReg f.off = true) : EventFrame s (s.put f v) :=
  .setReg s _ _ h

theorem EventFrame.bump (s : State) (f : Fld) (k : Nat) (h : eventReg f.off = true) : EventFrame s (s.bump f k) :=
  .put s _ _ h

/-- An update of the parts that events may change. -/
theorem EventFrame.upd (s : State) (queues : Vector Queue 8) (caps : Sparse Word) (w : List Requester) (crn : Cairn) (hif : Hif)
    (out : List Output) (chans : Vector MoverChan 16) (low pend : Bool) (read : Option (List Byte × Nat)) :
    EventFrame s { s with
      queues := queues, caps := caps, tqWait := w, crn := crn, hif := hif, out := out
      mover := ⟨chans, s.mover.sram⟩, pins := { s.pins with alertLow := low }
      sbd := { s.sbd with alertPend := pend, tqRead := read } } := by
  constructor <;> first | rfl | exact fun _ _ => rfl | exact fun _ => .inl rfl | exact id

theorem EventFrame.setMover (s : State) (c : ChanIx) (x : MoverChan) : EventFrame s (s.setMover c x) :=
  .upd s s.queues s.caps s.tqWait s.crn s.hif s.out (s.mover.chans.set c x) s.pins.alertLow s.sbd.alertPend s.sbd.tqRead
theorem EventFrame.setCrn (s : State) (c : Cairn) : EventFrame s { s with crn := c } :=
  .upd s s.queues s.caps s.tqWait c s.hif s.out s.mover.chans s.pins.alertLow s.sbd.alertPend s.sbd.tqRead
theorem EventFrame.setHif (s : State) (h : Hif) : EventFrame s { s with hif := h } :=
  .upd s s.queues s.caps s.tqWait s.crn h s.out s.mover.chans s.pins.alertLow s.sbd.alertPend s.sbd.tqRead
theorem EventFrame.emit (s : State) (o : Output) : EventFrame s (s.emit o) :=
  .upd s s.queues s.caps s.tqWait s.crn s.hif (o :: s.out) s.mover.chans s.pins.alertLow s.sbd.alertPend s.sbd.tqRead
theorem EventFrame.setQueue (s : State) (q : QIx) (x : Queue) : EventFrame s (s.setQueue q x) :=
  .upd s (s.queues.set q x) s.caps s.tqWait s.crn s.hif s.out s.mover.chans s.pins.alertLow s.sbd.alertPend s.sbd.tqRead
theorem EventFrame.setWait (s : State) (w : List Requester) : EventFrame s { s with tqWait := w } :=
  .upd s s.queues s.caps w s.crn s.hif s.out s.mover.chans s.pins.alertLow s.sbd.alertPend s.sbd.tqRead
theorem EventFrame.capture (s : State) (m off v : Nat) : EventFrame s (s.capture m off v) :=
  .upd s s.queues (s.capture m off v).caps s.tqWait s.crn s.hif s.out s.mover.chans s.pins.alertLow s.sbd.alertPend s.sbd.tqRead
theorem EventFrame.setRead (s : State) (read : Option (List Byte × Nat)) :
    EventFrame s { s with sbd := { s.sbd with tqRead := read } } :=
  .upd s s.queues s.caps s.tqWait s.crn s.hif s.out s.mover.chans s.pins.alertLow s.sbd.alertPend read
theorem EventFrame.setAlert (s : State) (low pend : Bool) :
    EventFrame s { s with sbd := { s.sbd with alertPend := pend }, pins := { s.pins with alertLow := low } } :=
  .upd s s.queues s.caps s.tqWait s.crn s.hif s.out s.mover.chans low pend s.sbd.tqRead

/-- A stalled sequencer that is handed an item. -/
theorem EventFrame.serve (s : State) (q : SeqIx) (i : Item) (hr : (s.seq q).run = .stalled) (hi : (s.seq q).item = none) :
    EventFrame s (s.setSeq q { s.seq q with run := .running, item := some i }) := by
  constructor <;> first | rfl | exact fun _ _ => rfl | exact id | skip
  intro r
  by_cases h : r = q
  · subst h; rw [State.seq_setSeq_same]; exact .inr ⟨hr, hi, i, rfl⟩
  · rw [State.seq_setSeq_ne _ _ h]; exact .inl rfl

theorem EventFrame.foldl {α : Type} (f : State → α → State) (h : ∀ s a, EventFrame s (f s a)) (l : List α) (s : State) :
    EventFrame s (l.foldl f s) := by
  induction l generalizing s with
  | nil => exact .refl s
  | cons a t ih => exact (h s a).trans (ih _)

theorem EventFrame.foldl' {α : Type} (f : State → α → State) (l : List α) (h : ∀ s, ∀ a ∈ l, EventFrame s (f s a)) (s : State) :
    EventFrame s (l.foldl f s) := by
  induction l generalizing s with
  | nil => exact .refl s
  | cons a t ih => exact (h s a List.mem_cons_self).trans (ih (fun s b hb => h s b (List.mem_cons_of_mem _ hb)) _)

/-! ## The parts of a delivery -/

theorem eventReg_bmv (c : ChanIx) (k : Nat) (h : k < 0x100) : eventReg (0x50000 + 0x100 * c.val + k) = true := by
  have := c.isLt
  simp only [eventReg, Bool.or_eq_true, Bool.and_eq_true, decide_eq_true_eq]; omega

theorem takeOver_frame (s : State) (c : ChanIx) : EventFrame s (s.takeOver c) := by
  unfold State.takeOver
  have h1 : EventFrame s ((List.range 8).foldl (fun s k =>
      s.setReg (0x50000 + 0x100 * c.val + 0x80 + 4 * k) (s.reg (0x50000 + 0x100 * c.val + 0x40 + 4 * k))) s) := by
    refine EventFrame.foldl' _ _ (fun t k hk => .setReg _ _ _ ?_) s
    have := List.mem_range.mp hk
    rw [Nat.add_assoc]; exact eventReg_bmv c _ (by omega)
  refine h1.trans ?_
  refine (EventFrame.put _ ⟨_, 31, 31⟩ 0 (eventReg_bmv c 0x80 (by decide))).trans ?_
  refine (EventFrame.put _ _ 0 ?_).trans ((EventFrame.put _ _ 0 ?_).trans (.setMover _ _ _))
  · have := eventReg_bmv c 0x40 (by decide); simpa [Reg.BMV_SH_CTL_ARM, Nat.add_right_comm] using this
  · have := eventReg_bmv c 0x4 (by decide); simpa [Reg.BMV_CH_STATUS_TRIG_PEND, Nat.add_right_comm] using this

theorem moverNext_frame (s : State) (c : ChanIx) : EventFrame s (s.moverNext c) := by
  unfold State.moverNext
  repeat' split
  · exact .refl _
  · exact takeOver_frame _ _
  · exact .refl _
  · exact .setMover _ _ _
  · exact .refl _

theorem eventReg_gate (b : GateBlock) : eventReg (gateField b).off = true := by cases b <;> rfl

theorem wake_frame (s : State) (b : GateBlock) : EventFrame s (s.wake b) := by
  unfold State.wake
  split
  · exact .put _ _ _ (eventReg_gate b)
  · exact .refl _

theorem trigger_frame (s : State) (c : ChanIx) : EventFrame s (s.trigger c) := by
  unfold State.trigger
  split
  · exact .refl _
  · refine (wake_frame _ _).trans ((EventFrame.put _ _ _ ?_).trans (moverNext_frame _ _))
    have := eventReg_bmv c 0x4 (by decide); simpa [Reg.BMV_CH_STATUS_TRIG_PEND, Nat.add_right_comm] using this

theorem stageRecord_frame (s : State) (r : Record) : EventFrame s (s.stageRecord r) := .setCrn _ _

theorem fullCheck_frame (s : State) : EventFrame s s.fullCheck.1 := by
  unfold State.fullCheck
  split
  · exact (stageRecord_frame _ _).trans (.setCrn _ _)
  · exact .refl _

theorem eventClass_lt (id : Nat) : eventClass id < 15 := by
  unfold eventClass
  repeat' split
  all_goals omega

theorem missed_frame (s : State) (id : Nat) : EventFrame s (s.bump (Reg.CRN_MISSED_COUNT (eventClass id)) 1) := by
  refine .bump _ _ _ ?_
  have := eventClass_lt id
  show eventReg (0xB0040 + 4 * eventClass id) = true
  simp only [eventReg, Bool.or_eq_true, Bool.and_eq_true, decide_eq_true_eq]; omega

theorem stageEvent_frame (s : State) (id p : Nat) : EventFrame s (s.stageEvent id p).1 := by
  unfold State.stageEvent
  split
  · exact (stageRecord_frame _ _).trans (fullCheck_frame _)
  · exact missed_frame _ _

theorem setHif_frame (s : State) (h : Hif) : EventFrame s (s.setHif h) := .setHif s h

theorem asyncEvent_frame (s : State) (p : Port) (ty info : Nat) : EventFrame s (s.asyncEvent p ty info) := by
  unfold State.asyncEvent State.endAer
  simp only
  repeat' split
  all_goals first | exact .refl _ | exact setHif_frame _ _

theorem asyncAll_frame (s : State) (ty info : Nat) : EventFrame s (s.asyncAll ty info) :=
  (asyncEvent_frame s 0 ty info).trans (asyncEvent_frame _ 1 ty info)

theorem msixSend_frame (s : State) (p : Port) (v : Nat) : EventFrame s (s.msixSend p v) := by
  unfold State.msixSend
  simp only
  repeat' split
  · exact .refl _
  · exact .refl _
  · exact .setHif _ _
  · exact .setHif _ _
  · exact .emit _ _

theorem presentAlert_frame (s : State) : EventFrame s s.presentAlert := by
  unfold State.presentAlert
  simp only
  repeat' split
  · exact .refl _
  · exact (EventFrame.setAlert s true true).trans (.emit _ _)
  · exact .setAlert s true true

theorem raiseStatus_frame (s : State) (id word : Nat) (h : id < 2048) : EventFrame s (s.raiseStatus id word) := by
  unfold State.raiseStatus
  simp only
  have h1 : EventFrame s (s.put ⟨0x12000 + 4 * (id / 32), id % 32, id % 32⟩ 1) := by
    refine .put _ _ _ ?_
    simp only [eventReg, Bool.or_eq_true, Bool.and_eq_true, decide_eq_true_eq]; omega
  split
  · exact h1
  · refine h1.trans ?_
    split <;> split
    · exact (msixSend_frame _ _ _).trans (presentAlert_frame _)
    · exact presentAlert_frame _
    · exact msixSend_frame _ _ _
    · exact .refl _

theorem eventReg_queue (q : QIx) (k : Nat) (h : k < 0x20) : eventReg (0x13000 + 0x20 * q.val + k) = true := by
  have := q.isLt
  simp only [eventReg, Bool.or_eq_true, Bool.and_eq_true, decide_eq_true_eq]; omega

theorem setQueue_frame (s : State) (q : QIx) (x : Queue) : EventFrame s (s.setQueue q x) := .setQueue s q x

theorem push_frame (s : State) (q : QIx) (l : List Item) : EventFrame s (s.push q l).1 := by
  unfold State.push
  simp only
  repeat' split
  · exact (setQueue_frame _ _ _).trans (.put _ _ _ (eventReg_queue q 0 (by decide)))
  · exact setQueue_frame _ _ _
  all_goals
    have hd : eventReg (Reg.EVT_Q_DROPS_COUNT q).off = true := by
      have := eventReg_queue q 8 (by decide); simpa [Reg.EVT_Q_DROPS_COUNT, Nat.add_right_comm] using this
    exact (EventFrame.bump s _ l.length hd).trans (.put _ _ _ (eventReg_queue q 0 (by decide)))

theorem rearm_frame (s : State) (q : QIx) : EventFrame s (s.rearm q) := by
  unfold State.rearm
  split
  · exact setQueue_frame _ _ _
  · exact .refl _

theorem popQueue_frame {s t : State} {q : QIx} {i : Item} (h : s.popQueue q = some (i, t)) : EventFrame s t := by
  unfold State.popQueue at h
  rw [Option.map_eq_some_iff] at h
  obtain ⟨⟨j, y⟩, -, h⟩ := h
  cases h
  exact (setQueue_frame _ _ _).trans (rearm_frame _ _)

theorem answerTelemetry_frame (s : State) (r : Requester) (w : Nat) : EventFrame s (s.answerTelemetry r w) := by
  unfold State.answerTelemetry
  simp only
  split
  · exact (EventFrame.capture _ _ _ _).trans ((EventFrame.setRead _ _).trans (.emit _ _))
  · exact (EventFrame.capture _ _ _ _).trans (.emit _ _)

theorem serveWaiting_frame (l : List Requester) (s : State) : EventFrame s (serveWaiting l s) := by
  induction l generalizing s with
  | nil => exact .setWait s []
  | cons r t ih =>
    rw [serveWaiting]
    split
    · exact .setWait s _
    · rename_i h
      exact (popQueue_frame h).trans ((answerTelemetry_frame _ _ _).trans (ih _))

theorem popQueue_seq {s t : State} {q : QIx} {i : Item} (h : s.popQueue q = some (i, t)) (r : SeqIx) : t.seq r = s.seq r := by
  unfold State.popQueue at h
  rw [Option.map_eq_some_iff] at h
  obtain ⟨⟨j, y⟩, -, h⟩ := h
  cases h
  unfold State.rearm
  split <;> rfl

theorem serveWait_frame (s : State) (q : SeqIx) : EventFrame s (s.serveWait q) := by
  unfold State.serveWait
  simp only
  split
  · rename_i hc
    split
    · exact .refl _
    · rename_i h
      have hq := popQueue_seq h q
      exact (popQueue_frame h).trans (.serve _ q _ (by rw [hq]; exact hc.1) (by rw [hq]; simpa using hc.2.1))
  · exact .refl _

theorem serveQueue_frame (s : State) (q : QIx) : EventFrame s (s.serveQueue q) := by
  unfold State.serveQueue
  split
  · exact serveWait_frame _ _
  · exact serveWaiting_frame _ _

/-! ## Events -/

/-- A delivery leaves everything that `EventFrame` names. -/
theorem deliver_frame (s : State) (id : Nat) (h : id < 2048) (ps : List Nat) : EventFrame s (s.deliver id ps).1 := by
  unfold State.deliver
  split
  · exact .refl _
  · simp only
    have h0 : ∀ b : Prop, [Decidable b] → EventFrame s (if b then s.stageEvent id (ps.headD 0) else (s, false)).1 := by
      intro b _
      split
      · exact stageEvent_frame _ _ _
      · exact .refl _
    have h1 : ∀ (t : State) (b : Prop) [Decidable b], EventFrame t (if b then t.asyncAll 7 2 else t) := by
      intro t b _
      split
      · exact asyncAll_frame _ _ _
      · exact .refl _
    have h2 : ∀ (t : State) (w : Nat) (b : Prop) [Decidable b], EventFrame t (if b then t.raiseStatus id w else t) := by
      intro t w b _
      split
      · exact raiseStatus_frame _ _ _ h
      · exact .refl _
    have h3 : ∀ (t : State) (c : ChanIx) (b : Prop) [Decidable b], EventFrame t (if b then t.trigger c else t) := by
      intro t c b _
      split
      · exact trigger_frame _ _
      · exact .refl _
    split
    · exact ((((h0 _).trans (h1 _ _)).trans (h2 _ _ _)).trans (h3 _ _ _)).trans
        ((push_frame _ _ _).trans (serveQueue_frame _ _))
    · exact (((h0 _).trans (h1 _ _)).trans (h2 _ _ _)).trans (h3 _ _ _)

/-- The queue events that a delivery brings have IDs below 2,048. -/
theorem deliver_ids (s : State) (id : Nat) (ps : List Nat) : ∀ e ∈ (s.deliver id ps).2, e.1 < 2048 := by
  have key : ∀ (t : State) (q : QIx) (l : List Item), ∀ e ∈ (t.push q l).2, e.1 < 2048 := by
    intro t q l e he
    have := q.isLt
    unfold State.push at he
    simp only at he
    repeat' split at he
    all_goals simp at he
    all_goals (try subst he)
    all_goals (dsimp only; omega)
  have own : ∀ (b : Prop) [Decidable b], ∀ e ∈ (if b then [((0x7F2 : Nat), (0 : Nat))] else []), e.1 < 2048 := by
    intro b _ e he
    split at he
    · rw [List.mem_singleton.mp he]; decide
    · cases he
  unfold State.deliver
  split
  · intro e he; cases he
  · simp only
    split
    · intro e he
      rcases List.mem_append.mp he with he | he
      · exact own _ e he
      · exact key _ _ _ e he
    · exact own _

theorem raiseList_frame (fuel : Nat) (s : State) (l : List (Nat × List Nat)) (h : ∀ e ∈ l, e.1 < 2048) :
    EventFrame s (raiseList fuel s l) := by
  induction fuel generalizing s l with
  | zero => cases l <;> exact .refl s
  | succ fuel ih =>
    cases l with
    | nil => exact .refl s
    | cons a t =>
      obtain ⟨id, ps⟩ := a
      rw [raiseList]
      refine (deliver_frame s id (h _ List.mem_cons_self) ps).trans (ih _ _ ?_)
      intro e he
      rcases List.mem_append.mp he with he | he
      · obtain ⟨x, hx, rfl⟩ := List.mem_map.mp he
        exact deliver_ids s id ps x hx
      · exact h e (List.mem_cons_of_mem _ he)

/-- Raising an event leaves everything that `EventFrame` names. -/
theorem raise_frame (s : State) (id p : Nat) (h : id < 2048 := by omega) : EventFrame s (s.raise id p) :=
  raiseList_frame _ _ _ (by simpa using h)

theorem raisePacket_frame (s : State) (id : Nat) (ps : List Nat) (h : id < 2048 := by omega) :
    EventFrame s (s.raisePacket id ps) := raiseList_frame _ _ _ (by simpa using h)

theorem raiseLane_frame (s : State) (n : Lane) (o p : Nat) (h : o < 0x100 := by omega) : EventFrame s (s.raiseLane n o p) :=
  raise_frame _ _ _ (by have := n.isLt; omega)

theorem fullNow_frame (s : State) : EventFrame s s.fullNow := by
  unfold State.fullNow
  simp only
  split
  · exact (fullCheck_frame _).trans ((asyncAll_frame _ _ _).trans (raise_frame _ _ _))
  · exact fullCheck_frame _

theorem ownRecord_frame (s : State) (id p : Nat) (x : List Byte) (h : id < 2048 := by omega) :
    EventFrame s (s.ownRecord id p x) := by
  unfold State.ownRecord
  refine EventFrame.trans ?_ (raise_frame _ _ _ h)
  split
  · exact (stageRecord_frame _ _).trans (fullNow_frame _)
  · exact missed_frame _ _

/-! ## What follows for the parts a statement reads -/

theorem EventFrame.get {s t : State} (h : EventFrame s t) (f : Fld) (hf : eventReg f.off = false) : t.get f = s.get f := by
  rw [State.get, h.reg _ hf, State.get]

theorem EventFrame.lane {s t : State} (h : EventFrame s t) (n : Lane) : t.lane n = s.lane n := by
  rw [State.lane, h.lanes, State.lane]

/-- A sequencer that was not stalled stays as it was. -/
theorem EventFrame.seq_eq {s t : State} (h : EventFrame s t) (q : SeqIx) (hq : (s.seq q).run ≠ .stalled) : t.seq q = s.seq q :=
  (h.seq q).resolve_right fun k => hq k.1

end Sys2Proof.Machine
end

