-- ==== Sys2Proof/WellFormed.lean ====
section
/-! DEFINITION. Well-formed commands: every operand fits the field of the spec that carries it. Meanings are total all the same: what
an operand outside its field would do is no rule of the spec. -/

namespace Sys2Proof

/-- One byte. -/
def byteOk (v : Nat) : Bool := decide (v < 256)
/-- Sixteen bits. -/
def wordOk (v : Nat) : Bool := decide (v < 65536)
/-- A Q1.15 value (R9). -/
def fracOk (v : Int) : Bool := decide (-32768 ≤ v ∧ v ≤ 32767)
/-- One value per lane. -/
def lanesOk (l : List Nat) : Bool := decide (l.length = 4)
/-- One to eight payloads of 48 bits (R194, R195). -/
def payloadsOk (l : List Nat) : Bool := decide (1 ≤ l.length ∧ l.length ≤ 8) && l.all fun p => decide (p < 2 ^ 48)

/-- A submission queue entry: opcode, PSDT, identifier and NSID in their fields, six command dwords (R523). -/
def SqEntry.wf (e : SqEntry) : Bool :=
  byteOk e.opcode && decide (e.psdt < 4) && wordOk e.cid && decide (e.nsid < 2 ^ 32) && decide (e.cdw.length = 6) &&
    e.cdw.all fun d => decide (d < 2 ^ 32)

/-- A command FIS: FEATURES, LBA, COUNT and tag in their fields (R609, R610). -/
def AtaFis.wf (f : AtaFis) : Bool := wordOk f.features && decide (f.lba < 2 ^ 48) && wordOk f.count && decide (f.tag < 32)

/-- A preamp's answer carries 16 data bits and a CRC byte (R289). -/
def PspAnswer.wf (a : PspAnswer) : Bool := wordOk a.data && wordOk a.data2 && byteOk a.crc && byteOk a.crc2

/-- A cell's samples: one per reader, within the ADC's span (R218). -/
def cellOk (c : Cell) : Bool :=
  match c with
  | none => true
  | some l => decide (l.length = 3) && l.all fun v => decide (-128 ≤ v ∧ v ≤ 127)

/-- What a decode reports: iterations within R257, the measures of R259 to R262 within their fields, and a sector's DATA and
TAG where it delivers one (R267). -/
def DecodeResult.wf (r : DecodeResult) : Bool :=
  decide (r.needs ≤ 64 ∧ r.ran ≤ 64 ∧ r.rawErrors ≤ 36864 ∧ r.phase < 64) && wordOk r.mse && wordOk r.snr && fracOk r.freqPpm &&
    r.agc.all (fun x => decide (x.1 < 4096 ∧ -2048 ≤ x.2 ∧ x.2 ≤ 2047)) && r.asym.all (fun x => wordOk x.1 && fracOk x.2) &&
    r.cells.all cellOk && (r.needs == 0 || !r.crcOk || decide (r.data.length = 4096 ∧ r.tag.length = 8))

/-- What the demodulator read at a wedge: a servo cell of the interval, ten bits of WEDGE, 24 of TRACK and 18 of RRO, two signed 16-bit
correlations (R378, R380, R402). -/
def Demod.wf (d : Demod) : Bool :=
  d.sam.all (fun c => decide (c < 6400)) && decide (d.wedge < 2 ^ 10 ∧ d.track < 2 ^ 24 ∧ d.rro < 2 ^ 18) && fracOk d.n && fracOk d.q

/-- The accelerometer conversions of a sample are Q1.15 (R347). -/
def SampleEnv.wf (e : SampleEnv) : Bool := e.acc.all fun a => fracOk a.1 && fracOk a.2

/-- A SPIN_SAMPLE: I_PH, the 12-bit signed BEMF and the saturating ZC_AGE (R409). -/
def SpinFrame.wf (f : SpinFrame) : Bool := fracOk f.iPh && decide (-2048 ≤ f.bemf ∧ f.bemf ≤ 2047 ∧ f.zcAge ≤ 2047 ∧ f.zcAge ≤ f.time)

/-- A STATUS payload (R409). -/
def MotorStatus.wf (m : MotorStatus) : Bool := byteOk m.fault && byteOk m.addr && wordOk m.data && wordOk m.vm

/-- Whether every operand of a command fits its field. -/
def Instr.wf (i : Instr) : Bool :=
  match i with
  | .porNFall => true
  | .porNRise _ => true
  | .fuseStageEnd _ => true
  | .probeStageEnd _ => true
  | .slotVerificationPass _ => true
  | .lockStageEnd _ _ => true
  | .ddr5TrainingEnd _ _ _ => true
  | .marchCEnd _ => true
  | .bufferFillEnd => true
  | .bulkStageEnd _ => true
  | .stageTimeout => true
  | .servoLock _ _ profile => profile.wf
  | .systemAreaReadEnd _ _ => true
  | .crystalStopped => true
  | .crystalEdgeReturn => true
  | .addressMarkMissed _ => true
  | .readFifoOverflow _ _ _ => true
  | .writeFifoUnderrun _ _ _ => true
  | .gateIdleExpiry _ => true
  | .blockWake _ => true
  | .avsStepUp _ => true
  | .avsStepDown _ => true
  | .avsNoResponse => true
  | .next _ _ => true
  | .jump _ _ => true
  | .jt _ _ => true
  | .jf _ _ => true
  | .call _ _ => true
  | .ret _ _ => true
  | .loop _ _ => true
  | .wait _ _ => true
  | .retd _ _ => true
  | .retp _ _ => true
  | .seqRestartResume _ => true
  | .watchdogTrip _ => true
  | .privilegedSourceAssert _ _ => true
  | .eventRaise _ payloads => payloadsOk payloads
  | .tqPopLoRead _ => true
  | .tqPopTimeout _ => true
  | .qStatusWrite _ _ _ => true
  | .msixUnmask _ vector _ => decide (vector < 2048)
  | .sectorPreambleStart _ _ pba cut => decide (pba < 2 ^ 41) && cut.wf
  | .framingDecision _ _ _ backup => backup.cells.all cellOk
  | .sectorDecodeEnd _ r => r.wf
  | .marginRun _ _ _ => true
  | .marginAbort _ _ => true
  | .writeStepStart _ pbas => pbas.all fun p => decide (p < 2 ^ 41)
  | .pfaultNFall _ fault => fault.wf
  | .pspWriteFrame _ addr data a retry => decide (addr < 128) && wordOk data && a.wf && retry.wf
  | .pspReadFrame _ addr a => decide (addr < 128) && a.wf
  | .pspAccessGo _ _ _ a retry => a.wf && retry.wf
  | .parityRebuild _ head track _ => decide (head < 32) && decide (track < 2 ^ 22)
  | .staleBitmapSave => true
  | .ladderStart _ => true
  | .ladderAttempt _ _ _ => true
  | .ladderTimeLimit _ _ => true
  | .inPlaceVerify _ pba _ => decide (pba < 2 ^ 41)
  | .servoSample _ d e => d.wf && e.wf
  | .sveArm _ _ => true
  | .tfOffsetWrite _ _ _ => true
  | .injRun _ _ _ => true
  | .injStop _ _ => true
  | .capGo _ _ _ => true
  | .capAbort _ _ => true
  | .seek _ head target => decide (head < 8) && decide (target < 2 ^ 22)
  | .load _ head target => decide (head < 8) && decide (target < 2 ^ 22)
  | .park _ => true
  | .loadTimeout _ => true
  | .parkLowVelocity _ => true
  | .latchEnd _ => true
  | .retractDriveEnd _ => true
  | .syncFrame => true
  | .spinSample f => f.wf
  | .actSample _ iCoil vel => fracOk iCoil && fracOk vel
  | .statusFrame m => m.wf
  | .uplinkFrameDiscard _ slot => decide (slot < 8)
  | .uplinkNoClock => true
  | .motorLinkRecovered => true
  | .downlinkFrameSlot _ => true
  | .regAccessGo _ _ => true
  | .motorFaultNFall fault _ => byteOk fault
  | .motorFaultClear => true
  | .senseEnd => true
  | .alignEnd _ => true
  | .rampEnd => true
  | .commutationStep _ => true
  | .zeroCrossingMissing _ => true
  | .spinupTimeout => true
  | .spinPolicyDecision _ _ => true
  | .whlOverrideWrite _ _ => true
  | .orderlyStop => true
  | .spindleRest => true
  | .rectifyEnd => true
  | .caParityAlert => true
  | .pageCorrectionEnd page _ _ => decide (page < 2 ^ 23)
  | .chipBucketLeak => true
  | .transientBucketLeak => true
  | .shardModeSwitch => true
  | .deadReq _ _ => true
  | .retireReq _ _ => true
  | .pageRetire => true
  | .patrolScrubPass => true
  | .bufInjectArm _ _ => true
  | .bmvKick _ _ => true
  | .bmvAbort _ _ => true
  | .bmvEnableWrite _ _ _ => true
  | .bmvResume _ _ => true
  | .bmvRingLoWrite _ _ _ => true
  | .bmvDescriptorFetch _ _ => true
  | .bmvDescriptorComplete _ _ => true
  | .bmvShadowArm _ _ _ => true
  | .perstNAssert _ => true
  | .perstNRelease _ => true
  | .pcieLinkUp _ speed width => decide (1 ≤ speed ∧ speed ≤ 5) && decide (1 ≤ width ∧ width ≤ 2)
  | .hotReset _ => true
  | .linkDown _ => true
  | .functionLevelReset _ => true
  | .ccEnWrite _ _ _ _ _ => true
  | .ccShnWrite _ shn => decide (shn < 4)
  | .nssrWrite _ _ => true
  | .sqTailDoorbell _ _ _ => true
  | .cqHeadDoorbell _ _ _ => true
  | .commandFetch _ e => e.wf
  | .completionPost seq => decide (seq < 2 ^ 48)
  | .coalescingTimeout _ vector => decide (vector < 2048)
  | .deleteIoSubmissionQueue seq => decide (seq < 2 ^ 48)
  | .createIoSubmissionQueue seq => decide (seq < 2 ^ 48)
  | .getLogPage seq _ => decide (seq < 2 ^ 48)
  | .deleteIoCompletionQueue seq => decide (seq < 2 ^ 48)
  | .createIoCompletionQueue seq => decide (seq < 2 ^ 48)
  | .identify seq _ => decide (seq < 2 ^ 48)
  | .abort seq => decide (seq < 2 ^ 48)
  | .setFeatures seq _ _ => decide (seq < 2 ^ 48)
  | .getFeatures seq _ => decide (seq < 2 ^ 48)
  | .asynchronousEventRequest seq => decide (seq < 2 ^ 48)
  | .firmwareCommit seq => decide (seq < 2 ^ 48)
  | .firmwareImageDownload seq => decide (seq < 2 ^ 48)
  | .deviceSelfTest seq _ => decide (seq < 2 ^ 48)
  | .nvmeMiSend seq => decide (seq < 2 ^ 48)
  | .nvmeMiReceive seq _ => decide (seq < 2 ^ 48)
  | .formatNvm seq => decide (seq < 2 ^ 48)
  | .sanitize seq => decide (seq < 2 ^ 48)
  | .retireBufferPage seq => decide (seq < 2 ^ 48)
  | .declareBufferChipDead seq => decide (seq < 2 ^ 48)
  | .cairnClear seq _ _ => decide (seq < 2 ^ 48)
  | .flush seq => decide (seq < 2 ^ 48)
  | .write seq _ _ => decide (seq < 2 ^ 48)
  | .read seq _ _ => decide (seq < 2 ^ 48)
  | .writeUncorrectable seq => decide (seq < 2 ^ 48)
  | .writeZeroes seq => decide (seq < 2 ^ 48)
  | .verify seq _ => decide (seq < 2 ^ 48)
  | .reservationRegister seq _ _ => decide (seq < 2 ^ 48)
  | .reservationReport seq _ => decide (seq < 2 ^ 48)
  | .reservationAcquire seq _ _ => decide (seq < 2 ^ 48)
  | .reservationRelease seq _ _ => decide (seq < 2 ^ 48)
  | .writeCommit seq => decide (seq < 2 ^ 48)
  | .readResolve seq _ => decide (seq < 2 ^ 48)
  | .destage _ _ _ => true
  | .idleDestageTimeout _ => true
  | .mediaOperationEnd _ _ => true
  | .progressRecord done => lanesOk done
  | .selfTestResume _ => true
  | .recalibration _ head _ => decide (head < 32)
  | .comreset => true
  | .softwareReset => true
  | .readSectors f _ _ => f.wf
  | .readSectorsExt f _ _ => f.wf
  | .readDmaExt f _ _ => f.wf
  | .readDma f _ _ => f.wf
  | .writeSectors f _ _ => f.wf
  | .writeSectorsExt f _ _ => f.wf
  | .writeDmaExt f _ _ => f.wf
  | .writeDma f _ _ => f.wf
  | .writeDmaFuaExt f _ _ => f.wf
  | .readVerifySectors f _ => f.wf
  | .readVerifySectorsExt f _ => f.wf
  | .writeUncorrectableExt f => f.wf
  | .readFpdmaQueued f _ _ => f.wf
  | .writeFpdmaQueued f _ _ => f.wf
  | .readLogExt f _ => f.wf
  | .readLogDmaExt f _ => f.wf
  | .writeLogExt f _ _ => f.wf
  | .writeLogDmaExt f _ _ => f.wf
  | .executeDeviceDiagnostic => true
  | .smartReadData f _ => f.wf
  | .smartReadThresholds f _ => f.wf
  | .smartAttributeAutosave f => f.wf
  | .smartExecuteOffLineImmediate f _ => f.wf
  | .smartReadLog f _ => f.wf
  | .smartWriteLog f _ _ => f.wf
  | .smartEnableOperations f => f.wf
  | .smartDisableOperations f => f.wf
  | .smartReturnStatus f => f.wf
  | .standbyImmediate => true
  | .idleImmediate => true
  | .standby count => byteOk count
  | .idle count => byteOk count
  | .checkPowerMode => true
  | .sleep => true
  | .standbyTimerExpiry => true
  | .flushCache => true
  | .flushCacheExt => true
  | .identifyDevice _ => true
  | .setFeaturesEnableWriteCache => true
  | .setFeaturesDisableWriteCache => true
  | .setFeaturesSetTransferMode mode => byteOk mode
  | .setFeaturesEnableSataFeature _ => true
  | .setFeaturesDisableSataFeature _ => true
  | .setFeaturesEnableReadLookAhead => true
  | .setFeaturesDisableReadLookAhead => true
  | .readCounters f _ => f.wf
  | .readGrownDefects f _ => f.wf
  | .readPending f _ => f.wf
  | .setSectorFormat f => f.wf
  | .readBufferHealth f _ => f.wf
  | .dv40RetireBufferPage f => f.wf
  | .dv40DeclareBufferChipDead f => f.wf
  | .dv40CairnClear f _ _ => f.wf
  | .kilnScanStart => true
  | .kilnConversionEnd _ _ => true
  | .shutdownTimeout => true
  | .coolingHoldEnd => true
  | .writeWaitTimeout seq => decide (seq < 2 ^ 48)
  | .hangTimeout _ => true
  | .restartTimeout _ => true
  | .wedgeTimeout _ => true
  | .relockTimeout _ => true
  | .overspeedCheck => true
  | .runawayRetractCheck _ => true
  | .supplyTrip _ => true
  | .dieOverTemperature => true
  | .oscCalibration count => decide (count < 2 ^ 24)
  | .oscEdgeLoss => true
  | .supplyReturn => true
  | .laneReturn _ => true
  | .sfOverrun unit => decide (unit < 16)
  | .cairnBootScanEnd _ _ => true
  | .cairnFlushStart => true
  | .cairnRecordProgrammed _ => true
  | .stagingAgeTimeout => true
  | .crnFlushGo _ => true
  | .cairnClearEraseEnd _ => true
  | .optimeSave => true
  | .chainFrameSend => true
  | .chainFrameReceived v => decide (v < 1024)
  | .chainSteadyLow => true
  | .chainErrorTimeout => true
  | .setEndpointId dest inst eid => byteOk dest && decide (inst < 32) && byteOk eid
  | .getEndpointId dest inst => byteOk dest && decide (inst < 32)
  | .getEndpointUuid dest inst => byteOk dest && decide (inst < 32)
  | .getMctpVersionSupport dest inst _ => byteOk dest && decide (inst < 32)
  | .getMessageTypeSupport dest inst => byteOk dest && decide (inst < 32)
  | .mctpMessageDrop _ => true
  | .readNvmeMiDataStructure dest _ _ => byteOk dest
  | .nvmSubsystemHealthStatusPoll dest => byteOk dest
  | .controllerHealthStatusPoll dest _ => byteOk dest
  | .configurationSet dest _ _ => byteOk dest
  | .configurationGet dest _ => byteOk dest
  | .miReset dest _ => byteOk dest
  | .registerRead dest off count => byteOk dest && decide (off < 4194304) && decide (1 ≤ count ∧ count ≤ 64)
  | .registerWrite dest off _ => byteOk dest && decide (off < 4194304)
  | .tunnelledAdminCommand dest cntlid e => byteOk dest && wordOk cntlid && e.wf
  | .entdaa a => decide (a < 128)
  | .rstdaa => true
  | .setnewda a => decide (a < 128)
  | .getpid => true
  | .getbcr => true
  | .getdcr => true
  | .getstatus => true
  | .getmrl => true
  | .getmwl => true
  | .setmrl v => wordOk v
  | .setmwl v => wordOk v
  | .enec events => byteOk events
  | .disec events => byteOk events
  | .arpAssignAddress udid a => decide (udid.length = 16) && decide (a < 128)
  | .alertResponseAddressRead => true
  | .ibiAcknowledge => true
  | .sbdGateWrite _ _ => true
  | .gateTimeout => true
  | .hostLinkLoss => true
  | .hostLinkLossTimeout => true
  | .absentAccess _ off _ _ => decide (off < 4194304)
  | .partialWrite _ off => decide (off < 4194304)
  | .boundaryCrossingRequest _ => true
  | .atomicopRequest _ => true
  | .loRegisterRead _ off => decide (off < 4194304)
  | .absentCntRead _ => true
  | .privLostRead _ _ => true
  | .qDropsRead _ _ => true
  | .chnCounterRead _ _ _ => true
  | .fmtCounterRead _ _ _ => true
  | .rcvCounterRead _ _ _ => true
  | .sveCounterRead _ _ _ => true
  | .sekCounterRead _ _ _ => true
  | .whlCounterRead _ _ => true
  | .bufCounterRead _ _ => true
  | .slotPeakRead _ => true
  | .cntWgCutRead _ _ => true
  | .cntMctpErrRead _ => true
  | .registerWindowWrite _ off _ => decide (off < 4194304)
  | .avsResponse readback => wordOk readback
  | .crossingQuietTimeout => true
  | .cairnProgramTimeout => true
  | .sataLinkUp gen => decide (1 ≤ gen ∧ gen ≤ 3)
  | .sataLinkDown => true
  | .l1Entry _ _ => true
  | .l1Exit _ => true
  | .configurationRequest _ _ => true
  | .sclLowTimeout => true
  | .supplyDomainInRange _ => true

end Sys2Proof
end

