-- ==== Sys2Proof/Tests/Slice0.lean ====
section
/-! SUPPORT. Tests of the model on small states: examples of the spec worked out by hand, and for each statement a state and operands that
meet its hypotheses, with what it says of them. -/

namespace Sys2Proof.Tests

open Sys2Proof Sys2Proof.Machine

set_option Elab.async false

/-! ## Helpers -/

/-- Whether an outcome is a next state with a property. -/
def after (o : Host.Outcome State Fault Refusal) (p : State → Bool) : Bool :=
  match o with
  | .next t => p t
  | _ => false

/-- A powered device whose boot runs, in a stage. -/
def booting (k : Nat) : State :=
  { State.reset with
    pins := { State.reset.pins with porN := true, domains := [.vddio18] }
    boot := { State.reset.boot with running := true, fuseEnded := decide (1 ≤ k) } }.put Reg.IMG_BOOT_STATUS_STAGE k

/-- GEOMETRY with 256 wedges, H0 on lane 0 and H1 on lane 1, each with tracks 0 to 1,000. -/
def geo2 : List Byte := leBytes 2 256 ++ zeros 6 ++ [0x80, 0x88] ++ zeros 30 ++ leBytes 4 1000 ++ leBytes 4 1000 ++ zeros 120

/-- The same with H0 only. -/
def geo1 : List Byte := leBytes 2 256 ++ zeros 6 ++ [0x80] ++ zeros 31 ++ leBytes 4 1000 ++ zeros 124

/-- An image with sections. -/
def imageOf (l : List (Nat × List Byte)) : Image := ⟨false, false, 1, 0, 0, [], [], l⟩

/-- A device with one used lane, in a stage. -/
def lane1 (k : Nat) : State := { booting k with boot := { (booting k).boot with image := some (imageOf [(1, geo1)]), bulkEnded := decide (6 ≤ k) } }

/-- The same with all of a lane's and Lookout's values replaced. -/
def onLane (s : State) (f : LaneState → LaneState) : State := s.setLane 0 (f (s.lane 0))

/-! ## Chapters 2 and 3 -/

/-- R63's examples of the ball map: AN20, B21, D24, M10 and M11. -/
theorem test_ball_map : [ballAt 32 20, ballAt 2 21, ballAt 4 24, ballAt 12 10, ballAt 12 11] =
    [.signal (.rd 2 1 false), .signal (.dq 1 20), .signal (.dqs 1 3 true), .vss, .vddCore] := by decide

/-- R33: the capability registers of a PX84-Q of grade N and X. -/
theorem test_capabilities : State.reset.cap0 = 0x00053F7F ∧ State.reset.cap1 = 0x007F1020 ∧
    { State.reset with fuses := { State.reset.fuses with gradeX := true } }.cap1 = 0x00FF1020 := by decide

theorem witness_por_fall : (booting 9).pins.porN = true ∧ after (exec .porNFall (booting 9)) (fun t =>
    !t.pins.porN && t.stage == 0 && t.inResetState .xspiClk && t.outputLevel .xspiCsN == some true) = true := by decide
theorem witness_por_rise : State.reset.pins.porN = false ∧ after (exec (.porNRise ⟨true, false, false, false⟩) State.reset) (fun t =>
    t.pins.porN && t.boot.compat && t.boot.running && t.showStraps == 1) = true := by decide
theorem test_testmode : after (exec (.porNRise ⟨false, false, false, true⟩) State.reset) (fun t => !t.boot.running && !t.powered) = true := by
  decide
theorem witness_supply_domain : after (exec (.supplyDomainInRange .vddio18) State.reset) (fun t =>
    t.pins.domains == [.vddio18] && t.inResetState .safeStopN) = true := by decide
theorem witness_fuse_end : { booting 0 with boot := { (booting 0).boot with fuseEnded := false } }.inStage 0 = true ∧
    after (exec (.fuseStageEnd true) (booting 0)) (fun t => t.stage == 1 && t.pins.xspiResetN && !t.held) = true := by decide
theorem witness_fuse_bad : after (exec (.fuseStageEnd false) (booting 0)) (fun t =>
    t.held && t.get Reg.IMG_BOOT_STATUS_ERR == 1 && t.locked && t.stage == 0) = true := by decide
theorem witness_probe_none : (booting 1).inStage 1 = true ∧ after (exec (.probeStageEnd .noResponse) (booting 1)) (fun t =>
    t.held && t.get Reg.IMG_BOOT_STATUS_ERR == 2) = true := by decide
theorem witness_probe_small : after (exec (.probeStageEnd (.found 8388608 true ⟨0xEE, 20, 0x12, 0xDC⟩)) (booting 1)) (fun t =>
    t.held && t.get Reg.IMG_BOOT_STATUS_ERR == 3) = true := by decide
theorem witness_probe : after (exec (.probeStageEnd (.found 16777216 false ⟨0xEE, 20, 0x12, 0xDC⟩)) (booting 1)) (fun t =>
    t.get Reg.IMG_FLASH_SIZE_DENSITY == 16777216 && t.get Reg.IMG_BOOT_STATUS_SLOW_FLASH == 1 && t.stage == 2 && t.held &&
      t.get Reg.IMG_BOOT_STATUS_ERR == 0x20 && t.get (Reg.IMG_SLOT_RESULT_STATE 0) == 1) = true := by decide +kernel
theorem witness_timeout : after (exec .stageTimeout (booting 5)) (fun t =>
    t.held && t.get Reg.IMG_BOOT_STATUS_ERR == 0x3F && t.stage == 5) = true := by decide

/-- A device in SELECT with one candidate in slot A of a flash that holds nothing. -/
def selecting (c : Candidate) : State :=
  { booting 2 with boot := { (booting 2).boot with density := 16777216, cands := some [c], first := some c } }

theorem witness_select_retry : (selecting ⟨false, false, 1⟩).inStage 2 = true ∧
    after (exec (.slotVerificationPass true) (selecting ⟨false, false, 1⟩)) (fun t => t.boot.readRetried && t.stage == 2) = true := by
  decide
/-- The same with a DV-40 header whose IMAGE_SIZE is 100. -/
def selectingShort : State := { selecting ⟨false, true, 1⟩ with flash := [(12, 100), (13, 0), (14, 0), (15, 0)] }

theorem witness_select_bad : (match selectingShort.verify ⟨false, true, 1⟩ with | .error e => e == (0x1A, 0xFF) | .ok _ => false) = true ∧
    after (exec (.slotVerificationPass false) selectingShort) (fun t => t.held && t.get Reg.IMG_BOOT_STATUS_ERR == 0x20 &&
      t.get (Reg.IMG_SLOT_RESULT_STATE 0) == 4 && t.get (Reg.IMG_SLOT_RESULT_ERR 0) == 0x1A) = true := by decide +kernel
theorem witness_lock : (booting 3).inStage 3 = true ∧ after (exec (.lockStageEnd [] []) (booting 3)) (fun t =>
    t.locked && t.stage == 4 && !t.held) = true := by decide
theorem witness_train : (booting 4).inStage 4 = true ∧ after (exec (.ddr5TrainingEnd [] (1, 1, 0) false) (booting 4)) (fun t =>
    t.boot.memTrained && t.get Reg.BUF_STATE_TRAINED == 1 && !t.held) = true := by decide
theorem witness_train_check : after (exec (.ddr5TrainingEnd [] (1, 1, 0) true) (booting 4)) (fun t =>
    t.held && t.get Reg.IMG_BOOT_STATUS_ERR == 0x31) = true := by decide +kernel

/-- A device whose DDR5 has trained. -/
def trained : State := { booting 4 with boot := { (booting 4).boot with memTrained := true, density := 16777216 } }

theorem witness_march : trained.loggedPages = [] ∧ after (exec (.marchCEnd [3, 5, 3]) trained) (fun t => t.stage == 5 &&
    t.get Reg.BUF_MARCH_DONE == 1) = true := by decide +kernel
/-- The same with a DDR5 section: one subchannel, one rank, shard mode at training allowed or not, the March test on. -/
def withDdr5 (s : State) (flags : Nat) : State :=
  { s with boot := { s.boot with image := some (imageOf [(1, geo1), (secDdr5, [1, 1, 1, 1, BitVec.ofNat 8 flags] ++ zeros 15 ++ leBytes 4 1 ++ zeros 8)]) } }
theorem witness_train_chip : (withDdr5 (booting 4) 2).groupFitted 0 = true ∧
    after (exec (.ddr5TrainingEnd [(0, 3)] (1, 1, 0) false) (withDdr5 (booting 4) 2)) (fun t => !t.held && t.boot.memTrained && t.groupState 0 == 11) = true ∧
    after (exec (.ddr5TrainingEnd [(0, 3)] (1, 1, 0) false) (withDdr5 (booting 4) 0)) (fun t => t.held && t.get Reg.IMG_BOOT_STATUS_ERR == 0x30) = true := by
  decide +kernel
/-- The hypotheses of a March test that finds more pages than the pool holds. -/
theorem witness_march_full : (withDdr5 trained 2).inStage 4 = true ∧ (withDdr5 trained 2).sec32 secDdr5 0x14 ≠ 0 ∧ 4097 < (withDdr5 trained 2).bufPages ∧
    (List.range 4097).Nodup ∧ 4096 < (List.range 4097).length :=
  ⟨by decide +kernel, by decide +kernel, by decide +kernel, List.nodup_range, by rw [List.length_range]; decide⟩
theorem witness_bulk_mismatch : (booting 5).inStage 5 = true ∧ (booting 5).bulkOk = false := by decide
theorem witness_fill : after (exec .bufferFillEnd (booting 5)) (fun t => t.get Reg.BUF_STATE_FILL_DONE == 1) = true := by decide
theorem witness_bulk_bad : after (exec (.bulkStageEnd true) (booting 5)) (fun t =>
    t.held && t.get Reg.IMG_BOOT_STATUS_ERR == 0x21) = true := by decide
theorem witness_bulk : (lane1 5).bulkOk = true ∧ after (exec (.bulkStageEnd false) (lane1 5)) (fun t => t.boot.bulkEnded && t.stage == 6 && t.laneCode 0 == 1) = true := by
  decide +kernel

/-- Lane 0 on track in SERVO with a boot code, lane 1 waiting for its servo. -/
def serving (code : Nat) : State :=
  let s := onLane { lane1 7 with boot := { (lane1 7).boot with image := some (imageOf [(1, geo2)]) } }
    fun l => { l with sek := { l.sek with phase := .onTrack } }
  (s.put (laneBootField 0) code).put (laneBootField 1) 2

/-- What a preamp answers to a read of PROFILE with a version, its CRC right. -/
def profileAnswer (v : Nat) : PspAnswer := ⟨v, pspCrc true 0 v, v, pspCrc true 0 v⟩

theorem witness_servo_lock : (serving 2).used 0 = true ∧ (serving 2).used 1 = true ∧ (serving 2).laneCode 1 = 2 ∧
    pspValue 0 (profileAnswer 1) = some 1 ∧
    after (exec (.servoLock 0 true (profileAnswer 1)) (serving 2)) (fun t => t.laneCode 0 == 3 && t.stage == 7) = true := by decide +kernel
theorem witness_servo_on : after (exec (.servoLock 0 true (profileAnswer 1)) ((serving 2).put (laneBootField 1) 3)) (fun t =>
    t.laneCode 0 == 3 && t.stage == 8) = true := by decide +kernel
theorem witness_servo_fail : after (exec (.servoLock 0 false (profileAnswer 1)) (serving 2)) (fun t => t.laneCode 0 == 9) = true ∧
    after (exec (.servoLock 0 true (profileAnswer 2)) (serving 2)) (fun t => t.laneCode 0 == 9 && t.stage == 7) = true := by
  decide +kernel
theorem witness_area : after (exec (.systemAreaReadEnd 0 true) (serving 3)) (fun t => t.laneCode 0 == 4 && t.stage == 7) = true := by decide
theorem witness_area_fail : after (exec (.systemAreaReadEnd 0 false) (serving 3)) (fun t => t.laneCode 0 == 10) = true := by decide

/-! ## Chapter 4 -/

theorem witness_crystal : after (exec .crystalStopped (booting 9)) (fun t => t.pwr.crystalStopped && t.crn.opTime == 4 &&
    t.get Reg.KLN_STATUS_LKO_PACED == 1 && after (exec .crystalEdgeReturn t) (fun u => !u.pwr.crystalStopped && u.crn.opTime == 4 &&
      u.get Reg.KLN_STATUS_LKO_PACED == 0)) = true := by decide

/-- A device whose LOCK stage has ended, with a voltage requested. -/
def voltsAt (mv : Nat) : State := { (booting 9).put Reg.PWR_AVS_STATUS_TARGET mv with boot := { (booting 9).boot with lockEnded := true } }

/-- The same at 700 mV. -/
def volts : State := voltsAt 700

theorem witness_avs_up : volts.boot.lockEnded = true ∧ volts.get Reg.PWR_AVS_CTRL_VMAX = 800 ∧ volts.get Reg.PWR_AVS_CTRL_VMIN = 600 ∧
    after (exec (.avsStepUp 640) volts) (fun t => t.get Reg.PWR_AVS_STATUS_TARGET == 705 && t.out == [.avs 0 (.voltageWrite 705)]) = true := by decide
theorem witness_avs_down : after (exec (.avsStepDown 640) volts) (fun t => t.get Reg.PWR_AVS_STATUS_TARGET == 695 &&
    t.out == [.avs 0 (.voltageWrite 695)]) = true ∧ after (exec (.avsStepDown 696) volts) (fun t => t.get Reg.PWR_AVS_STATUS_TARGET == 700) = true ∧
    after (exec (.avsStepUp 600) (voltsAt 798)) (fun t => t.get Reg.PWR_AVS_STATUS_TARGET == 800) = true := by
  decide +kernel
theorem witness_avs_response : after (exec (.avsResponse 702) volts) (fun t => t.get Reg.PWR_AVS_STATUS_READBACK == 702 &&
    t.pwr.avsRequest == none) = true := by decide
/-- A request that has failed twice. -/
def deaf : State := { volts with pwr := ⟨false, some 700, 2, false⟩ }
theorem witness_avs_silent : after (exec .avsNoResponse { volts with pwr := ⟨false, some 700, 1, false⟩ }) (fun t => t.pwr.avsTries == 2) = true ∧
    after (exec .avsNoResponse deaf) (fun t => t.get Reg.PWR_AVS_STATUS_NO_RESPONSE == 1 && t.pwr.raiseOnly &&
      after (exec (.avsStepDown 600) t) (fun u => u.get Reg.PWR_AVS_STATUS_TARGET == 700)) = true := by decide
theorem witness_gate : (booting 9).gatePresent (.hif 0) = true ∧ after (exec (.gateIdleExpiry (.hif 0)) (booting 9)) (fun t =>
    t.get (gateField (.hif 0)) == 1 && after (exec (.blockWake (.hif 0)) t) (fun u => u.get (gateField (.hif 0)) == 0)) = true := by decide
/-- R129: the lanes without a fitted head show as gated. -/
theorem test_gate_unused : (lane1 9).showGates = 0xEE := by decide

/-! ## Chapter 5 -/

/-- A control word from SP, SEQ, TARGET, COND, ALU_OP, DST, SRCA, SRCB, BIMM, IMM. -/
def cword (sp seq target cond alu dst a b bimm imm : Nat) : BitVec 128 :=
  BitVec.ofNat 128 (sp * 2 ^ 123 + seq * 2 ^ 119 + target * 2 ^ 103 + cond * 2 ^ 97 + alu * 2 ^ 91 + dst * 2 ^ 86 + a * 2 ^ 81 + b * 2 ^ 76 +
    bimm * 2 ^ 75 + imm * 2 ^ 43)

/-- PATCHES of the example of R157: one match for KS, word 0x10 moving 5 into G1, word 0x11 the jump back. -/
def patches157 : List Byte :=
  leBytes 2 0x12 ++ leBytes 2 1 ++ zeros 4 ++ [6, 0, 0x40, 0x9A, 0x10, 0, 0, 0] ++ zeros 256 ++
    leBytes 16 (cword 0 0 0 0 1 1 0 0 1 5).toNat ++ zeros 12 ++ [0x80, 0x20, 0xCD, 0x08]

/-- A device with those patches, locked, KS at ROM address 0x9A40. -/
def ks157 : State :=
  let s := { lane1 9 with mend := mendOf patches157 }.loadMatches patches157
  s.setSeq 6 { s.seq 6 with run := .running, ctx := { (s.seq 6).ctx with pc := 0x9A40 } }

/-- R157: the match register and the Mend word read as the example says; the changed instruction runs in place of the ROM word and the
jump, a safe point, goes back. -/
theorem test_patch157 : ks157.reg 0x21300 = 0x80109A40 ∧ (ks157.mendWord 0xC011).toNat / 2 ^ 96 = 0x08CD2080 ∧
    after (exec (.next 6 ⟨1, false⟩) ks157) (fun t => (t.seq 6).ctx.read 1 == 5 && (t.seq 6).ctx.pc == 0xC011 &&
      after (exec (.jump 6 ⟨0, false⟩) t) (fun u => (u.seq 6).ctx.pc == 0x9A41 && (u.seq 6).chk.pc == 0x9A41 && (u.seq 6).since == 0)) =
        true := by decide +kernel

/-- KS at an address, with a return stack, a loop count and LC as given. -/
def ksAt (pc : Nat) (stack : List Nat) (lc : Nat) : State :=
  let s := lane1 9
  s.setSeq 6 { s.seq 6 with run := .running, ctx := { (s.seq 6).ctx with pc := pc, stack := stack, lc := lc } }

/-- A sequencing operation at ROM address 0x9100 with TARGET 0x9200 and COND Z. -/
def fetched (seq : Nat) : Fetch := ⟨cword 0 seq 0x9200 1 0 0 0 0 0 0 + BitVec.ofNat 128 (parity (cword 0 seq 0x9200 1 0 0 0 0 0 0)), false⟩
where parity (w : BitVec 128) : Nat := (List.range 4).foldl (fun v i =>
  v + (List.range 31).foldl (fun p k => (p + (w.toNat / 2 ^ (31 * i + k)) % 2) % 2) 0 * 2 ^ (124 + i)) 0

/-- Where KS is after a row. -/
def pcOf (o : Host.Outcome State Fault Refusal) : Nat := match o with
  | .next t => (t.seq 6).ctx.pc
  | _ => 0

theorem witness_words : pcOf (exec (.next 6 (fetched 0)) (ksAt 0x9100 [] 0)) = 0x9101 ∧
    pcOf (exec (.jt 6 (fetched 2)) (ksAt 0x9100 [] 0)) = 0x9101 ∧ pcOf (exec (.jf 6 (fetched 3)) (ksAt 0x9100 [] 0)) = 0x9200 ∧
    pcOf (exec (.ret 6 (fetched 5)) (ksAt 0x9100 [0x9300] 0)) = 0x9300 ∧ pcOf (exec (.retd 6 (fetched 8)) (ksAt 0x9100 [0x9300] 0)) = 0x9300 ∧
    pcOf (exec (.loop 6 (fetched 6)) (ksAt 0x9100 [] 2)) = 0x9200 ∧ pcOf (exec (.loop 6 (fetched 6)) (ksAt 0x9100 [] 1)) = 0x9101 ∧
    pcOf (exec (.loop 6 (fetched 6)) (ksAt 0x9100 [] 0)) = 0x9101 := by decide +kernel
theorem witness_call : after (exec (.call 6 (fetched 4)) (ksAt 0x9100 [7] 0)) (fun t => (t.seq 6).ctx.pc == 0x9200 &&
    (t.seq 6).ctx.stack == [0x9101, 7]) = true := by decide +kernel

/-- LS0 in its write-abort handler at 0x100. -/
def ls0 : State :=
  let s := lane1 9
  s.setSeq 0 { s.seq 0 with run := .running, ctx := { (s.seq 0).ctx with pc := 0x100, stack := [0x80], rank := 4, ranks := [0] } }
theorem witness_retp : after (exec (.retp 0 (fetched 9)) ls0) (fun t => (t.seq 0).ctx.pc == 0x80 && (t.seq 0).ctx.rank == 0) = true := by
  decide +kernel
/-- R163: the second assertion of a pending source is counted; R162: a higher source interrupts the handler. -/
theorem witness_priv : after (exec (.privilegedSourceAssert 0 .cone3) ls0) (fun t =>
    after (exec (.privilegedSourceAssert 0 .cone3) t) (fun u => u.get (privLostField 0 3) == 1) &&
    (t.seq 0).pendingRank == some 3 &&
    after (exec (.next 0 (fetched 0)) t) (fun u => (u.seq 0).ctx.pc == 0x49 && (u.seq 0).ctx.stack == [0x100, 0x80] &&
      (u.seq 0).ctx.ranks == [4, 0] && !((u.seq 0).latches.toList.getD 2 true))) = true := by decide +kernel

/-- A WAIT of KS with SP. -/
def waitWord : Fetch := ⟨cword 1 7 0 0 0 0 0 0 0 0 + BitVec.ofNat 128 (fetched.parity (cword 1 7 0 0 0 0 0 0 0 0)), false⟩
/-- KS with an item in its event queue. -/
def ksItem : State := (ksAt 0x9100 [] 0).setQueue 6 { (ksAt 0x9100 [] 0).queue 6 with fill := [⟨0x123, 2, true, 0xABCD⟩] }
theorem witness_wait : after (exec (.wait 6 waitWord) (ksAt 0x9100 [] 0)) (fun t => (t.seq 6).run == .stalled && (t.seq 6).held.isSome &&
      after (exec (.eventRaise 0x123 [0xABCD]) (t.put (Reg.EVT_ROUTE_WORD 0x123) 0x1806)) (fun u => (u.seq 6).item.isSome && (u.queue 6).depth == 0 &&
        after (exec (.wait 6 waitWord) u) fun v => (v.seq 6).ctx.read 30 == 0xABCD && (v.seq 6).ctx.pc == 0x9101)) = true ∧
    after (exec (.wait 6 waitWord) ksItem) (fun t => (t.seq 6).ctx.read 29 == 0x3123 && (t.seq 6).ctx.read 30 == 0xABCD &&
      (t.seq 6).chk == (t.seq 6).ctx && (t.seq 6).ctx.pc == 0x9101 && (t.queue 6).depth == 0) = true := by decide +kernel
/-- R159: a safe point with a packet waiting goes to the dispatch entry. -/
theorem witness_dispatch : after (exec (.next 6 ⟨cword 1 0 0 0 0 0 0 0 0 0 + BitVec.ofNat 128 (fetched.parity (cword 1 0 0 0 0 0 0 0 0 0)), false⟩) ksItem)
    (fun t => (t.seq 6).ctx.pc == 0x9020 && (t.seq 6).ctx.stack == [0x9101] && (t.seq 6).ctx.inDisp && (t.seq 6).chk.pc == 0x9101) = true := by
  decide +kernel
/-- EMIT raises its event: WORD with EVID 0x123. -/
theorem witness_emit : after (exec (.next 6 ⟨0x1246 + BitVec.ofNat 128 (fetched.parity 0x1246), false⟩) (ksAt 0x9100 [] 0))
    (fun t => (t.seq 6).ctx.pc == 0x9101 && (t.seq 6).since == 1) = true := by decide +kernel
/-- R141: a fetch in another class's segment is ILLEGAL; the restart resumes at the checkpoint. -/
theorem witness_fault : after (exec (.next 6 (fetched 0)) (ksAt 0x4000 [] 0)) (fun t => (t.seq 6).run == .restarting &&
    t.get ⟨seqFaultReg 6, 31, 28⟩ == 3 && t.get ⟨seqFaultReg 6, 27, 24⟩ == 1 &&
    after (exec (.seqRestartResume 6) t) (fun u => (u.seq 6).run == .running && (u.seq 6).ctx == (u.seq 6).chk)) = true := by decide +kernel
theorem witness_watchdog : after (exec (.watchdogTrip 6) ((ksAt 0x9100 [] 0).setSeq 6 { (ksAt 0x9100 [] 0).seq 6 with since := 4096 }))
    (fun t => t.get ⟨seqFaultReg 6, 31, 28⟩ == 2 && t.get ⟨seqFaultReg 6, 15, 0⟩ == 1) = true := by decide +kernel
theorem witness_match : (List.range 3).map (fun k => ks157.fetchWord 6 (0x9A3F + k) 0) =
    [.word 0 0x9A3F, .word (ks157.mendWord 0xC010) 0xC010, .word 0 0x9A41] ∧
    ks157.fetchWord 6 0xC7FF 0 = .word (ks157.mendWord 0xC7FF) 0xC7FF ∧ ks157.fetchWord 6 0xC800 0 = .fault 3 := by decide +kernel

/-! ## Chapter 6 -/

/-- R201 example: LS1's queue with LEVEL 3, armed; event 0x700 + i routed there at priority i. -/
def queue1 : State :=
  let s := (lane1 9).put (Reg.EVT_Q_CTRL_LEVEL 1) 3
  ((((s.put (Reg.EVT_ROUTE_WORD 0x700) 0x1001).put (Reg.EVT_ROUTE_WORD 0x701) 0x1401).put (Reg.EVT_ROUTE_WORD 0x702) 0x1801).put
    (Reg.EVT_ROUTE_WORD 0x703) 0x1C01).rearm 1

/-- Push an item of a priority with a payload. -/
def pushed (s : State) (prio : Fin 4) (p : Nat) : State :=
  match exec (.eventRaise ⟨0x700 + prio.val, by omega⟩ [p]) s with
  | .next t => t
  | _ => s
/-- What a pop takes, and the state after it. -/
def popped (s : State) : Nat × State := ((s.popQueue 1).map fun (i, t) => (i.payload, t)).getD (0, s)
/-- LVL_HIT and DEPTH. -/
def shown (s : State) : Nat × Nat := (s.get (Reg.EVT_Q_STATUS_LVL_HIT 1), (s.queue 1).depth)

/-- The table of the queue example: A to E with payloads 1 to 5. -/
def queueRun : List Nat :=
  let s3 := pushed (pushed (pushed queue1 2 1) 3 2) 1 3
  let (c, s4) := popped s3
  let s6 := ((pushed s4 0 4).put (Reg.EVT_Q_STATUS_LVL_HIT 1) 0).rearm 1
  let (a, s7) := popped s6
  let s8 := pushed s7 3 5
  let (b, s9) := popped s8
  let (d, s10) := popped s9
  let (e, s11) := popped s10
  [(shown s3).1, (shown s3).2, c, (shown s6).1, (shown s6).2, flag (s6.queue 1).armed, a, flag (s7.queue 1).armed, (shown s8).1, b, d, e, (shown s11).2]
theorem test_queue_example : queueRun = [1, 3, 3, 0, 3, 0, 1, 1, 1, 2, 4, 5, 0] := by decide +kernel

theorem witness_route_none : definedEvent 0x07F = false ∧ definedEvent 0x020 = true ∧ (lane1 9).absentEvent 0x020 = false ∧
    ((lane1 9).put (Reg.EVT_ROUTE_WORD 0x020) 0).get (Reg.EVT_ROUTE_WORD 0x020) = 0 := by decide +kernel
/-- A full queue that has overrun. -/
def full1 : State := (queue1.setQueue 1 { queue1.queue 1 with fill := .replicate 64 ⟨1, 0, true, 0⟩, drain := .replicate 64 ⟨1, 0, true, 0⟩ }).put
  (Reg.EVT_Q_STATUS_OVERRUN 1) 1
theorem witness_refused : (pushed full1 2 9).get (Reg.EVT_Q_DROPS_COUNT 1) = 1 := by decide +kernel
theorem witness_alert : after (exec (.eventRaise 0x123 [5]) ((lane1 9).put (Reg.EVT_ROUTE_WORD 0x123) 0x4000)) (fun t =>
    t.get ⟨0x12000 + 4 * 9, 3, 3⟩ == 1 && t.pins.alertLow) = true := by decide +kernel

/-- A locked device with one item in the telemetry queue. -/
def telemetry : State := ((lane1 9).put Reg.IMG_BOOT_STATUS_LOCKED 1).setQueue 7 { Queue.reset with fill := [⟨0x123, 1, true, 0x112233445566⟩] }
theorem witness_telemetry : telemetry.barOpen 0 = true ∧
    after (exec (.tqPopLoRead (.port 0)) telemetry) (fun t => t.out == [.readData (.port 0) 0x55662923] &&
      t.captured 0 tqPopLo == 0x11223344 && after (exec (.tqPopLoRead (.port 0)) t) (fun u => u.tqWait == [.port 0] &&
        after (exec (.tqPopTimeout (.port 0)) u) (fun v => v.out.head? == some (.readData (.port 0) 0x8000) && v.tqWait.isEmpty))) = true := by
  decide +kernel
theorem witness_queue_status : after (exec (.qStatusWrite (.port 0) 1 0x60000000) (full1.put Reg.IMG_BOOT_STATUS_LOCKED 1)) (fun t =>
    t.get (Reg.EVT_Q_STATUS_OVERRUN 1) == 0 && shown t == (0, 128)) = true := by decide +kernel
/-- A port with vector 37 pending and masked. -/
def msix37 : State := (lane1 9).setPort 0 { (lane1 9).port 0 with linkUp := true, msixEnabled := true, msixPending := [37], msixUnmasked := [], msixTable := [(37, (0xFEE00000, 0x25))] }
theorem witness_unmask : msix37.memReach 0 = true ∧ (msix37.port 0).msixFnMask = false ∧ after (exec (.msixUnmask 0 37 false) msix37)
    (fun t => t.out == [.msix 0 37 0xFEE00000 0x25] && (t.port 0).msixPending == [] &&
      after (exec (.msixUnmask 0 37 true) t) (fun u => (u.port 0).msixUnmasked == [])) = true := by decide +kernel

/-! ## Chapter 7 -/

/-- What a decode reports. -/
def decoded (conv crc : Bool) : DecodeResult := ⟨if conv then 5 else 0, 0, crc, false, zeros 4096, zeros 8, 3, 100, 0, [], [], 0, 0, [], 0⟩
/-- A sector of the bank that has been framed. -/
def framedSector (index pba : Nat) : BankSector :=
  { (lane1 9).latchSector 0 index pba with localMax := 32, globalMax := 4, perGlobal := 4, framed := some 0, target := 100 }
/-- A lane with sectors in its bank, at PBAs that hold known media. -/
def reading (k : Nat) : State :=
  let s := (lane1 9).writeMedia 7 [1, 2] [3] none true
  onLane s fun l => { l with chan := { l.chan with bank := (List.range k).map fun i => framedSector i 7 } }

theorem witness_preamble : (reading 2).used 0 = true ∧ after (exec (.sectorPreambleStart 0 2 8 (decoded true true)) (reading 2)) (fun t =>
    (t.lane 0).chan.bank.map (·.pba) == [7, 7, 8] && t.get (Reg.CHN_STATUS_BANK_USED 0) == 3) = true := by decide +kernel
theorem witness_decode : (reading 2).mediaPasses 7 = true ∧
    after (exec (.sectorDecodeEnd 0 (decoded true true)) (reading 2)) (fun t => (t.lane 0).chan.delivered == [7] &&
      t.get (Reg.CHN_CNT_FIRST_PASS_COUNT 0) == 1 && t.get (Reg.CHN_ITER_HIST_COUNT 0 2) == 1) = true ∧
    after (exec (.sectorDecodeEnd 0 (decoded false true)) (reading 2)) (fun t => (t.lane 0).chan.failed == [(7, 1)]) = true ∧
    after (exec (.sectorDecodeEnd 0 (decoded true false)) (reading 2)) (fun t => (t.lane 0).chan.failed == [(7, 2)] &&
      (t.lane 0).chan.delivered == []) = true := by decide +kernel
/-- R248: under a cap of 4 local iterations the fifth comes too late; one that had used 4 when the cap asserts still gets it. -/
theorem witness_cap : (let s := ((reading 2).put (Reg.CHN_STATUS_CAP 0) 4)
    let t : State := { s with boot := { s.boot with image := some (imageOf [(1, geo1), (7, [0, 0, 0, 2])]) } }
    t.sec8 secThermal 3 = 2 ∧ after (exec (.sectorDecodeEnd 0 (decoded true true)) t) (fun u => (u.lane 0).chan.failed == [(7, 1)] &&
      u.get (Reg.CHN_STATUS_LAST_LOCAL 0) == 4 && u.get (Reg.CHN_STATUS_LAST_PASSES 0) == 2) = true ∧
    after (exec (.sectorDecodeEnd 0 { decoded true true with ran := 4 }) t) (fun u => (u.lane 0).chan.delivered == [7]) = true) := by decide +kernel
/-- R262: T 100 and MSE 100/256 LSB² give 10 log10(25,600) dB, 44.08 dB, 705.3 sixteenths. R258: a frozen loop shows its seed. -/
theorem test_snr : snrOf 100 (decoded true true) = 705 ∧ snrOf 100 { decoded true true with snr := 1 } = 706 ∧
    ({ framedSector 0 7 with seeds := [(640, 5, 6)], freeze := 0x13 } : BankSector).shown { decoded true true with agc := [(700, 1)], asym := [(9, 2)] } 0 =
      (640, 5, 9, 6) ∧
    (framedSector 0 7).shown { decoded true true with agc := [(700, 1)], asym := [(9, 2)] } 0 = (700, 1, 9, 2) := by decide +kernel
/-- R244: a sector whose write was cut does not pass, whatever the decoder says. -/
theorem witness_cut_media : after (exec (.sectorDecodeEnd 0 (decoded true true)) ((reading 1).writeMedia 7 [1] [] none false)) (fun t =>
    (t.lane 0).chan.failed == [(7, 2)]) = true := by decide +kernel
theorem witness_bank_cut : after (exec (.sectorPreambleStart 0 12 8 (decoded false true)) (reading 12)) (fun t =>
    (t.lane 0).chan.failed == [(7, 3)] && (t.lane 0).chan.bank.length == 12) = true := by decide +kernel
theorem witness_overrun : after (exec (.readFifoOverflow 0 1 600) (reading 2)) (fun t => (t.lane 0).chan.failed == [(7, 4)] &&
    t.get (Reg.CHN_STATUS_LAST_CAUSE 0) == 4 && (t.lane 0).chan.bank.length == 1) = true := by decide +kernel

/-- A locked device. -/
def locked1 : State := (lane1 9).put Reg.IMG_BOOT_STATUS_LOCKED 1
theorem witness_margin : locked1.barOpen 0 = true ∧ after (exec (.marginRun 0 (.port 0) 5) locked1) (fun t =>
    t.get (Reg.CHN_MARGIN_CTRL_RUN 0) == 1 && t.get (Reg.CHN_MARGIN_CTRL_SECTORS 0) == 5 &&
      after (exec (.marginAbort 0 (.port 0)) t) (fun u => u.get (Reg.CHN_MARGIN_CTRL_RUN 0) == 0)) = true := by decide +kernel
/-- A lane on track that has missed two marks. -/
def missed2 : State := onLane (lane1 9) fun l => { l with sek := { l.sek with phase := .onTrack }, mts := ⟨2, 0, false, false⟩ }
theorem witness_marks : after (exec (.addressMarkMissed 0) missed2) (fun t => (t.lane 0).mts.lost && t.get (Reg.FMT_MTS_STATUS_LOCKED 0) == 0) = true ∧
    after (exec (.addressMarkMissed 0) (missed2.setMts 0 ⟨1, 0, false, false⟩)) (fun t => (t.lane 0).mts == ⟨2, 0, false, true⟩ &&
      t.get (Reg.FMT_MTS_STATUS_COAST 0) == 1) = true := by decide +kernel
/-- R219: the example of reader delays, A 0, B +1,000, C −700. -/
theorem test_reader_delays : (({ lane1 9 with boot := { (lane1 9).boot with image := some (imageOf [(1, geo1),
    (3, leBytes 2 1 ++ leBytes 2 0 ++ zeros 12 ++ zeros 128),
    (4, leBytes 2 1 ++ zeros 14 ++ [0, 1, 7, 0, 0, 0, 0xE8, 0x03, 0x44, 0xFD] ++ zeros 54)]) } }).readerDelays 0 0 5) = [1000, 0, 1700] := by
  decide +kernel

/-! ## Chapter 8 -/

/-- The example of framing: a false primary mark at 156, the backup at 2,240. -/
theorem test_reframed : framing 16 3 false [(156, 3)] [(2240, 0)] = ⟨1, 0⟩ ∧ framing 16 3 false [(160, 0)] [(2241, 1)] = ⟨0, 0⟩ ∧
    framing 16 3 false [(160, 0)] [] = ⟨3, 0⟩ ∧ framing 16 3 false [] [(2230, 2)] = ⟨2, -10⟩ ∧ framing 16 3 true [(160, 0)] [(2270, 2)] = ⟨4, 30⟩ ∧
    framing 16 3 false [(200, 0)] [(2230, 4)] = ⟨8, 0⟩ := by decide
/-- A sector of the bank that has not been framed. -/
def unframed : State := onLane (reading 1) fun l => { l with chan := { l.chan with bank := [{ framedSector 0 7 with framed := none }] } }
theorem witness_framing : after (exec (.framingDecision 0 0 [(156, 3)] ⟨[(2240, 0)], []⟩) unframed) (fun t =>
      t.get (Reg.FMT_FRAME_STATUS_OUTCOME 0) == 1 && (t.lane 0).chan.bank.map (·.framed) == [some 1] &&
      t.get (Reg.FMT_CNT_REFRAME_COUNT 0) == 1) = true ∧
    after (exec (.framingDecision 0 0 [] ⟨[], []⟩) unframed) (fun t => (t.lane 0).chan.failed == [(7, 8)] && (t.lane 0).chan.bank == []) = true := by
  decide +kernel

/-- GEOMETRY, ZONES with track parity (G = 16, P = 1) and HEADS of one head. -/
def parityImage : Image := imageOf [(1, geo1), (3, leBytes 2 1 ++ leBytes 2 0 ++ zeros 12 ++ [0, 0, 1, 1] ++ zeros 8 ++ leBytes 2 170 ++ [16] ++ zeros 113)]
/-- A device with track parity and a write operation of one sector on lane 0. -/
def writing : State :=
  let s := { lane1 9 with boot := { (lane1 9).boot with image := some parityImage, bulkEnded := true } }
  { s with scheds := s.scheds.set 0 [⟨1, true, [], [⟨3, zeros 4, [], none⟩, ⟨4, zeros 4, [], none⟩], [], [], [], 0, false, true, none⟩] }
theorem witness_write_step : (writing.writeOp 0 [3, 4]).isSome = true ∧
    after (exec (.writeStepStart 0 [3, 4]) writing) (fun t => ((t.lane 0).fmt.write.map (·.preheatLeft)) == some 4 && bit ((t.lane 0).fmt.next 1) 3 &&
      t.stale == [(0, 0, 0)]) = true := by decide +kernel
/-- The step under way with the gate high, and one about to raise it. -/
def gated (high : Bool) : State :=
  let s := ((writing.put Reg.KLN_STATUS_WRITE_OPEN 1).put Reg.WHL_STATUS_SLEW 0)
  onLane s fun l => { l with
    fmt := { l.fmt with wgate := high, preheat := true, write := some ⟨[⟨3, zeros 4, [], none⟩, ⟨4, zeros 4, [], none⟩], 0, 0, 0⟩ }
    sve := { l.sve with mode := 3 }, sek := { l.sek with okRun := 2, phase := .onTrack } }
theorem witness_gate_rises : (gated false).gateAllowed 0 = true ∧
    after (exec (.writeStepStart 0 [3, 4]) (gated false)) (fun t => (t.lane 0).fmt.wgate) = true ∧
    after (exec (.writeStepStart 0 [3, 4]) ((gated false).setFmt 0 { ((gated false).lane 0).fmt with pfaultN := false })) (fun t =>
      !(t.lane 0).fmt.wgate) = true := by decide +kernel
theorem witness_pfault : after (exec (.pfaultNFall 0 ⟨1, pspCrc true 0x0A 1, 0, 0⟩) (gated true)) (fun t => !(t.lane 0).fmt.wgate &&
    !t.mediaPasses 3 && (t.lane 0).fmt.pfaultN) = true := by decide +kernel
theorem witness_underrun : after (exec (.writeFifoUnderrun 0 1 600) (gated true)) (fun t => !(t.lane 0).fmt.wgate && t.mediaPasses 3 &&
    !t.mediaPasses 4) = true := by decide +kernel

/-- What the preamp answers to reads of a register: the data, its CRC right, at the first read. -/
def answers (addr d : Nat) : PspAnswer := ⟨d, pspCrc true addr d, 0, 0⟩
theorem witness_psp_write : after (exec (.pspWriteFrame 0 2 500 (answers 2 500) (answers 2 0)) (gated false)) (fun t =>
      (t.lane 0).fmt.holds 2 == 500) = true ∧
    after (exec (.pspWriteFrame 0 2 500 (answers 2 1) (answers 2 0)) (gated false)) (fun t => (t.lane 0).fmt.refused && (t.lane 0).fmt.write == none) = true ∧
    after (exec (.pspWriteFrame 0 2 500 (answers 2 500) (answers 2 0)) (gated true)) (fun t => (t.lane 0).fmt.waiting == [(2, 500)]) = true ∧
    after (exec (.pspReadFrame 0 0x0A (answers 0x0A 0)) (onLane (gated false) fun l => { l with fmt := { l.fmt with pfaultN := false } })) (fun t =>
      (t.lane 0).fmt.pfaultN) = true := by decide +kernel
theorem witness_psp_access : after (exec (.pspAccessGo 0 (.port 0) 0x80050001 (answers 5 1) (answers 5 1)) locked1) (fun t =>
      t.get (Reg.FMT_PSP_ACCESS_ERR 0) == 1 && t.out.isEmpty) = true ∧
    after (exec (.pspAccessGo 0 (.port 0) 0xC0100000 (answers 0x10 77) (answers 0x10 1)) locked1) (fun t => t.get (Reg.FMT_PSP_ACCESS_DATA 0) == 77) = true := by
  decide +kernel

/-- CRC-8 of the preamp port: check value of polynomial 0x07 over the digits 1 to 9. -/
theorem test_crc8 : crc8 [0x31, 0x32, 0x33, 0x34, 0x35, 0x36, 0x37, 0x38, 0x39] = 0xF4 := by decide +kernel
/-- A stale group whose data sectors hold one known byte each. -/
def staleGroup : State :=
  let s := (List.range 16).foldl (fun s p => s.writeMedia p (leBytes 2 (p + 1)) [] none true) (writing.put Reg.KLN_STATUS_WRITE_OPEN 1)
  { s with stale := [(0, 0, 0)] }
/-- The rebuild reads the group as an operation of the device's own; at its end, with every sector delivered, Q0 is written and the stale bit
cleared, and with sector 5 reported it stays. -/
theorem witness_rebuild : staleGroup.groupParity (0, 0, 0) = [16] ∧ after (exec (.parityRebuild 0 0 0 0) staleGroup) (fun t =>
      t.stale == [(0, 0, 0)] && (t.sched 0).length == 2 && t.rebuilds == [((0, 0, 0), false)]) = true ∧
    after (exec (.parityRebuild 0 0 0 0) { staleGroup with scheds := staleGroup.scheds.set 0 [] }) (fun t =>
      after (exec (.mediaOperationEnd 0 false) (onLane t fun l => { l with chan := { l.chan with delivered := List.range 16 } })) (fun u =>
        u.stale == [] && ((u.mediaAt 16).map (·.data)) == some [0x10, 0]) &&
      after (exec (.mediaOperationEnd 0 false) (onLane t fun l => { l with chan := { l.chan with
          delivered := (List.range 16).erase 5, failed := [(5, causeReported)] } })) (fun u =>
        u.stale == [(0, 0, 0)] && u.rebuilds == [])) = true := by decide +kernel
/-- R283: two erased sectors come back from Q0 and Q1. -/
theorem test_two_erasures : let d := [[0x1234, 7], [0x8001, 0xFFFF], [0x00FF, 0x5A5A]]
    solveGroup [none, some [0x8001, 0xFFFF], none] (some (parityQ0 d)) (some (parityQ1 d)) = some d := by decide +kernel
theorem witness_stale_save : after (exec .staleBitmapSave staleGroup) (fun t => (t.lane 0).sys.stale == [(0, 0, 0)]) = true := by decide +kernel

/-! ## Chapter 9 -/

/-- A lane with failed sectors on two tracks. -/
def failing : State := onLane (lane1 9) fun l => { l with chan := { l.chan with failed := [(5, 1), (3, 2), (2 ^ 14, 1)] } }
/-- The default ladder of R308 begins with EXT_ITER: limits 64 and 16, and the targets are those of one track. -/
theorem witness_ladder_start : failing.sched 0 = [] ∧ failing.withinLimit 0 ⟨[], 0, 0, 0, failing.sec16 secLadder 2, 0, false, false, 0, [], []⟩ (failing.predictUs 0 0) = true ∧
    after (exec (.ladderStart 0) failing) (fun t => (t.lane 0).rcv.ladder.map (·.targets) == some [3, 5] &&
    (t.lane 0).chan.failed == [(2 ^ 14, 1)] && t.get (Reg.CHN_CTRL_RECOVERY 0) == 1 && t.get (Reg.CHN_ITER_LIMIT_REC_LOCAL 0) == 64 &&
    t.get (Reg.CHN_RCV_STATUS_OUTSTANDING 0) == 2) = true := by decide +kernel
/-- R312: level 15 runs step 1 only, level 9 the steps 1, 2, 4, 6, 8 where two readers are in use. -/
theorem test_levels : (failing.nextAttempt 0 ⟨[5], 0, 0, 0, 0, 15, false, false, 0, [], []⟩ 160 1 0).1 = none ∧
    (failing.nextAttempt 0 ⟨[5], 0, 0, 0, 0, 9, false, false, 0, [], []⟩ 160 1 0) = (some (5, 0), true) := by decide +kernel
/-- A ladder with one target. -/
def laddering (delivered : List Nat) : State := onLane failing fun l => { l with
  rcv := { l.rcv with ladder := some ⟨[5], 1, 0, 0, 3000, 0, false, false, 0, [], []⟩ }, chan := { l.chan with delivered := delivered } }
theorem witness_attempt : after (exec (.ladderAttempt 0 8333 []) (laddering [5])) (fun t => (t.lane 0).rcv.ladder == none &&
    t.get (Reg.CHN_RCV_OK_COUNT 0 1) == 1 && t.get (Reg.CHN_RCV_ELAPSED_US 0) == 8333) = true := by decide +kernel
theorem witness_time_limit : after (exec (.ladderTimeLimit 0 8333) (laddering [])) (fun t => (t.lane 0).rcv.pending == [5] &&
    t.get (Reg.CHN_RCV_TIMEOUT_COUNT 0) == 1) = true := by decide +kernel
/-- A sector that waits for its last verify read. -/
def verifying : State := onLane (lane1 9) fun l => { l with rcv := { l.rcv with marked := [(5, 1)], pending := [5] } }
theorem witness_verify : after (exec (.inPlaceVerify 0 5 true) verifying) (fun t => (t.lane 0).rcv.pending == [] && (t.lane 0).rcv.marked == []) = true ∧
    verifying.freeSpare 0 5 = none ∧ after (exec (.inPlaceVerify 0 5 false) verifying) (fun t => (t.lane 0).rcv.pending == [5]) = true := by
  decide +kernel
/-- The same on a surface with spare tracks (GEOMETRY with tracks 0 to 1,000, ten sectors a track). -/
def sparing : State := { verifying with boot := { verifying.boot with image := some (imageOf [(1, geo1),
  (3, leBytes 2 1 ++ leBytes 2 0 ++ zeros 12 ++ zeros 12 ++ leBytes 2 10 ++ zeros 114)]) } }
theorem witness_realloc : (sparing.freeSpare 0 5).isSome = true ∧ after (exec (.inPlaceVerify 0 5 false) sparing) (fun t =>
    (t.lane 0).rcv.grown == [5] && (t.lane 0).rcv.pending == [] && (t.lane 0).rcv.remap.map (·.1) == [5]) = true := by decide +kernel

/-- The example of R314: +5, −2, +3 give +2; −9 more gives −1. -/
theorem test_soft_combine : combineLlrs 3 (addLlrs (addLlrs (addLlrs [] [5]) [-2]) [3]) = [2] ∧ combineLlrs 4 (addLlrs [6] [-9]) = [-1] := by
  decide +kernel

/-! ## Chapter 10 -/

/-- R329: both examples of the conversion. -/
theorem test_q : q 0x1238000 = 292 ∧ q 0x7FFF9000 = 32767 := by decide
/-- R361: quarter turns of the sine. -/
theorem test_sine : [sine15 0 2, sine15 16384 2, sine15 32768 2, sine15 49152 2] = [0, 32767, 0, -32768] ∧
    (List.range 5).all (fun i => decide ((sine15 5461 i - 16383).natAbs ≤ 2)) = true := by decide +kernel

/-- SERVO_BANKS with eight bands from 3,000 rpm in steps of 600 and 20 rpm of hysteresis (R359). -/
def bandImage : Image := imageOf [(1, geo1), (5, [8, 0, 20, 0] ++ ([3000, 3600, 4200, 4800, 5400, 6000, 6600, 7200].map (leBytes 2)).flatten ++ zeros 44),
  (15, zeros 0x100 ++ leBytes 4 78643200 ++ leBytes 4 67108864 ++ leBytes 4 134217728 ++ leBytes 4 67108864 ++ leBytes 2 7200 ++ leBytes 2 32768 ++
    leBytes 2 4096 ++ leBytes 2 100 ++ leBytes 2 614 ++ zeros 20 ++ [1] ++ zeros 17)]
/-- A lane on track 1,023 in FOLLOW: an integrator of gain 0.5 and no section, INNER 50, OUTER 2,000. -/
def following : State :=
  let s := { lane1 9 with boot := { (lane1 9).boot with image := some bandImage } }
  let law := [0, 3, 0, 0x40] ++ zeros 156
  (onLane s fun l => { l with sek := { l.sek with phase := .onTrack, target := 1023 }
                              sve := { l.sve with mode := 3, active := law ++ law ++ zeros 48 ++ leBytes 2 2000 ++ leBytes 2 50 ++ [2] ++ zeros 27 } }).put
    (Reg.SVE_STATUS_MODE 0) 3
/-- R359: a fall to 3,600 rpm from band 7 ends in band 1, and 7,180 rpm leaves band 7 alone. -/
theorem test_bands : [following.bandFrom 3600 8 7, following.bandFrom 7180 8 7, following.bandFrom 7179 8 7, following.bandFrom 4219 8 1,
    following.bandFrom 4220 8 1] = [1, 7, 6, 1, 2] := by decide +kernel

/-- R383's example: k = 1,023, N = −1,200, Q = −400, RRO −37 on track 1,023. -/
def wedge383 : Demod := ⟨some 96, 5, 4 * 0x200 + 2, -1200, -400, 4 * 0xFFDB + 3⟩
def env0 : SampleEnv := ⟨12000, [], 13021, false, 0, 600⟩
theorem test_position : following.position 0 wedge383 = 4191269 := by decide +kernel
theorem witness_follow : (following.checkSample 0 wedge383).ok = true ∧ after (exec (.servoSample 0 wedge383 env0) following) (fun t =>
      (t.lane 0).sve.mode == 3 && t.get (Reg.SVE_PES_E_TF 0) == 1061 && (t.lane 0).sve.followI == 1061 * 32768 && (t.lane 0).sve.u1 == 531 &&
      t.get (Reg.SVE_STATUS_VALID 0) == 1) = true ∧
    after (exec (.servoSample 0 wedge383 env0) (following.setSve 0 { (following.lane 0).sve with sat := true })) (fun t =>
      (t.lane 0).sve.followI == 0 && !(t.lane 0).sve.sat && t.get (Reg.SVE_STATUS_FROZEN 0) == 1) = true := by decide +kernel
/-- An offset of −1,024 puts e_tf at 2,085, above OUTER. -/
theorem witness_to_settle : after (exec (.servoSample 0 wedge383 env0) (following.setSve 0 { (following.lane 0).sve with offset := -1024, u1 := 700 }))
    (fun t => (t.lane 0).sve.mode == 2 && (t.lane 0).sve.u1 == 700 && t.get (Reg.SVE_STATUS_DWELL_CNT 0) == 0) = true := by decide +kernel
theorem witness_invalid : after (exec (.servoSample 0 { wedge383 with sam := none } env0)
      (following.setSve 0 { (following.lane 0).sve with u1 := 9, uma := 4 })) (fun t => t.whl.acts[(0 : Fin 4)] == some (9, 4) &&
      t.get (Reg.SVE_STATUS_INVALID_RUN 0) == 1 && t.get (Reg.SVE_CNT_INVALID_COUNT 0) == 1) = true ∧
    after (exec (.servoSample 0 { wedge383 with sam := none } env0) (following.put (Reg.SVE_STATUS_INVALID_RUN 0) 2)) (fun t =>
      (t.lane 0).sve.mode == 4 && t.get (Reg.SVE_STATUS_MODE 0) == 4) = true := by decide +kernel
theorem witness_swap : after (exec (.servoSample 0 { wedge383 with sam := none } env0)
      ((following.setSve 0 { (following.lane 0).sve with followI := 77, shadow := [1] ++ zeros 399 }).put (Reg.SVE_CTRL_ARM 0) 1)) (fun t =>
      (t.lane 0).sve.active == [1] ++ zeros 399 && (t.lane 0).sve.followI == 77 && t.get (Reg.SVE_CNT_SWAP_COUNT 0) == 1 &&
      t.get (Reg.SVE_CTRL_ARM 0) == 0) = true := by decide +kernel
theorem witness_bumpless : (following.trackLaw 0 { (following.lane 0).sve with u1 := 700, mode := 2 } true 900 0 0 0).2.2.2.1 = wide 700 := by
  decide +kernel

theorem witness_arm : after (exec (.sveArm 0 (.port 0)) locked1) (fun t => t.get (Reg.SVE_CTRL_ARM 0) == 0) = true ∧
    after (exec (.sveArm 0 (.port 0)) (locked1.put (Reg.SVE_CTRL_AUTO 0) 0)) (fun t => t.get (Reg.SVE_CTRL_ARM 0) == 1) = true := by
  decide +kernel
theorem witness_offset : after (exec (.tfOffsetWrite 0 (.port 0) 164) locked1) (fun t => (t.lane 0).sve.offset == 164) = true ∧
    after (exec (.tfOffsetWrite 0 (.port 0) 0xFFFFFF5C) (locked1.setFmt 0 { (locked1.lane 0).fmt with wgate := true })) (fun t =>
      (t.lane 0).sve.offset == 0 && (t.lane 0).sve.offsetHeld == some (-164) && t.get (Reg.SVE_TF_OFFSET_HELD 0) == 1) = true ∧
    after (exec (.tfOffsetWrite 0 (.port 0) 1025) locked1) (fun t => t.get (Reg.SVE_TF_OFFSET_OFFSET 0) == 0) = true := by decide +kernel
theorem witness_injection : after (exec (.injRun 0 (.port 0) 0x88000400) locked1) (fun t => (t.lane 0).sve.injStart &&
      t.get (Reg.SVE_INJ_CTRL_RUN 0) == 1 && t.get (Reg.SVE_INJ_CTRL_POINT 0) == 1 &&
      after (exec (.injStop 0 (.port 0)) t) (fun u => (u.lane 0).sve.injStop)) = true ∧
    after (exec (.injRun 0 (.port 0) 0x82000400) locked1) (fun t => t.get (Reg.SVE_INJ_CTRL_ERR 0) == 1 &&
      t.get (Reg.SVE_INJ_CTRL_RUN 0) == 0) = true := by decide +kernel
theorem witness_capture : after (exec (.capGo 0 (.port 0) 0xB6700000) locked1) (fun t => t.get (Reg.SVE_CAP_STATUS_ARMED 0) == 1 &&
      t.get (Reg.SVE_CAP_CTRL_TRIG 0) == 3 && after (exec (.capAbort 0 (.port 0)) t) (fun u =>
        u.get (Reg.SVE_CAP_STATUS_ARMED 0) == 0)) = true := by decide +kernel
/-- A capture of one entry with SEL_A 1 (e_tf) and SEL_B 0 (e), from the next sample on (R363). -/
theorem test_capture : after (exec (.servoSample 0 wedge383 env0) (((following.put (Reg.SVE_CAP_STATUS_ARMED 0) 1).put (Reg.SVE_CAP_CTRL_SEL_A 0) 1).put
    (Reg.SVE_CAP_COUNT_COUNT 0) 1)) (fun t => (t.lane 0).sve.capture == [(0, BitVec.ofNat 32 (1061 + 1061 * 65536))] &&
      t.get (Reg.SVE_CAP_STATUS_DONE 0) == 1) = true := by decide +kernel

/-! ## Chapter 11 -/

/-- R389's example: 1,000 tracks at 7,200 and at 3,600 rpm. -/
theorem test_plans : planSearch 1000 1200 4 (1 / 2) 100 4 = (8, 4, 1) ∧ planSearch 1000 2400 16 4 100 4 = (4, 2, 1) := by decide +kernel
theorem witness_plan : (⟨8, 4, 1, 4096000, 0, true, 0, 0⟩ : Plan).ref 41 = 4096000 ∧ (⟨8, 4, 1, 4096000, 0, true, 0, 0⟩ : Plan).ref 0 = 0 := by
  decide +kernel
/-- Lane 0 in a phase of SEK, at track 9 of head 0. -/
def inPhase (p : SekPhase) : State := onLane (lane1 9) fun l => { l with sek := { l.sek with phase := p, head := some 0, target := 9 } }
theorem witness_seek : after (exec (.seek 0 0 9) (inPhase .onTrack)) (fun t => (t.lane 0).sek.phase == .onTrack) = true ∧
    after (exec (.seek 0 0 8) (inPhase .onTrack)) (fun t => (t.lane 0).sek.phase == .starting ⟨1, 0, 8⟩ false &&
      (t.lane 0).sve.mode == 0 && t.get (Reg.SEK_STATUS_STATE 0) == 2) = true ∧
    after (exec (.seek 0 1 9) (inPhase .onTrack)) (fun t => (t.lane 0).sek.phase == .starting ⟨1, 1, 9⟩ false && (t.lane 0).sve.mode == 4) = true ∧
    after (exec (.seek 0 0 8) (inPhase .parkDrive)) (fun t => (t.lane 0).sek.queued == some ⟨1, 0, 8⟩ && t.get (Reg.SEK_CMD_GO 0) == 1) = true ∧
    after (exec (.seek 0 0 8) (inPhase .parked)) (fun t => t.get (Reg.SEK_STATUS_ERR 0) == 1) = true := by decide +kernel
theorem witness_load : after (exec (.load 0 0 0) (inPhase .parked)) (fun t => t.get (Reg.SEK_STATUS_ERR 0) == 1) = true ∧
    after (exec (.load 0 0 0) ((inPhase .parked).put Reg.WHL_STATUS_AT_SPEED 1)) (fun t => (t.lane 0).sek.phase == .loading ⟨2, 0, 0⟩ 0 0 &&
      after (exec (.loadTimeout 0) t) (fun u => (u.lane 0).sek.phase == .parkDrive)) = true := by decide +kernel
theorem witness_park : after (exec (.park 0) (inPhase .parked)) (fun t => t.get (Reg.SEK_STATUS_ERR 0) == 0 && (t.lane 0).sek.phase == .parked) = true ∧
    after (exec (.park 0) (inPhase .onTrack)) (fun t => (t.lane 0).sek.phase == .starting ⟨3, 0, 0⟩ true) = true ∧
    after (exec (.parkLowVelocity 0) (inPhase .parkDrive)) (fun t => (t.lane 0).sek.phase == .latching false) = true ∧
    after (exec (.retractDriveEnd 0) (inPhase .retracting)) (fun t => (t.lane 0).sek.phase == .latching true) = true ∧
    after (exec (.latchEnd 0) (inPhase (.latching true))) (fun t => (t.lane 0).sek.phase == .parked && (t.lane 0).sek.head == none) = true := by
  decide +kernel
/-- A seek of track 10 to 1,000 starts at a valid sample and enters SEEK with the counts of R389's example (R387, R391). -/
theorem test_seek_start : after (exec (.servoSample 0 ⟨some 96, 5, 4 * 13 + 2, 0, 900, 0⟩ env0) (onLane following fun l => { l with
      sek := { l.sek with phase := .starting ⟨1, 0, 1000⟩ false, target := 9, head := some 0 } })) (fun t => (t.lane 0).sve.mode == 1 &&
      t.get (Reg.SEK_PLAN_A_NJ 0) == 8 && t.get (Reg.SEK_STATUS_LEFT 0) == 40) = true := by decide +kernel

/-! ## Chapter 12 -/

/-- R415: SPINDLE with 4 pole pairs, 2 attempts, 7,200 rpm within 3,000 to 10,800, ALIGN_CURRENT 8,000, RAMP_CURRENT 9,000, I_MAX 20,000 and
BRAKE_RPM 600; SPIN_POLICY at its defaults. -/
def spindleImage : Image := imageOf [(1, geo1), (15, [4, 2] ++ leBytes 2 0 ++ leBytes 2 7200 ++ leBytes 2 3000 ++ leBytes 2 10800 ++ leBytes 2 300 ++
    leBytes 2 8000 ++ leBytes 2 5 ++ leBytes 2 60 ++ leBytes 2 1500 ++ leBytes 2 9000 ++ [24, 20, 30, 1] ++ leBytes 2 20000 ++ leBytes 2 200 ++
    leBytes 2 0 ++ leBytes 4 1000000 ++ leBytes 4 10000 ++ leBytes 4 10000 ++ leBytes 2 200 ++ leBytes 2 20 ++ leBytes 2 600 ++ zeros 206 ++ zeros 256),
  (8, leBytes 2 3600 ++ leBytes 2 7200 ++ leBytes 2 300 ++ [60, 85] ++ leBytes 2 1000 ++ leBytes 2 60 ++ leBytes 2 120 ++ zeros 18)]
/-- Wheel in a state, with the Motor Link taken over and up. -/
def wheelIn (k : Nat) : State :=
  let s := { lane1 9 with boot := { (lane1 9).boot with image := some spindleImage, nsReadyRaised := true } }
  ((({ s with pins := { s.pins with taken := [.motor], safeStopN := true } }).put Reg.WHL_STATUS_STATE k).put Reg.WHL_STATUS_LINK_UP 1).put
    Reg.IMG_BOOT_STATUS_LOCKED 1
def linkless : State := (wheelIn 0).put Reg.WHL_STATUS_LINK_UP 0
theorem witness_sync : after (exec .syncFrame linkless) (fun t => t.whl.syncs == 1 && t.get Reg.WHL_STATUS_LINK_UP == 0) = true ∧
    after (exec .syncFrame (linkless.setWhl { linkless.whl with syncs := 7 })) (fun t => t.get Reg.WHL_STATUS_LINK_UP == 1) = true ∧
    after (exec (.downlinkFrameSlot 12000) linkless) (fun t => t.out == [.mlFrame 0xF05A5AA5A5C33C30]) = true := by decide +kernel
theorem witness_samples : after (exec (.spinSample ⟨-3, 0, false, 0, 100⟩) (wheelIn 4)) (fun t => t.get Reg.WHL_DRIVE_IPH == 0xFFFD) = true ∧
    after (exec (.spinSample ⟨-3, 0, true, 40, 100⟩) ((wheelIn 4).setWhl { (wheelIn 4).whl with missing := 2 })) (fun t => t.whl.missing == 0 &&
      t.whl.lastZc == some 60) = true ∧
    after (exec (.actSample 0 5 0) (onLane (wheelIn 4) fun l => { l with sek := { l.sek with phase := .onTrack } })) (fun t =>
      (t.lane 0).sve.iCoil == 5) = true ∧
    after (exec (.statusFrame ⟨4, 1, 77, 12000⟩) (((wheelIn 4).setWhl { (wheelIn 4).whl with regSent := true }).put Reg.WHL_REG_ACCESS_GO 1)) (fun t =>
      t.get Reg.WHL_STATUS_FAULT == 4 && t.get Reg.WHL_REG_ACCESS_DATA == 77 && t.get Reg.WHL_REG_ACCESS_GO == 0) = true := by decide +kernel
theorem witness_discard : after (exec (.uplinkFrameDiscard true 0) (wheelIn 4)) (fun t => t.whl.badRun == 1 && t.get Reg.WHL_CNT_ML_CRC_COUNT == 1) = true ∧
    after (exec (.uplinkFrameDiscard false 2) ((wheelIn 4).setWhl { (wheelIn 4).whl with badRun := 2 })) (fun t => t.whlState == 7 &&
      !t.pins.safeStopN && t.get Reg.WHL_STATUS_LINK_UP == 0) = true ∧
    after (exec .uplinkNoClock (wheelIn 4)) (fun t => t.whlState == 7 && !t.pins.safeStopN &&
      after (exec .motorLinkRecovered (t.put Reg.WHL_STATUS_LINK_UP 1)) (fun u => u.pins.safeStopN && u.whlState == 1)) = true := by decide +kernel
theorem witness_downlink : after (exec (.downlinkFrameSlot 12000) ((wheelIn 4).setBridge .rectify)) (fun t => !t.whl.modePending && t.out.length == 1) = true ∧
    after (exec (.downlinkFrameSlot 12000) ({ wheelIn 4 with whl := { (wheelIn 4).whl with acts := (wheelIn 4).whl.acts.set 2 (some (1, -1)) } })) (fun t =>
      t.whl.acts[(2 : Fin 4)] == none && t.out == [.mlFrame (mlFrame 2 1 0x900001FFFF00)]) = true := by decide +kernel
theorem witness_reg_access : after (exec (.regAccessGo (.port 0) 0x00120000) linkless) (fun t => t.get Reg.WHL_REG_ACCESS_ERR == 1 &&
      t.get Reg.WHL_REG_ACCESS_GO == 0) = true ∧
    after (exec (.regAccessGo (.port 0) 0x00120000) (wheelIn 4)) (fun t => t.get Reg.WHL_REG_ACCESS_GO == 1 && t.get Reg.WHL_REG_ACCESS_ADDR == 0x12 &&
      after (exec (.regAccessGo (.port 0) 0) t) (fun u => decide (u.regs = t.regs))) = true := by decide +kernel

theorem witness_start : after (exec .senseEnd (wheelIn 1)) (fun t => t.whlState == 2 && t.get Reg.WHL_DRIVE_IREF == 8000 && t.whl.mode == .run &&
      after (exec (.alignEnd 500) t) (fun u => u.whlState == 3 && u.get Reg.WHL_DRIVE_IREF == 9000)) = true ∧
    after (exec .crossingQuietTimeout ((wheelIn 1).setWhl { (wheelIn 1).whl with seen := true })) (fun t => t.whlState == 2) = true := by decide +kernel
theorem witness_ramp_end : after (exec .rampEnd ((wheelIn 3).setWhl { (wheelIn 3).whl with attempt := 1, starting := true })) (fun t => t.whlState == 1 &&
      t.whl.attempt == 2) = true ∧
    after (exec .rampEnd ((wheelIn 3).setWhl { (wheelIn 3).whl with attempt := 2, starting := true })) (fun t => t.whlState == 8 && !t.whl.starting) = true ∧
    after (exec .spinupTimeout ((wheelIn 3).setWhl { (wheelIn 3).whl with starting := true })) (fun t => t.whlState == 8) = true ∧
    after (exec (.commutationStep 9000000) ((wheelIn 3).setWhl { (wheelIn 3).whl with rampStart := some 0, lastStep := 0 })) (fun t => t.whl.step == 1 &&
      t.whl.lastStep == 6666666) = true := by decide +kernel
/-- R421: 24 intervals of 347.2 µs are 7,200 rpm. -/
theorem test_speed : (wheelIn 4).speedEstimate (List.replicate 24 69444) = 7200 := by decide +kernel
theorem witness_commutate : after (exec (.commutationStep 9000000) ((wheelIn 4).setWhl { (wheelIn 4).whl with due := some 69444, intervals := List.replicate 24 69444 })) (fun t =>
      t.get Reg.WHL_SPEED_S == 7200 && t.whl.step == 1 && t.whlState == 4) = true ∧
    after (exec (.zeroCrossingMissing 69444) ((wheelIn 4).setWhl { (wheelIn 4).whl with intervals := [69444] })) (fun t => t.whl.missing == 1 &&
      t.whl.step == 1 && t.whl.lastStep == 69444) = true ∧
    after (exec (.zeroCrossingMissing 69444) ((wheelIn 4).setWhl { (wheelIn 4).whl with missing := 2, mode := .run })) (fun t => t.whlState == 1 &&
      t.whl.mode == .off) = true := by decide +kernel
theorem witness_motor_fault : after (exec (.motorFaultNFall 1 12000) (wheelIn 4)) (fun t => t.whlState == 0 && t.get Reg.WHL_STATUS_FAULT == 1 &&
      t.whl.faultOff && after (exec .motorFaultClear t) (fun u => u.whlState == 1 && u.pins.motorFaultN && !u.whl.faultOff)) = true ∧
    after (exec (.motorFaultNFall 1 12000) (lane1 4)) (fun t => !t.pins.motorFaultN && t.get Reg.WHL_STATUS_MOTOR_FAULT == 0) = true := by decide +kernel

/-- Wheel in closed loop after its first decision, at a speed with a policy, lane 0 busy for `a` per cent of the last second and `b` per cent
of the last minute. -/
def busyLane (speed policy a b : Nat) : State :=
  let w := (wheelIn 4).whl
  let s := ((wheelIn 4).setWhl { w with policy := policy, decided := true, busy := w.busy.set 0 [(0, b * 600 - a * 10), (60000 - a * 10, 60000)] }).put
    Reg.WHL_SPEED_S speed
  { s with crn := { s.crn with elapsed := 60000, opTime := 60000 } }
theorem test_busy : ((busyLane 3600 3600 78 33).busyMost 1000, (busyLane 3600 3600 78 33).busyMost 60000) = (78, 33) := by decide +kernel
/-- R430's example: the decisions at 0, 1, 2 and 60 s. -/
theorem test_policy : ([(3600, 3600, 78), (3800, 4800, 74)].map fun (s, p, u) => after (exec (.spinPolicyDecision .down .up) (busyLane s p u 60)) (fun t => t.whl.policy == 4800)) = [true, true] ∧
    after (exec (.spinPolicyDecision .down .up) (busyLane 4000 4800 90 60))
      (fun t => t.whl.policy == 7200) = true ∧
    after (exec (.spinPolicyDecision .down .up) (busyLane 7200 7200 41 33))
      (fun t => t.whl.policy == 4200 && t.whl.lastDecrease == some 60000 &&
        after (exec (.spinPolicyDecision .down .up) t) (fun u => u.whl.policy == 4200)) = true := by decide +kernel
/-- A sequencer that runs. -/
def running (s : State) (q : SeqIx) : State := s.setSeq q { s.seq q with run := .running }
theorem witness_override : after (exec (.whlOverrideWrite (.seq 0) 0x80001388) (running (wheelIn 4) 0)) (fun t => t.get Reg.WHL_OVERRIDE_EN == 0) = true ∧
    after (exec (.whlOverrideWrite (.seq 0) 0x800012C0) (running (wheelIn 4) 0)) (fun t => t.get Reg.WHL_OVERRIDE_EN == 1 &&
      t.get Reg.WHL_OVERRIDE_RPM == 4800 && t.get Reg.WHL_TARGET_T == 4800) = true ∧
    after (exec (.whlOverrideWrite (.seq 0) 0x1388) (running (wheelIn 4) 0)) (fun t => t.get Reg.WHL_OVERRIDE_RPM == 5000) = true := by decide +kernel
theorem witness_stops : after (exec .orderlyStop ((wheelIn 4).setWhl { (wheelIn 4).whl with stopWanted := true, mode := .run })) (fun t => t.whlState == 5 &&
      t.whl.mode == .off && !t.whl.stopWanted && after (exec .spindleRest t) (fun u => u.whlState == 0)) = true ∧
    after (exec .orderlyStop (onLane ((wheelIn 4).setWhl { (wheelIn 4).whl with stopWanted := true }) fun l => { l with sek := { l.sek with phase := .onTrack } }))
      (fun t => t.whlState == 4 && t.whl.stopWanted) = true ∧
    after (exec .rectifyEnd ((wheelIn 6).setWhl { (wheelIn 6).whl with mode := .rectify })) (fun t => t.whlState == 0 && t.whl.mode == .off &&
      t.lko.supplyDone) = true := by decide +kernel

/-! ## Chapter 13 -/

/-- R454's example: page byte 10 lies in codeword position 38, the low byte, chip 2; error 1 there has these syndromes. -/
theorem test_page_code : symbolPlace 10 = (38, 2, false) ∧ [gfPower 16 1, gfPower 32 1, gfPower 38 1] = [0x100B, 0x1BFE, 0x9FBA] ∧
    [pageSyndrome [(38, 1)] 0, pageSyndrome [(38, 1)] 1] = [1, 0x9FBA] := by decide +kernel
/-- A trained buffer: one subchannel of one rank of 8 Gb devices, AUTO_DEAD after 2 overflows, CHIP_THRESH 64, TRANS_THRESH 4 and
REBUILD_WEIGHT 16. -/
def buffered : State :=
  let s := { lane1 9 with boot := { (lane1 9).boot with image := some (imageOf [(1, geo1), (2, [1, 0, 1, 1, 4, 2] ++ leBytes 2 64 ++ leBytes 2 3600 ++
    leBytes 2 4 ++ leBytes 2 3600 ++ [16, 0] ++ zeros 16)]) } }
  (s.put Reg.BUF_STATE_TRAINED 1).put Reg.IMG_BOOT_STATUS_LOCKED 1
/-- R448: 63/64 of 4 GiB. -/
theorem test_pages : buffered.bufPages = 1032192 ∧ buffered.spareBase = 1028096 := by decide +kernel
theorem witness_transient : after (exec .caParityAlert buffered) (fun t => t.get Reg.BUF_TBUCKET_LEVEL == 1 && t.get Reg.BUF_CNT_CA_PARITY_COUNT == 1) = true ∧
    after (exec .caParityAlert (buffered.put Reg.BUF_TBUCKET_LEVEL 3)) (fun t => t.get Reg.BUF_TBUCKET_LEVEL == 2 && t.get Reg.BUF_TBUCKET_OVF == 1) = true ∧
    after (exec .transientBucketLeak (buffered.put Reg.BUF_TBUCKET_LEVEL 3)) (fun t => t.get Reg.BUF_TBUCKET_LEVEL == 2) = true ∧
    after (exec .chipBucketLeak (buffered.put (Reg.BUF_BUCKET_LEVEL 1 0) 3)) (fun t => t.get (Reg.BUF_BUCKET_LEVEL 1 0) == 2 &&
      t.get (Reg.BUF_BUCKET_LEVEL 2 0) == 0) = true := by decide +kernel
/-- R462's example: LEVEL 39, then three rebuilds of weight 16: 55, 71 → 32 with OVF 1, 48. -/
theorem test_buckets : (let s := buffered.put (Reg.BUF_BUCKET_LEVEL 1 0) 39
    [s.chipBucket 0 1 16, (s.chipBucket 0 1 16).chipBucket 0 1 16, ((s.chipBucket 0 1 16).chipBucket 0 1 16).chipBucket 0 1 16].map fun t =>
      (t.get (Reg.BUF_BUCKET_LEVEL 1 0), t.get (Reg.BUF_BUCKET_OVF 1 0))) = [(55, 0), (32, 1), (48, 1)] := by decide +kernel
theorem witness_correction : buffered.pagePoisoned 7 = false ∧ after (exec (.pageCorrectionEnd 7 (.corrected [2] none) false) buffered) (fun t =>
      t.get (Reg.BUF_BUCKET_LEVEL 2 0) == 1 && t.get Reg.BUF_CNT_CORRECTED_COUNT == 1) = true ∧
    after (exec (.pageCorrectionEnd 7 (.corrected [2] (some (2, 0))) false) buffered) (fun t => t.buf.toRetire == [(7, false)]) = true ∧
    after (exec (.pageCorrectionEnd 7 (.corrected [] none) false) buffered) (fun t => t.get (Reg.BUF_BUCKET_LEVEL 4 0) == 1) = true ∧
    after (exec (.pageCorrectionEnd 7 .uncorrectable false) buffered) (fun t => t.buf.poisoned == [7] && (t.bufRead (4096 * 7) 4096).1.isNone &&
      after (exec (.pageCorrectionEnd 7 (.corrected [2] none) false) t) (fun u => u.get Reg.BUF_CNT_CORRECTED_COUNT == 0)) = true ∧
    after (exec (.pageCorrectionEnd 3000 .uncorrectable false) { buffered with buf := { buffered.buf with poisoned := List.range 2048 } }) (fun t =>
      t.buf.overflow == [3000] && t.buf.failed) = true := by decide +kernel
theorem witness_dead : after (exec (.deadReq (.port 0) 0x11) buffered) (fun t => t.get Reg.BUF_DEAD_REQ_ERR == 1) = true ∧
    after (exec (.deadReq (.port 0) 0x01) buffered) (fun t => t.buf.switching == [(0, 1)] && t.groupState 0 == 0 &&
      after (exec .shardModeSwitch t) (fun u => u.groupState 0 == 9 && after (exec .patrolScrubPass u) (fun w =>
        w.get Reg.BUF_CNT_SHARD_VERIFY_COUNT == 1032192) && after (exec (.deadReq (.port 0) 0x02) u) (fun w => w.groupState 0 == 0xF && w.bufDown))) = true := by
  decide +kernel
theorem witness_retire : after (exec (.retireReq (.port 0) 1028096) buffered) (fun t => t.get Reg.BUF_RETIRE_REQ_ERR == 1) = true ∧
    after (exec (.retireReq (.port 0) 9) buffered) (fun t => t.buf.toRetire == [(9, true)] && t.get Reg.BUF_RETIRE_REQ_GO == 1) = true ∧
    after (exec .pageRetire { buffered with buf := { buffered.buf with toRetire := [(9, false)] } }) (fun t => t.spareOf 9 == some 0 &&
      after (exec (.retireReq (.port 0) 9) t) (fun u => u.get Reg.BUF_RETIRE_REQ_ERR == 1)) = true ∧
    after (exec .pageRetire ({ buffered with buf := { buffered.buf with toRetire := [(9, false)] } }.put Reg.BUF_RETIRE_STATUS_ENTRIES 4096)) (fun t =>
      t.buf.unretired == [9] && t.get Reg.BUF_RETIRE_STATUS_ENTRIES == 4096) = true := by decide +kernel
theorem witness_inject : after (exec (.bufInjectArm (.port 0) 0x22000001) buffered) (fun t => t.get Reg.BUF_INJECT_ARM == 1 &&
      t.get Reg.BUF_INJECT_CHIP == 2 && t.get Reg.BUF_INJECT_BEAT == 2 && ((t.bufWrite 0 [5]).buf.faults == [(0, 2, 2, 1)])) = true := by decide +kernel

/-- R454's example: chip 2 reads 0xA4 in place of 0xA5. -/
theorem test_beat : takeBeat none [0x3C, 0x11, 0xA4, 0x07, 0x8F] = ([0x3C, 0x11, 0xA4, 0x07], true) ∧
    takeBeat none [0x3C, 0x11, 0xA5, 0x07, 0x8F] = ([0x3C, 0x11, 0xA5, 0x07], false) ∧
    takeBeat (some 2) [0x3C, 0x11, 0xA4, 0x07, 0x8F] = ([0x3C, 0x11, 0xA5, 0x07], false) := by decide

/-! ## Chapter 14 -/

/-- The check value of R496. -/
theorem test_crc64 : crc64 0 [0x31, 0x32, 0x33, 0x34, 0x35, 0x36, 0x37, 0x38, 0x39] = 0xAE8B14860A799888 := by decide +kernel
/-- Channel 13, enabled, as a ring (mode 0) or direct (1), at rest. -/
def chan13 (mode : Nat) : State := (locked1.put (Reg.BMV_CH_CTRL_EN 13) 1).put (Reg.BMV_CH_CTRL_MODE 13) mode
theorem witness_kick : after (exec (.bmvKick 13 (.port 0)) (chan13 0)) (fun t => (t.chan 13).run == .fetch && t.get (Reg.BMV_CH_STATUS_TRIG_PEND 13) == 1) = true ∧
    after (exec (.bmvKick 13 (.port 0)) ((chan13 0).put (Reg.BMV_CH_STATUS_HALTED 13) 1)) (fun t => (t.chan 13).run == .idle &&
      t.get (Reg.BMV_CH_STATUS_TRIG_PEND 13) == 1 && after (exec (.bmvResume 13 (.port 0)) t) (fun u => (u.chan 13).run == .fetch)) = true ∧
    after (exec (.bmvAbort 13 (.port 0)) (chan13 0)) (fun t => t.get (Reg.BMV_CH_STATUS_HALTED 13) == 1) = true ∧
    after (exec (.bmvKick 3 (.port 0)) locked1) (fun t => decide (t.regs = locked1.regs)) = true := by decide +kernel
theorem witness_enable : after (exec (.bmvEnableWrite 13 (.port 0) 0x01000004) locked1) (fun t => (t.chan 13).run == .fetch &&
      t.get (Reg.BMV_CH_CTRL_RING_SIZE 13) == 4) = true ∧
    after (exec (.bmvEnableWrite 13 (.port 0) 4) locked1) (fun t => (t.chan 13).run == .idle && t.get (Reg.BMV_CH_CTRL_EN 13) == 0) = true ∧
    after (exec (.bmvRingLoWrite 13 (.port 0) 0x4020) locked1) (fun t => t.get (Reg.BMV_CH_RING_LO_BASE_LO 13) == 0x201) = true ∧
    after (exec (.bmvRingLoWrite 13 (.port 0) 0x4020) (chan13 0)) (fun t => t.get (Reg.BMV_CH_RING_LO_BASE_LO 13) == 0) = true := by decide +kernel
theorem witness_arm_shadow : after (exec (.bmvShadowArm 13 (.port 0) 7) (chan13 1)) (fun t => match (t.chan 13).run with
      | .running d => d.direct && d.tag == 7 && t.get (Reg.BMV_SH_CTL_ARM 13) == 0
      | _ => false) = true ∧
    after (exec (.bmvShadowArm 13 (.port 0) 7) ((chan13 1).put (Reg.BMV_SH_CTL_ARM 13) 1)) (fun t => (t.chan 13).run == .idle &&
      t.get ⟨0x50D40, 7, 0⟩ == 0) = true := by decide +kernel
/-- A ring of two in the SRAM at 0x4000, with one descriptor owned by the block mover. -/
def ringing : State :=
  let s := (((chan13 0).put (Reg.BMV_CH_RING_HI_BASE_HI 13) 0x1000).put (Reg.BMV_CH_RING_LO_BASE_LO 13) 0x200).put (Reg.BMV_CH_CTRL_RING_SIZE 13) 2
  (s.sramWrite 0x4000 (leBytes 4 0x80000009 ++ leBytes 4 64)).setMover 13 ⟨.fetch, false⟩
theorem witness_fetch : after (exec (.bmvDescriptorFetch 13 false) ringing) (fun t => match (t.chan 13).run with
      | .running d => d.tag == 9 && d.length == 64 && d.addr == 0x100000004000
      | _ => false) = true ∧
    after (exec (.bmvDescriptorFetch 13 false) (ringing.put (Reg.BMV_CH_STATUS_HEAD 13) 1)) (fun t => (t.chan 13).run == .idle) = true ∧
    after (exec (.bmvDescriptorFetch 13 true) ringing) (fun t => t.get (Reg.BMV_CH_STATUS_HALTED 13) == 1 && t.reg 0x50D10 == 0x0C000000) = true := by
  decide +kernel
/-- A direct descriptor of two lines from SRAM 0x4000 to 0x5000 in work. -/
def moving (len : Nat) : State :=
  ((chan13 1).sramWrite 0x4000 [1, 2, 3]).setMover 13 ⟨.running ⟨0, len, 0x100000004000, 0x100000005000, 0, 0, true, 0⟩, false⟩
theorem witness_move : after (exec (.bmvDescriptorComplete 13 ⟨none, none, none, 0⟩) (moving 128)) (fun t =>
      Memory.read bufDefault t.mover.sram 0x5000 4 == [1, 2, 3, 0] && t.reg 0x50D10 == 2 && t.get (Reg.BMV_CH_STATUS_HALTED 13) == 0) = true ∧
    after (exec (.bmvDescriptorComplete 13 ⟨some 5, none, none, 0⟩) (moving 128)) (fun t => t.reg 0x50D10 == 0x08800002 &&
      Memory.read bufDefault t.mover.sram 0x5050 4 == [0xAD, 0x0B, 0xD0, 0xBA] && t.get (Reg.BMV_CH_STATUS_HALTED 13) == 1) = true ∧
    after (exec (.bmvDescriptorComplete 13 ⟨none, some 1, none, 0⟩) (moving 128)) (fun t => t.reg 0x50D10 == 0x0A000001 &&
      Memory.read bufDefault t.mover.sram 0x5000 3 == [1, 2, 3] && t.get (Reg.BMV_CH_STATUS_HALTED 13) == 1) = true ∧
    after (exec (.bmvDescriptorComplete 13 ⟨none, none, none, 0⟩) (moving 100)) (fun t => t.reg 0x50D10 == 0x01000000 &&
      t.get (Reg.BMV_CH_STATUS_HALTED 13) == 1) = true := by decide +kernel
/-- R501's example on two lines: the last beat, on its way to buffer page 0x4_0000, fails: the page is poisoned and holds the pattern. -/
theorem test_last_beat : after (exec (.bmvDescriptorComplete 13 ⟨some 7, none, none, 0⟩) (buffered.setMover 13 ⟨.running
      ⟨0, 0x80, 0x100000004000, 0x40000000, 0, 0, true, 0⟩, false⟩)) (fun t => t.reg 0x50D10 == 0x08800002 && t.buf.poisoned == [0x40000] &&
      Memory.read bufDefault t.buf.mem 0x40000070 4 == [0xAD, 0x0B, 0xD0, 0xBA] && Memory.read bufDefault t.buf.mem 0x40000088 1 == [1]) = true := by
  decide +kernel

/-! ## Chapter 15 -/

/-- A device whose port 0 is up at 32 GT/s x2 and serves. -/
def linked : State :=
  let x := { (lane1 9).port 0 with perstN := true, linkUp := true, speed := 5, width := 2 }
  (lane1 9).setPort 0 { x with msixEnabled := true, msixUnmasked := [0, 5], msixTable := [(5, 0xFEE00000, 0x41)], cfg := [(1, 6)] }
/-- Its controller is ready, with admin queues and I/O SQs 1 and 2 of four entries on CQ 1 (vector 5), each SQ with two entries. -/
def nvme : State :=
  let sqs : List SubQueue := [⟨0, 4, 0, 0, 0, 0, 0⟩, ⟨1, 4, 0x1000, 1, 0, 0, 2⟩, ⟨2, 4, 0x2000, 1, 1, 3, 1⟩]
  let cqs : List CompQueue := [⟨0, 4, 0, 0, true, 0, 0, true⟩, ⟨1, 4, 0x3000, 5, true, 0, 0, true⟩]
  linked.setCtl 0 { linked.ctl 0 with cc := 1, rdy := true, aqa := 0x30003, sqs := sqs, cqs := cqs }
def flush0 (cid : Nat) : SqEntry := ⟨0, 0, cid, 1, 0, []⟩
/-- A command of SQ 1 that has committed. -/
def done1 (seq : Nat) : Command := { newCommand seq 0 1 (flush0 seq) false with phase := .committed 0 0 }
def withCmds (s : State) (l : List Command) : State := s.setHif { s.hif with cmds := l }
def gone (t : State) (p : Port) : Bool :=
  (t.ctl p).cc == 0 && !(t.ctl p).rdy && (t.ctl p).sqs.isEmpty && (t.ctl p).cqs.isEmpty && t.hif.cmds.isEmpty

theorem witness_resets : nvme.memReach 0 = true ∧ nvme.cache.selfTest = none ∧
    after (exec (.perstNAssert 0) (withCmds nvme [done1 7])) (fun t => gone t 0 && !(t.port 0).linkUp && (t.port 0).cfg == [] && !(t.port 0).perstN) = true ∧
    after (exec (.hotReset 0) nvme) (fun t => gone t 0 && !(t.port 0).linkUp) = true ∧
    after (exec (.linkDown 0) nvme) (fun t => gone t 0 && (t.port 0).perstN) = true ∧
    after (exec (.functionLevelReset 0) nvme) (fun t => gone t 0 && (t.port 0).linkUp && (t.port 0).cfg == []) = true ∧
    after (exec (.ccEnWrite 0 0 0 0 0) nvme) (fun t => gone t 0 && (t.ctl 0).aqa == 0x30003 && (t.port 0).cfg == [(1, 6)]) = true ∧
    after (exec (.nssrWrite 0 0x4E564D65) nvme) (fun t => gone t 0 && !(t.port 0).linkUp) = true ∧
    after (exec (.nssrWrite 0 0x4E564D66) nvme) (fun t => (t.ctl 0).rdy) = true := by decide +kernel
/-- R71: a write whose data has wholly arrived outlives its controller and commits; one whose data has not is gone. -/
theorem test_kept_write : after (exec (.perstNAssert 0) (withCmds nvme
      [{ newCommand 7 0 1 ⟨1, 0, 7, 1, 0, []⟩ false with transferred := true, phase := .running },
       { newCommand 8 0 1 ⟨1, 0, 8, 1, 0, []⟩ false with phase := .running }]))
    (fun t => t.hif.cmds.all (fun c => c.seq == 7 && c.sq == sqKept)) = true := by decide +kernel
theorem witness_links : after (exec (.perstNRelease 1) (lane1 9)) (fun t => (t.port 1).perstN &&
      after (exec (.pcieLinkUp 1 4 1) t) (fun u => (u.port 1).linkUp && (u.port 1).speed == 4 && (u.port 1).width == 1)) = true ∧
    (linked.setPort 0 { linked.port 0 with aspmL1 := true }).portReach 0 = true ∧
    after (exec (.l1Entry 0 true) (linked.setPort 0 { linked.port 0 with aspmL1 := true })) (fun t => (t.port 0).inL1 && !(t.port 0).clkreqLow &&
      after (exec (.l1Exit 0) t) (fun u => !(u.port 0).inL1 && (u.port 0).clkreqLow)) = true := by decide +kernel
theorem witness_config : linked.portReach 0 = true ∧ linked.boot.fuseEnded = true ∧
    after (exec (.configurationRequest 0 (.read 0)) linked) (fun t => t.out == [.configData 0 0x84011F5D]) = true ∧
    after (exec (.configurationRequest 0 (.write 4 0xFFFFFFFF)) linked) (fun t => after (exec (.configurationRequest 0 (.read 4)) t)
      (fun u => u.out == [.configData 0 0xFFFE0004])) = true ∧
    after (exec (.configurationRequest 0 (.power true)) nvme) (fun t => !t.memReach 0 && !t.barOpen 0 && !t.fetches 0) = true := by decide +kernel
theorem witness_bar : after (exec (.configurationRequest 0 (.barRead 4)) linked) (fun t => t.out == [.mmio 0 0x00400030]) = true ∧
    after (exec (.configurationRequest 0 (.barWrite 0x10058 7)) linked) (fun t => (t.port 0).msixEntry 5 == (0xFEE00000, 7) &&
      (t.port 0).msixEntry 6 == (0, 0)) = true := by decide +kernel
theorem witness_enable_disable : after (exec (.ccEnWrite 0 1 0x3000F 0x1000 0x2000) linked) (fun t => (t.ctl 0).rdy &&
      (t.ctl 0).sqs == [⟨0, 16, 0x1000, 0, 0, 0, 0⟩]) = true ∧
    (nvme.cache.extents = [] ∧ nvme.hif.cmds = [] ∧ nvme.startFlush.crn.flushing = false ∧ nvme.sbd.lossDestage = false) ∧
    after (exec (.ccShnWrite 0 1) nvme) (fun t => (t.ctl 0).shst == 2 && !t.fetches 0) = true ∧
    after (exec (.ccShnWrite 0 1) (withCmds nvme [done1 7])) (fun t => (t.ctl 0).shst == 1 &&
      after (exec (.completionPost 7) t) (fun u => (u.ctl 0).shst == 2)) = true := by decide +kernel
theorem witness_doorbells : after (exec (.sqTailDoorbell 0 0 3) nvme) (fun t => (t.ctl 0).sqs.head? == some ⟨0, 4, 0, 0, 0, 0, 3⟩) = true ∧
    after (exec (.sqTailDoorbell 0 0 4) nvme) (fun t => (t.ctl 0).sqs == (nvme.ctl 0).sqs && (t.ctl 0).asyncMasked == [(0, 1)]) = true ∧
    after (exec (.sqTailDoorbell 0 9 0) nvme) (fun t => (t.ctl 0).asyncMasked == [(0, 0)]) = true ∧
    after (exec (.cqHeadDoorbell 0 1 0) nvme) (fun t => (t.ctl 0).asyncMasked == []) = true ∧
    after (exec (.cqHeadDoorbell 0 1 1) nvme) (fun t => (t.ctl 0).cqs == (nvme.ctl 0).cqs && (t.ctl 0).asyncMasked == [(0, 1)]) = true := by decide +kernel
/-- Two entries of SQ 1 (a turn of up to 8), then those of SQ 2 across the ring's end; an unknown opcode and a CID in flight complete at once. -/
theorem witness_command_fetch : (nvme.pick 0).map (·.1) = some 1 ∧ nvme.portsTurn 0 = true ∧
    after (exec (.commandFetch 0 (flush0 5)) nvme) (fun t => (t.pick 0).map (·.1) == some 1 && t.hif.cmds.map (·.phase) == [.queued] &&
      after (exec (.commandFetch 0 (flush0 5)) t) (fun u => (u.pick 0).map (·.1) == some 2 &&
        u.hif.cmds.map (·.phase) == [.queued, .committed 3 0] &&
        after (exec (.commandFetch 0 ⟨0x55, 0, 5, 1, 0, []⟩) u) (fun v => v.hif.cmds.map (fun c => (c.sq, c.seq)) == [(1, 0), (1, 1), (2, 2)] &&
          (v.ctl 0).sqs.map (·.head) == [0, 2, 0] && v.hif.cmds.map (·.phase) == [.queued, .committed 3 0, .committed 1 0]))) = true := by
  decide +kernel
/-- Weighted round robin: the urgent SQ 1 goes before SQ 2. Both ports with work: the one served last waits. -/
theorem witness_arbitration : (((nvme.setCtl 0 { nvme.ctl 0 with cc := 0x801, round := [2] }).pick 0).map (·.1)) = some 1 ∧
    (let s := (nvme.setPort 1 (nvme.port 0)).setCtl 1 (nvme.ctl 0)
     let r := s.setHif { s.hif with lastPort := 0 }
     r.midTurn 0 = false ∧ (r.pick 1).isSome = true ∧ after (exec (.commandFetch 0 (flush0 5)) r) (fun t => t.hif.cmds.isEmpty) = true) := by
  decide +kernel
/-- The entry of R529, its message behind it; the ring's end turns the phase. -/
theorem witness_post : after (exec (.completionPost 7) (withCmds nvme [done1 7, done1 8])) (fun t =>
      t.out == [.msix 0 5 0xFEE00000 0x41, .cqEntry 0 1 0 (zeros 10 ++ [1, 0, 7, 0, 1, 0])] && (t.cmd 7).isNone && (t.cmd 8).isSome) = true ∧
    after (exec (.completionPost 8) (withCmds nvme [done1 7, done1 8])) (fun t => t.out.isEmpty) = true ∧
    after (exec (.completionPost 7) (withCmds (nvme.mapCq 0 1 fun x => { x with tail := 3, head := 1 }) [done1 7]))
      (fun t => ((t.ctl 0).cqs.map fun x => (x.tail, x.phase)) == [(0, true), (0, false)]) = true ∧
    after (exec (.completionPost 7) (withCmds (nvme.mapCq 0 1 fun x => { x with tail := 3 }) [done1 7])) (fun t => t.out.isEmpty) = true := by
  decide +kernel
/-- THR 1, TIME 1: the first entry waits; the second, or the time, sends the message. -/
def coalescing1 : State := nvme.setCtl 0 { nvme.ctl 0 with coalescing := 0x101 }
theorem witness_coalescing : after (exec (.completionPost 7) (withCmds coalescing1 [done1 7, done1 8])) (fun t =>
    (t.ctl 0).coalesced == [(5, 1)] && t.out.length == 1 &&
    after (exec (.completionPost 8) t) (fun u => u.out.head? == some (.msix 0 5 0xFEE00000 0x41) && (u.ctl 0).coalesced == []) &&
    after (exec (.coalescingTimeout 0 5) t) (fun u => u.out.head? == some (.msix 0 5 0xFEE00000 0x41) && (u.ctl 0).coalesced == [])) = true := by decide +kernel

/-! ## Chapter 16 -/

/-- A ready controller over one namespace on lane 0: ten sectors a track, 1% spare tracks, a trained buffer, destage
at every D, the write window open. -/
def store : State :=
  let s := { nvme with boot := { nvme.boot with image := some (imageOf [(1, geo1), (2, [1, 0, 1, 1, 4, 2] ++ leBytes 2 64 ++ zeros 24),
    (3, leBytes 2 1 ++ leBytes 2 0 ++ zeros 12 ++ zeros 12 ++ leBytes 2 10 ++ zeros 114), (secSeqParams, zeros 64)]) } }
  let t := (s.setCache { s.cache with namespaces := [⟨0, 0, false, 0, [], none, 0, 0, false, 0, 0⟩], wce := true }).put Reg.BUF_STATE_TRAINED 1
  (t.put (laneBootField 0) 4).put Reg.KLN_STATUS_WRITE_OPEN 1
/-- An I/O command of SQ 1 on namespace 1: `n + 1` blocks at an LBA. -/
def io (seq op lba n : Nat) : Command := newCommand seq 0 1 ⟨op, 0, seq, 1, 0, [lba, 0, n]⟩ false
def quiet : BufAccess := ⟨[], 0, 0⟩
def host (l : List Byte) : HostBlock := ⟨l, []⟩
/-- LBAs 3 and 4 are cached and dirty. -/
def cached : State := (store.putExtent 1 3 .dirty ⟨[3], zeros 8⟩ 7).putExtent 1 4 .dirty ⟨[4], zeros 8⟩ 8
def run1 (i : Instr) (s : State) : State := match exec i s with
  | .next t => t
  | _ => s
def ends (t : State) (seq st dw0 : Nat) : Bool := t.hif.cmds.any fun c => c.seq == seq && c.phase == .committed st dw0

theorem test_layout : store.blockAt 1 0 = some (0, 0) ∧ store.blockAt 1 13 = some (0, 2 ^ 14 + 3) ∧ store.lbaAt (2 ^ 14 + 3) = some (1, 13) ∧
    (store.nsMaps.map (·.blocks)) = [9856] ∧ store.laneSpares 0 = 110 := by decide +kernel
theorem witness_refused_io : (withCmds store [io 5 opRead 9857 0]).admitBlocks (io 5 opRead 9857 0) false true = 0x080 ∧
    ends (run1 (.read 5 .ok quiet) (withCmds store [io 5 opRead 9857 0])) 5 0x080 0 = true ∧
    ends (run1 (.write 5 [] .ok) (withCmds (store.put (laneBootField 0) 1) [io 5 opWrite 0 0])) 5 0x082 0 = true := by decide +kernel
theorem witness_read_hit : (withCmds cached [io 5 opRead 3 1]).admitBlocks (io 5 opRead 3 1) false true = 0 ∧
    (withCmds cached [io 5 opRead 3 1]).writeBefore (io 5 opRead 3 1) = false ∧
    (let t := run1 (.read 5 .ok quiet) (withCmds cached [io 5 opRead 3 1])
     ends t 5 0 0 = true ∧ t.out = [.hostPart 0 5 [(3, [3], []), (4, [4], [])]]) ∧
    ends (run1 (.verify 5 quiet) (withCmds cached [io 5 opVerify 3 1])) 5 0 0 = true := by decide +kernel
/-- A block that is not cached is read from its lane; a read behind an overlapping write waits, and resolves after its commit. -/
theorem witness_read_miss : (let t := run1 (.read 5 .ok quiet) (withCmds cached [io 5 opRead 4 1])
     (t.sched 0).map (fun o => (o.write, o.owners, o.blocks)) = [(false, [5], [⟨1, 5, 5⟩])] ∧ t.out = [.hostPart 0 5 [(4, [4], [])]]) ∧
    (let t := run1 (.read 5 .ok quiet) (withCmds cached [io 4 opWrite 4 0, io 5 opRead 3 1])
     let u := run1 (.write 4 [host [9]] .ok) t
     let v := run1 (.readResolve 5 quiet) u
     t.out = [] ∧ t.scheds = cached.scheds ∧ ends u 4 0 0 = true ∧ ends v 5 0 0 = true ∧
     (v.out.map fun o => match o with
       | .hostPart _ _ l => l.map fun x => (x.1, x.2.1.take 2)
       | _ => []) = [[(3, [3]), (4, [9, 0])]]) := by decide +kernel
/-- R20: a write behind an overlapping read that has not resolved waits, and commits after it. -/
theorem test_read_before : (let s := withCmds cached [io 4 opRead 3 0, io 5 opWrite 3 0]
     let t := run1 (.write 5 [host [9]] .ok) s
     let u := run1 (.writeCommit 5) (run1 (.read 4 .ok quiet) t)
     t.cache.extents = cached.cache.extents ∧ ends t 5 0 0 = false ∧ ends u 5 0 0 = true) := by decide +kernel
theorem witness_write : (withCmds cached [io 5 opWrite 4 1]).admitBlocks (io 5 opWrite 4 1) true true = 0 ∧
    descriptors = 2097152 ∧ 1000000 < store.cachePages ∧ store.bufDown = false ∧ store.devState = 0 ∧
    (let s := (withCmds cached [io 5 opWrite 4 1]).setWunc [(1, 0, 5)]
     let t := run1 (.write 5 [host [8], host [9]] .ok) s
     ends t 5 0 0 = true ∧ (t.cache.extents.map fun x => (x.lba, x.kind, x.data.data.take 1)) =
       [(3, .dirty, [3]), (4, .dirty, [8]), (5, .dirty, [9])] ∧ t.cache.wunc = [(1, 0, 4)]) ∧
    (let t := run1 (.writeZeroes 5) (withCmds cached [io 5 opWriteZeroes 3 0])
     ends t 5 0 0 = true ∧ (t.cache.extents.map fun x => (x.lba, x.kind)) = [(4, .dirty), (3, .zero)]) := by decide +kernel
/-- The example of R560: W2's data comes first, but it commits behind W1. -/
theorem test_write_order : (let s := withCmds store [io 100 opWrite 0 7, io 102 opWrite 2 7]
     let t := run1 (.write 102 [host [2]] .ok) s
     let u := run1 (.write 100 [host [1]] .ok) t
     let v := run1 (.writeCommit 102) u
     t.cache.extents = [] ∧ ends u 100 0 0 = true ∧ u.cache.extents.length = 8 ∧ ends v 102 0 0 = true ∧ v.cache.extents.length = 10) := by
  decide +kernel
theorem witness_uncorrectable : (let t := run1 (.writeUncorrectable 5) (withCmds cached [io 5 opWriteUnc 3 0])
     ends t 5 0 0 = true ∧ t.cache.wunc = [(1, 3, 1)] ∧ t.cache.extents = cached.cache.extents ∧
     ends (run1 (.read 6 .ok quiet) (withCmds t [io 6 opRead 3 1])) 6 0x281 0 = true) ∧
    addRange 1 4 2 [(1, 0, 4), (2, 0, 9)] = [(2, 0, 9), (1, 0, 6)] ∧ cutRanges 1 2 2 [(1, 0, 6)] = [(1, 0, 2), (1, 4, 2)] := by decide +kernel
theorem witness_flush : ends (run1 (.flush 5) (withCmds store [io 5 opFlush 0 0])) 5 0 0 = true ∧
    (let t := run1 (.flush 5) (withCmds cached [io 5 opFlush 0 0])
     (t.cmd 5).map (·.toMedia) = some [(1, 3, 7), (1, 4, 8)] ∧ ends t 5 0 0 = false ∧ (t.sched 0).map (·.versions) = [[7, 8]]) := by decide +kernel
theorem witness_destage : (let t := run1 (.destage [(1, 3)] false quiet) cached
     cached.destageBand = 2 ∧ cached.mediaStatus 0 = 0 ∧ (t.sched 0).map (fun o => o.sectors.map fun x => (x.pba, x.data)) = [[(3, [3])]]) ∧
    (run1 (.destage [(1, 3)] false quiet) (cached.put Reg.KLN_STATUS_WRITE_OPEN 0)).scheds = cached.scheds ∧
    (((run1 (.idleDestageTimeout quiet) cached).sched 0).map (·.sectors.length)) = [2] := by decide +kernel
/-- A write over a destage that waits: the lane writes the new content only; its end makes the extent clean. -/
theorem witness_operation_end : (let t := run1 (.destage [(1, 3)] false quiet) cached
     let u := run1 (.write 5 [host [9]] .ok) (withCmds t [io 5 opWrite 3 0])
     let w := u.setSched 0 ((u.sched 0).map fun o => { o with landed := [3] })
     let v := run1 (.mediaOperationEnd 0 false) w
     (u.sched 0).map (fun o => o.sectors.map fun x => x.data.take 1) = [[[9]]] ∧ v.sched 0 = [] ∧
     (v.cache.extents.map fun x => (x.lba, x.kind)) = [(4, .dirty), (3, .clean)]) ∧
    (let o : MediaOp := ⟨1, false, [⟨1, 5, 5⟩], [], [], [], [], 0, false, true, none⟩
     let s := onLane (store.setSched 0 [o]) fun l => { l with chan := { l.chan with delivered := [5] } }
     (run1 (.mediaOperationEnd 0 false) s).sched 0 = []) := by decide +kernel
def op1 (id : Nat) (w urgent : Bool) (pba : Nat) : MediaOp := ⟨id, w, [⟨1, pba, pba⟩], [], [], [], [], 0, urgent, true, none⟩
theorem witness_choose : ((store.setSched 0 [op1 1 true false 5, op1 2 false true 5, op1 3 false true 6]).chooseOp 0).map (·.id) = some 3 := by
  decide +kernel
theorem witness_recalibration : ((run1 (.recalibration 0 0 [(0, 0x56, 1500)]) store).lane 0).chan.refined = [(0, 0, 0x56, 1500)] := by decide +kernel

/-! ### Administration -/

/-- An admin command with dwords 10 to 15. -/
def adm (seq op nsid : Nat) (l : List Nat) : Command := newCommand seq 0 0 ⟨op, 0, seq, nsid, 0, l⟩ false
theorem witness_format : (withCmds cached [adm 5 0x80 1 [2]]).formatStatus (adm 5 0x80 1 [2]) = 0x10A ∧
    ends (run1 (.formatNvm 5) (withCmds cached [adm 5 0x80 1 [2]])) 5 0x10A 0 = true ∧
    (let s := withCmds cached [adm 5 0x80 1 [1]]
     let t := run1 (.formatNvm 5) s
     let u := run1 (.progressRecord []) t
     s.formatStatus (adm 5 0x80 1 [1]) = 0 ∧ s.busyNs 5 [1] = false ∧ t.cache.extents = [] ∧ t.cache.lastOp = 1 ∧
     u.cache.admin = none ∧ u.cache.lastOp = 0x80 ∧ ends u 5 0 0 = true ∧ (u.ns 1).lbaf = 1) := by decide +kernel
theorem test_progress_record : Progress.ofBytes (Progress.bytes ⟨745, 2, 0, 0xFFFFFFFF, 2, 0, [1, 2, 3, 4]⟩) =
    some ⟨745, 2, 0, 0xFFFFFFFF, 2, 0, [1, 2, 3, 4]⟩ := by decide +kernel
theorem witness_sanitize : (let t := run1 (.sanitize 5) (withCmds (cached.setRcv 0 { (cached.lane 0).rcv with pending := [2] }) [adm 5 0x84 0 [0x12, 0xAA]])
     ends t 5 0 0 = true ∧ t.sanitizing = true ∧ t.cache.extents = [] ∧ (t.lane 0).rcv.pending = [] ∧ t.cache.admin.map (·.op) = some 2 ∧
     (let u := run1 (.progressRecord [40]) t
      u.cache.admin = none ∧ u.sanitizing = false ∧ u.cache.sanitizeStatus = 0x109) ∧
     (let u := run1 (.progressRecord [7]) t
      u.cache.admin.map (·.done) = some [7, 0, 0, 0] ∧ u.cache.lastOp = 2) ∧
     (let u := run1 (.progressRecord [7]) (t.put (laneBootField 0) 9)
      u.cache.admin = none ∧ u.cache.lastOp = 0x81 ∧ u.sanitizing = true)) ∧
    ends (run1 (.sanitize 5) (withCmds cached [adm 5 0x84 0 [3]])) 5 2 0 = true ∧
    ends (run1 (.sanitize 5) (withCmds (cached.setCache { cached.cache with sanitizeFailed := some false }) [adm 5 0x84 0 [1]])) 5 0x1D 0 = true ∧
    ends (run1 (.sanitize 5) (withCmds (cached.setCache { cached.cache with sanitizeFailed := some true }) [adm 5 0x84 0 [1]])) 5 0 0 = true := by
  decide +kernel
/-- An overwrite of two passes goes on to the second; crypto erase needs encryption. -/
theorem witness_passes : (let t := run1 (.sanitize 5) (withCmds cached [adm 5 0x84 0 [0x22, 0xAA]])
     (run1 (.progressRecord [40]) t).cache.admin.map (fun o => (o.pass, o.done)) = some (1, [0, 0, 0, 0])) ∧
    (let s := withCmds cached [adm 5 0x84 0 [4]]
     ends (run1 (.sanitize 5) s) 5 (if s.nsEncrypts 1 then 0 else 2) 0 = true) := by decide +kernel
theorem witness_self_test : (let s := withCmds store [adm 5 0x14 1 [1]]
     let t := run1 (.deviceSelfTest 5 true) s
     let u := run1 (.deviceSelfTest 5 false) s
     ends t 5 0 0 = true ∧ t.cache.selfTest = none ∧ t.cache.results.map (·.take 2) = [[0x17, 1]] ∧ u.cache.selfTest.map (·.segment) = some 2 ∧
     ends (run1 (.deviceSelfTest 6 false) (withCmds u [adm 6 0x14 1 [2]])) 6 0x11D 0 = true ∧
     (let v := run1 (.deviceSelfTest 6 false) (withCmds u [adm 6 0x14 1 [15]])
      ends v 6 0 0 = true ∧ v.cache.selfTest = none ∧ v.cache.results.map (·.take 1) = [[0x11]])) := by decide +kernel
theorem witness_test_yields : (let t := run1 (.deviceSelfTest 5 false) (withCmds store [adm 5 0x14 1 [1]])
     let u := t.yieldTest 0
     u.cache.selfTest.map (·.yielding) = some [0] ∧ u.sched 0 = [] ∧
     (run1 (.selfTestResume 0) u).cache.selfTest.map (·.yielding) = some []) := by decide +kernel

/-! ### Reservations -/

/-- A host with identifier 7 on port 0. -/
def hosted : State := store.setCtl 0 { store.ctl 0 with hostId := 7 }
def resv (seq op : Nat) (l : List Nat) : Command := newCommand seq 0 1 ⟨op, 0, seq, 1, 0, l⟩ false
def keys (a b : Nat) : List Byte := leBytes 8 a ++ leBytes 8 b
theorem witness_reservations : ends (run1 (.reservationRegister 5 .ok (keys 0 9)) (withCmds store [resv 5 0x0D [0]])) 5 0x0C 0 = true ∧
    (let t := run1 (.reservationRegister 5 .ok (keys 0 9)) (withCmds hosted [resv 5 0x0D [0]])
     let u := run1 (.reservationAcquire 6 .ok (keys 9 0)) (withCmds t [resv 6 0x11 [0x100]])
     let v := run1 (.reservationRelease 7 .ok (keys 9 0)) (withCmds u [resv 7 0x15 [0x100]])
     ends t 5 0 0 = true ∧ (t.ns 1).regs = [⟨7, 9, [1]⟩] ∧ (t.ns 1).gen = 1 ∧ ends u 6 0 0 = true ∧ (u.ns 1).holder = some 7 ∧
     ends v 7 0 0 = true ∧ (v.ns 1).holder = none ∧
     (let w := run1 (.reservationRegister 8 .ok (keys 9 0)) (withCmds u [resv 8 0x0D [1]])
      ends w 8 0 0 = true ∧ (w.ns 1).regs = [] ∧ (w.ns 1).holder = none)) := by decide +kernel
/-- Host 8 holds a Write Exclusive reservation with key 5; host 7 is registered with key 9. -/
def held8 : State := hosted.mapNs 1 fun n => { n with regs := [⟨8, 5, [2]⟩, ⟨7, 9, [1]⟩], holder := some 8, rtype := 1 }
theorem witness_conflicts : ends (run1 (.reservationAcquire 6 .ok (keys 9 0)) (withCmds held8 [resv 6 0x11 [0x100]])) 6 0x83 0 = true ∧
    (let u := run1 (.reservationAcquire 6 .ok (keys 9 5)) (withCmds held8 [resv 6 0x11 [0x301]])
     ends u 6 0 0 = true ∧ (u.ns 1).holder = some 7 ∧ (u.ns 1).rtype = 3 ∧ (u.ns 1).regs = [⟨7, 9, [1]⟩] ∧ (u.ns 1).gen = 1) ∧
    ends (run1 (.write 6 [] .ok) (withCmds held8 [io 6 opWrite 0 0])) 6 0x83 0 = true ∧
    (held8.admitBlocks (io 6 opRead 0 0) false true) = 0 ∧
    ends (run1 (.reservationRegister 5 .ok (keys 0 9)) (withCmds (hosted.mapNs 1 fun n =>
      { n with regs := .replicate 32 ⟨8, 5, [2]⟩ }) [resv 5 0x0D [0]])) 5 2 0 = true ∧
    (let s := withCmds held8 [resv 5 0x11 [0x100], io 6 opRead 0 0]
     (run1 (.read 6 .ok quiet) s).hif.cmds = s.hif.cmds) ∧
    (run1 (.reservationReport 5 .ok) (withCmds held8 [resv 5 0x0E [3, 1]])).out =
      [.hostData 0 5 [0, 0, 0, 0, 1, 2, 0, 0, 0, 0, 0, 0, 0, 0, 0, 0]] := by decide +kernel

/-! ### Admin commands -/

theorem witness_queues : (let t := run1 (.createIoCompletionQueue 5) (withCmds nvme [adm 5 5 0 [0x70002, 0x60003]])
     ends t 5 0 0 = true ∧ (t.ctl 0).cqs.getLast? = some ⟨2, 8, 0, 6, true, 0, 0, true⟩) ∧
    ends (run1 (.createIoCompletionQueue 5) (withCmds nvme [adm 5 5 0 [0x70002, 0x8000003]])) 5 0x108 0 = true ∧
    (let t := run1 (.createIoSubmissionQueue 5) (withCmds nvme [adm 5 1 0 [0x70003, 0x10005]])
     ends t 5 0 0 = true ∧ (t.ctl 0).sqs.getLast? = some ⟨3, 8, 0, 1, 2, 0, 0⟩) ∧
    ends (run1 (.deleteIoCompletionQueue 5) (withCmds nvme [adm 5 4 0 [1]])) 5 0x10C 0 = true ∧
    (let t := run1 (.deleteIoSubmissionQueue 5) (withCmds nvme [adm 5 0 0 [1]])
     ends t 5 0 0 = true ∧ (t.ctl 0).sqs.map (·.id) = [0, 2] ∧
     (let u := run1 (.deleteIoSubmissionQueue 6) (withCmds t [adm 6 0 0 [2]])
      ends (run1 (.deleteIoCompletionQueue 7) (withCmds u [adm 7 4 0 [1]])) 7 0 0 = true)) := by decide +kernel
/-- R534: the flush of the deleted SQ ends first; the deletion after its entry is posted. -/
theorem witness_delete_waits : (let t := run1 (.deleteIoSubmissionQueue 5) (withCmds nvme [io 4 opFlush 0 0, adm 5 0 0 [1]])
     let u := run1 (.completionPost 4) t
     ends t 4 8 0 = true ∧ (t.cmd 5).map (·.waitFor) = some [4] ∧ ends t 5 0 0 = false ∧ ends u 5 0 0 = true ∧ (u.ctl 0).sqs.map (·.id) = [0, 2]) := by
  decide +kernel
theorem witness_abort : (let t := run1 (.abort 5) (withCmds nvme [io 4 opRead 0 0, adm 5 8 0 [0x40001]])
     let u := run1 (.completionPost 4) t
     ends t 4 7 0 = true ∧ ends t 5 0 0 = false ∧ ends u 5 0 0 = true) ∧
    ends (run1 (.abort 5) (withCmds nvme [io 4 opRead 0 0, adm 5 8 0 [0x90001]])) 5 0 1 = true ∧
    ends (run1 (.abort 5) (withCmds nvme [{ io 4 opWrite 0 0 with started := true }, adm 5 8 0 [0x40001]])) 5 0 1 = true ∧
    ends (run1 (.abort 9) (withCmds nvme ((List.range 8).map (fun i => adm i 8 0 [1]) ++ [adm 9 8 0 [1]]))) 9 0x103 0 = true := by decide +kernel
theorem witness_identify : (run1 (.identify 5 .ok) (withCmds store [adm 5 6 0 [1]])).out.map (fun o => match o with
      | .hostData _ _ l => l.take 4
      | _ => []) = [[0x5D, 0x1F, 0x5D, 0x1F]] ∧
    ends (run1 (.identify 5 .ok) (withCmds store [adm 5 6 0 [4]])) 5 2 0 = true ∧
    (run1 (.getLogPage 5 .ok) (withCmds (store.setRcv 0 { (store.lane 0).rcv with pending := [0x1234] }) [adm 5 2 0 [0x500C2]])).out =
      [.hostData 0 5 (leBytes 4 1 ++ zeros 12 ++ leBytes 8 0x1234)] ∧
    ends (run1 (.getLogPage 5 .ok) (withCmds store [adm 5 2 0 [0xC5]])) 5 0x109 0 = true := by decide +kernel
theorem witness_features : (let t := run1 (.setFeatures 5 .ok []) (withCmds store [adm 5 9 0 [8, 0x1234]])
     ends t 5 0 0 = true ∧ (t.ctl 0).coalescing = 0x1234 ∧ ends (run1 (.getFeatures 6 .ok) (withCmds t [adm 6 10 0 [8]])) 6 0 0x1234 = true) ∧
    ends (run1 (.setFeatures 5 .ok []) (withCmds store [adm 5 9 0 [0x80000008, 0]])) 5 0x10D 0 = true ∧
    ends (run1 (.setFeatures 5 .ok []) (withCmds store [adm 5 9 0 [0x13, 0]])) 5 2 0 = true ∧
    ends (run1 (.getFeatures 6 .ok) (withCmds store [adm 6 10 0 [0x306]])) 6 0 5 = true ∧
    ends (run1 (.firmwareCommit 5) (withCmds store [adm 5 0x10 0 []])) 5 1 0 = true ∧
    ends (run1 (.firmwareImageDownload 5) (withCmds store [adm 5 0x11 0 []])) 5 1 0 = true := by decide +kernel
theorem witness_events : (let t := run1 (.asynchronousEventRequest 5) (withCmds nvme [adm 5 12 0 []])
     let u := run1 (.sqTailDoorbell 0 9 0) t
     (t.ctl 0).aers = [5] ∧ ends u 5 0 0x10000 = true ∧ (u.ctl 0).aers = []) ∧
    (let t := run1 (.sqTailDoorbell 0 9 0) (withCmds nvme [adm 5 12 0 []])
     ends (run1 (.asynchronousEventRequest 5) t) 5 0 0x10000 = true) ∧
    ends (run1 (.asynchronousEventRequest 5) (withCmds (nvme.setCtl 0 { nvme.ctl 0 with aers := [1, 2, 3, 4] }) [adm 5 12 0 []])) 5 0x105 0 = true := by
  decide +kernel
theorem witness_vendor : ends (run1 (.retireBufferPage 5) (withCmds store [adm 5 0xC0 0 [0x7FFFFF]])) 5 0x7C6 0 = true ∧
    (run1 (.retireBufferPage 5) (withCmds store [adm 5 0xC0 0 [17]])).buf.toRetire = [(17, true)] ∧
    ends (run1 (.declareBufferChipDead 5) (withCmds store [adm 5 0xC4 0 [0x31]])) 5 0x7C6 0 = true ∧
    (let t := run1 (.declareBufferChipDead 5) (withCmds store [adm 5 0xC4 0 [1]])
     ends t 5 0 0 = true ∧ t.buf.switching = [(0, 1)]) := by decide +kernel

/-! ## Chapter 17 -/

/-- `store` as an ATA device of 512-byte sectors, with LBA blocks 3 and 4 cached clean (their data cut short). -/
def ata : State :=
  let s := { store with boot := { store.boot with compat := true, density := 8, bulkEnded := true } }
  let t := ((s.putExtent 1 3 .clean ⟨zeros 512 ++ [5], zeros 8⟩ 7).putExtent 1 4 .clean ⟨[9], zeros 8⟩ 8)
  (t.put Reg.HIF_SATA_LINK_UP 1).put Reg.HIF_SATA_SIG_SENT 1
/-- The same in 4Kn. -/
def ata4k : State := ata.put Reg.HIF_SATA_SECTOR_4KN 1
/-- With a dirty block. -/
def ataDirty : State := ata.putExtent 1 5 .dirty ⟨[7], zeros 8⟩ 9
def fis (lba count : Nat) : AtaFis := ⟨0, lba, count, 4, false⟩
/-- What went out since, newest first, with data cut to its length and first two bytes. -/
def sent (t : State) : List (List Nat) := t.out.map fun o => match o with
  | .registerFis a b c d => [1, a, b, c, d]
  | .pioSetupFis a b => [2, a, b]
  | .setBitsFis a b l => [3, a, b] ++ l
  | .sataData l => [4, l.length, u8 l 0, u8 l 1]
  | .signatureFis => [5]
  | _ => [6]
def ataKept (s t : State) : Bool := t.hif.cmds == s.hif.cmds && t.media == s.media && t.scheds == s.scheds && t.buf == s.buf
def tagged (k : Nat) : Command := { ata.ataCommand 0x60 0 opRead 8 1 k false with seq := 90 + k }

theorem test_ata : ata.ataOpen = true ∧ ata.sataSectors = 79200 ∧ ata.lbaUnit = 8 ∧ ata4k.sataSectors = 9900 ∧ ata.lko.fatal = false ∧
    ata.hif.cmds = [] ∧ (ata.ns 1).lbaf = 0 ∧ ata.sched 0 = [] := by decide +kernel
theorem witness_sata_link : (let s := ((ata.put Reg.HIF_SATA_LINK_UP 0).put Reg.HIF_SATA_SIG_SENT 0)
     let t := run1 (.sataLinkUp 3) s
     let u := run1 .sataLinkDown t
     t.get Reg.HIF_SATA_GEN = 3 ∧ sent t = [[5]] ∧ t.get Reg.HIF_SATA_SIG_SENT = 1 ∧ u.get Reg.HIF_SATA_LINK_UP = 0 ∧ u.get Reg.HIF_SATA_GEN = 0 ∧
     u.get Reg.HIF_SATA_SIG_SENT = 0 ∧
     sent (run1 (.sataLinkUp 1) { s with boot := { s.boot with bulkEnded := false } }) = []) := by decide +kernel
theorem witness_sata_reset : (let s := (withCmds ata [tagged 4, tagged 5]).put Reg.HIF_SATA_NCQ_LOCK 1
     let s := s.setSata { s.hif.sata with readTimer := 70, ncqError := some (4, 0x51, 0x40, 8) }
     [Instr.comreset, .softwareReset].all fun i =>
       let t := run1 i s
       t.hif.cmds == [] && t.cache == s.cache && t.hif.sata.readTimer == 70 && t.hif.sata.ncqError == none && sent t == [[5]] &&
         t.get Reg.HIF_SATA_NCQ_LOCK == 0 && t.get Reg.HIF_SATA_TAGS == 0) = true := by decide +kernel
theorem witness_ncq_error : (let t := run1 (.readFpdmaQueued (fis 79193 9) .ok quiet) (withCmds ata [tagged 5])
     t.hif.cmds = [] ∧ t.get Reg.HIF_SATA_NCQ_LOCK = 1 ∧ t.hif.sata.ncqError = some (4, 0x51, 0x10, 79200) ∧
     sent t = [[3, 0x51, 0x10, 4], [1, 0x50, 0, 0, 79193]] ∧ t.cache = ata.cache ∧
     (let u := run1 .flushCache t
      u.out = .registerFis 0x51 0x04 0 0 :: t.out ∧ ataKept t u = true) ∧
     (let u := run1 (.readLogExt (fis 0x10 1) .ok) t
      u.get Reg.HIF_SATA_NCQ_LOCK = 0 ∧ u.hif.sata.ncqError = none ∧ u.out.head? = some (.pioSetupFis 0x50 0) ∧
      (u.out.getD 1 .signatureFis |> fun o => match o with
        | .sataData l => (u8 l 2, u8 l 3, field l 4 3)
        | _ => (0, 0, 0)) = (0x51, 0x10, 79200))) := by decide +kernel
/-- The case at SET SECTOR FORMAT: R610 aborts it with the tags, and the format does not change. -/
theorem witness_mixed : (let s := withCmds ata [tagged 5]
     [Instr.flushCache, .setSectorFormat ⟨0, 0x445600000000, 1, 0, false⟩, .checkPowerMode, .readDma (fis 8 1) .ok quiet].all fun i =>
       let t := run1 i s
       t.hif.cmds == [] && (sent t).map (·.take 3) == [[1, 0x51, 4]] && t.get Reg.HIF_SATA_SECTOR_4KN == 0 && t.cache == s.cache) = true := by
  decide +kernel

/-! Sectors -/

theorem witness_ata_read : (let s := ata
     ([Instr.readSectors (fis 25 2) .ok quiet, .readSectorsExt (fis 25 2) .ok quiet].all fun i =>
       sent (run1 i s) == [[2, 0x50, 0], [4, 1, 5, 0]] && ataKept s (run1 i s)) = true ∧
     ([Instr.readDma (fis 32 8) .ok quiet, .readDmaExt (fis 32 8) .ok quiet].all fun i =>
       sent (run1 i s) == [[1, 0x50, 0, 0, 32], [4, 1, 9, 0]]) = true ∧
     sent (run1 (.readFpdmaQueued (fis 31 2) .ok quiet) (withCmds s [tagged 5])) = [[3, 0x40, 0, 4], [4, 1, 9, 0], [1, 0x50, 0, 0, 31]] ∧
     ([Instr.readVerifySectors (fis 24 16) quiet, .readVerifySectorsExt (fis 24 16) quiet].all fun i =>
       sent (run1 i s) == [[1, 0x50, 0, 0, 24]]) = true ∧
     sent (run1 (.readDma (fis 4 1) .ok quiet) ata4k) = [[1, 0x50, 0, 0, 4], [4, 1, 9, 0]] ∧
     s.writeBefore (s.ataCommand 0x25 0 opRead 24 16 0xFFFF false) = false ∧ s.blocksOf (s.ataCommand 0x25 0 opRead 25 8 0xFFFF false) = [3, 4] ∧
     fisShort (fis (2 ^ 28 + 3) 0) = (3, 256) ∧ fisExt (fis 3 0) = (3, 65536)) := by decide +kernel
theorem witness_ata_errors : (let s := ata.setWunc [(1, 26, 1)]
     sent (run1 (.readDma (fis 24 8) .ok quiet) s) = [[1, 0x51, 0x40, 0, 26]] ∧
     sent (run1 (.readSectorsExt (fis 79200 1) .ok quiet) s) = [[1, 0x51, 0x10, 0, 79200]] ∧
     sent (run1 (.readVerifySectors (fis 79192 9) quiet) s) = [[1, 0x51, 0x10, 0, 79200]] ∧
     sent (run1 (.writeSectorsExt (fis 79192 9) [] .ok) s) = [[1, 0x51, 0x10, 0, 79200]] ∧
     (let t := run1 (.readDmaExt (fis 32 8) .crcError quiet) s
      sent t = [[1, 0x51, 0x84, 0, 0]] ∧ t.get Reg.HIF_SATA_CRC_COUNT = 1) ∧
     (let t := run1 (.writeDmaExt (fis 32 8) [] .crcError) s
      sent t = [[1, 0x51, 0x84, 0, 0]] ∧ t.get Reg.HIF_SATA_CRC_COUNT = 1 ∧ t.cache = s.cache)) := by decide +kernel
theorem witness_ata_write : (let s := ata.setWunc [(1, 24, 4)]
     ([Instr.writeSectors (fis 25 2) [host [1], host [2]] .ok, .writeSectorsExt (fis 25 2) [host [1], host [2]] .ok,
       .writeDma (fis 25 2) [host [1], host [2]] .ok, .writeDmaExt (fis 25 2) [host [1], host [2]] .ok].all fun i =>
       let t := run1 i s
       let l := ((t.extent 1 3).map (·.data.data)).getD []
       sent t == [[1, 0x50, 0, 0, 25]] && (u8 l 0, u8 l 512, u8 l 1024, l.length) == (0, 1, 2, 1536) && t.cache.wunc == [(1, 24, 1), (1, 27, 1)] &&
         (t.extent 1 3).map (·.kind) == some .dirty && t.hif.cmds == []) = true ∧
     sent (run1 (.writeFpdmaQueued (fis 25 1) [host [1]] .ok) (withCmds s [tagged 5])) = [[3, 0x40, 0, 4], [1, 0x50, 0, 0, 25]] ∧
     (let t := run1 (.writeDmaFuaExt (fis 32 8) [host [1]] .ok) s
      sent t = [] ∧ (t.hif.cmds.map fun c => (c.ended, c.toMedia.map fun v => v.2.1)) = [(false, [4])] ∧
      (t.sched 0).map (fun o => (o.write, o.blocks.map (·.lba))) = [(true, [4])] ∧ (t.extent 1 4).map (·.kind) = some .dirty) ∧
     ((run1 (.writeDma (fis 4 1) [host [1, 2]] .ok) ata4k).extent 1 4).map (fun x => (x.data.data.take 3, x.kind)) = some ([1, 2, 0], .dirty) ∧
     (s.blockAt 1 4).map (·.1) = some 0 ∧ s.mediaStatus 0 = 0 ∧ s.partialBlocks (s.ataCommand 0x35 0 opWrite 25 2 0xFFFF false) = [3]) := by
  decide +kernel
/-- The example of R614: the rest of physical sector 1 is read first, cannot be had, and reads back as listed. -/
theorem test_merge : (let s := run1 (.writeDma (fis 13 2) [host [1], host [2]] .ok) ata
     (s.sched 0).map (fun o => (o.write, o.blocks.map (·.lba))) = [(false, [1])] ∧ sent s = [] ∧
     (let o := ((s.sched 0).head?).getD (op1 0 false false 0)
      let t := s.giveParts o [] [1] 0x281
      sent t = [[1, 0x50, 0, 0, 13]] ∧ t.cache.wunc = [(1, 8, 5), (1, 15, 1)])) := by decide +kernel
theorem witness_ata_uncorrectable : (let t := run1 (.writeUncorrectableExt ⟨0x55, 100, 3, 0, false⟩) ata
     sent t = [[1, 0x50, 0, 0, 100]] ∧ t.cache.wunc = [(1, 100, 3)] ∧ t.cache.extents = ata.cache.extents ∧
     sent (run1 (.writeUncorrectableExt ⟨0x54, 100, 3, 0, false⟩) ata) = [[1, 0x51, 4, 0, 0]] ∧
     sent (run1 (.writeUncorrectableExt ⟨0xAA, 100, 3, 0, false⟩) ata) = [[1, 0x50, 0, 0, 100]]) := by decide +kernel

/-! Control -/

theorem witness_ata_flush : ([Instr.flushCache, .flushCacheExt].all fun i => sent (run1 i ata) == [[1, 0x50, 0, 0, 0]] &&
       (run1 i ataDirty).hif.cmds.map (fun c => c.toMedia) == [[(1, 5, 9)]] && sent (run1 i ataDirty) == []) = true ∧
     ataDirty.dirtyVersions 1 = [(1, 5, 9)] ∧ ataDirty.stuckStatus [(1, 5, 9)] = 0 := by decide +kernel
theorem witness_ata_features : (run1 .setFeaturesEnableWriteCache (ata.setCache { ata.cache with wce := false })).cache.wce = true ∧
    (run1 .setFeaturesDisableWriteCache ata).cache.wce = false ∧ sent (run1 .setFeaturesDisableWriteCache ata) = [[1, 0x50, 0, 0, 0]] ∧
    (let t := run1 .setFeaturesDisableWriteCache ataDirty
     sent t = [] ∧ t.cache.wce = false ∧ t.hif.cmds.map (·.toMedia) = [[(1, 5, 9)]]) ∧
    (run1 (.setFeaturesSetTransferMode 0x45) ata).hif.sata.mode = 0x45 ∧ sent (run1 (.setFeaturesSetTransferMode 0x47) ata) = [[1, 0x51, 4, 0, 0]] ∧
    (run1 (.setFeaturesEnableSataFeature 3) ata).hif.sata.features = [3] ∧ sent (run1 (.setFeaturesDisableSataFeature 2) ata) = [[1, 0x51, 4, 0, 0]] ∧
    (run1 (.setFeaturesDisableSataFeature 3) (run1 (.setFeaturesEnableSataFeature 3) ata)).hif.sata.features = [] ∧
    (run1 .setFeaturesDisableReadLookAhead ata).hif.sata.lookAhead = false ∧ (run1 .setFeaturesEnableReadLookAhead ata).hif.sata.lookAhead = true ∧
    sent (run1 .executeDeviceDiagnostic ata) = [[1, 0x50, 1, 1, 1]] := by decide +kernel
/-- The words of R613 and of the features in IDENTIFY. -/
theorem witness_identify_device : (let f := fun (s : State) => match (run1 (.identifyDevice .ok) s).out with
     | [.pioSetupFis 0x50 0, .sataData l] => (l.length, u16 l 212, u16 l 418, u64 l 200)
     | _ => (0, 0, 0, 0)
     f ata = (512, 0x6003, 0x4000, 79200) ∧ (f ata4k).2.1 = 0x5000 ∧
     (match (run1 (.identifyDevice .ok) ata4k).out with
      | [_, .sataData l] => (u16 l 234, u16 l 236, (u64 l 200))
      | _ => (0, 0, 0)) = (0x0800, 0, 9900)) := by decide +kernel
theorem witness_ata_power : sent (run1 .checkPowerMode ata) = [[1, 0x50, 0, 0, 0]] ∧
    sent (run1 .checkPowerMode (ata.put Reg.WHL_STATUS_STATE 4)) = [[1, 0x50, 0, 0xFF, 0]] ∧
    sent (run1 .checkPowerMode (ata.put Reg.WHL_STATUS_STATE 3)) = [[1, 0x50, 0, 0, 0]] ∧
    sent (run1 .idleImmediate ata) = [[1, 0x50, 0, 0, 0]] ∧ (run1 (.idle 12) ata).hif.sata.standbyMs = 60000 ∧
    sent (run1 (.idle 254) ata) = [[1, 0x51, 4, 0, 0]] ∧ sent (run1 (.standby 254) ata) = [[1, 0x51, 4, 0, 0]] ∧
    ([Instr.standbyImmediate, .standby 241, .sleep].all fun i =>
      let t := run1 i ata
      let u := run1 i ataDirty
      (sent t).contains [1, 0x50, 0, 0, 0] && t.get Reg.HIF_SATA_STANDBY == 1 && t.whl.stopWanted && t.hif.cmds == [] &&
        sent u == [] && u.hif.sata.stopDue && (u.sched 0).length == 1 && u.hif.cmds.length == 1) = true ∧
    (run1 .sleep ata).hif.sata.asleep = true ∧ (run1 (.standby 241) ata).hif.sata.standbyMs = 1800000 ∧
    (let s := ata.setSata { ata.hif.sata with standbyMs := 5000 }
     (run1 .standbyTimerExpiry s).get Reg.HIF_SATA_STANDBY = 1 ∧ (run1 .standbyTimerExpiry s).whl.stopWanted = true) ∧
    (let s := ataDirty.setSata { ata.hif.sata with standbyMs := 5000 }
     (run1 .standbyTimerExpiry s).hif.sata.stopDue = true ∧ ataDirty.destageable = true ∧ ata.destageable = false) := by decide +kernel
/-- A read of media after a standby, with the stop done or still waiting, restarts the spindle (R608, R416). -/
theorem test_wake : (let s := run1 .standbyImmediate ata
     let t := run1 (.readDma (fis 80 8) .ok quiet) s
     t.get Reg.HIF_SATA_STANDBY = 0 ∧ t.whl.stopWanted = false ∧ t.whlState = 1 ∧
     (let u := run1 (.readDma (fis 80 8) .ok quiet) (run1 .orderlyStop s)
      u.get Reg.HIF_SATA_STANDBY = 0 ∧ u.whlState = 1)) := by decide +kernel

/-! SMART, logs, vendor commands -/

def smartFis (k count : Nat) : AtaFis := ⟨0, 0xC24F00 + k, count, 0, false⟩
def dataOf (t : State) : List Byte := match t.out with
  | [_, .sataData l] => l
  | _ => []
theorem witness_smart : (let l := dataOf (run1 (.smartReadData (smartFis 0 0) .ok) (ata.setSata { ata.hif.sata with starts := 0x1234 }))
     l.length = 512 ∧ u16 l 0 = 0x10 ∧ (List.range 12).map (fun j => u8 l (2 + 12 * j)) = [1, 3, 4, 5, 9, 12, 0xBB, 0xC1, 0xC2, 0xC5, 0xC7, 0] ∧
     u8 l 29 = 100 ∧ field l 31 6 = 0x1234 ∧
     (let l := dataOf (run1 (.smartReadThresholds (smartFis 0 0) .ok) ata)
      u8 l 38 = 5 ∧ u8 l 39 = 10)) := by decide +kernel
theorem witness_smart_control : (run1 (.smartAttributeAutosave (smartFis 0 0)) ata).hif.sata.autosave = false ∧
    sent (run1 (.smartAttributeAutosave (smartFis 0 0xF1)) ata) = [[1, 0x50, 0, 0, 0xC24F00]] ∧
    sent (run1 (.smartAttributeAutosave (smartFis 0 7)) ata) = [[1, 0x51, 4, 0, 0]] ∧
    (run1 (.smartDisableOperations (smartFis 0 0)) ata).hif.sata.smart = false ∧
    (run1 (.smartEnableOperations (smartFis 0 0)) (run1 (.smartDisableOperations (smartFis 0 0)) ata)).hif.sata.smart = true ∧
    sent (run1 (.smartReadData (smartFis 0 0) .ok) (ata.setSata { ata.hif.sata with smart := false })) = [[1, 0x51, 4, 0, 0]] ∧
    sent (run1 (.smartReturnStatus (smartFis 0 0)) ata) = [[1, 0x50, 0, 0, 0xC24F00]] ∧
    sent (run1 (.smartReturnStatus (smartFis 0 0)) (onLane ata fun l => { l with rcv := { l.rcv with sparesUsed := 99 } })) =
      [[1, 0x50, 0, 0, 0x2CF400]] ∧
    (let t := run1 (.smartExecuteOffLineImmediate (smartFis 1 0) true) ata
     (sent t).contains [1, 0x50, 0, 0, 0xC24F00] ∧ t.hif.sata.selfTestStatus = 0x50 ∧ t.cache.selfTest = none) ∧
    (let t := run1 (.smartExecuteOffLineImmediate (smartFis 2 0) false) ata
     t.cache.selfTest.isSome = true ∧ (sent (run1 (.smartExecuteOffLineImmediate (smartFis 1 0) false) t)).head? = some [1, 0x51, 4, 0, 0]) ∧
    ([Instr.smartReadData (fis 5 1) .ok, .smartReturnStatus (fis 5 1), .smartWriteLog (fis 5 1) [] .ok].all fun i =>
      sent (run1 i ata) == [[1, 0x51, 4, 0, 0]]) = true := by decide +kernel
theorem witness_ata_logs : ([Instr.readLogExt (fis 0 1) .ok, .readLogDmaExt (fis 0 1) .ok, .smartReadLog (smartFis 0 1) .ok].map fun i =>
      let l := dataOf (run1 i ata)
      [l.length, u16 l 0, u16 l 2, u16 l 6, u16 l 0x20, u16 l 0x1C0]) = [[512, 1, 0, 1, 1, 1], [512, 1, 0, 1, 1, 1], [512, 1, 1, 0, 0, 1]] ∧
    (sent (run1 (.readLogDmaExt (fis 0 1) .ok) ata)).head? = some [1, 0x50, 0, 0, 0] ∧
    sent (run1 (.readLogExt (fis 2 1) .ok) ata) = [[1, 0x51, 4, 0, 0]] := by decide +kernel
def erc (sel v : Nat) : List Byte := leBytes 2 3 ++ leBytes 2 1 ++ leBytes 2 sel ++ leBytes 2 v
theorem witness_sct : (run1 (.smartWriteLog (smartFis 0xE0 1) (erc 1 70) .ok) ata).hif.sata.readTimer = 70 ∧
    ([Instr.writeLogExt (fis 0xE0 1) (erc 2 80) .ok, .writeLogDmaExt (fis 0xE0 1) (erc 2 80) .ok].all fun i =>
      (run1 i ata).hif.sata.writeTimer == 80 && sent (run1 i ata) == [[1, 0x50, 0, 0, 0xE0]]) = true ∧
    sent (run1 (.writeLogExt (fis 0xE0 1) (leBytes 2 2) .ok) ata) = [[1, 0x51, 4, 0, 0]] := by decide +kernel
def vfis (lba count : Nat) : AtaFis := ⟨0, 0x445600000000 + lba, count, 0, false⟩
theorem witness_vendor_logs : (let s := onLane ata fun l => { l with rcv := { l.rcv with grown := [513, 7], pending := [77] } }
     (sent (run1 (.readCounters (vfis 0 0) .ok) s)).take 2 |>.map (·.take 2)) = [[2, 0x50], [4, 512]] ∧
    (let s := onLane ata fun l => { l with rcv := { l.rcv with grown := [513, 7], pending := [77] } }
     (sent (run1 (.readGrownDefects (vfis 0 2) .ok) s)) = [[2, 0x50, 0], [4, 1024, 2, 0]] ∧
     ((sent (run1 (.readPending (vfis 0 1) .ok) s)).getD 1 []).take 2 = [4, 512] ∧
     ((sent (run1 (.readBufferHealth (vfis 0 0) .ok) s)).getD 1 []).take 2 = [4, 16896] ∧
     ([Instr.readCounters (fis 0 1) .ok, .readGrownDefects (fis 0 1) .ok, .readPending (fis 0 1) .ok, .setSectorFormat (fis 0 1),
       .readBufferHealth (fis 0 1) .ok, .dv40RetireBufferPage (fis 0 1), .dv40DeclareBufferChipDead (fis 0 1)].all fun i =>
        (sent (run1 i s)).head? == some [1, 0x51, 4, 0, 0]) = true) := by decide +kernel
theorem witness_set_sector_format : (let s := ata.setWunc [(1, 9, 2), (1, 24, 8)]
     let t := run1 (.setSectorFormat (vfis 0 1)) s
     let u := run1 (.setSectorFormat (vfis 0 0)) t
     sent t = [[1, 0x50, 0, 1, 0]] ∧ t.lbaUnit = 1 ∧ t.cache.wunc = [(1, 1, 1), (1, 3, 1)] ∧ t.cache.extents = s.cache.extents ∧
     u.lbaUnit = 8 ∧ u.cache.wunc = [(1, 8, 8), (1, 24, 8)] ∧ (sent (run1 (.setSectorFormat (vfis 0 2)) s)) = [[1, 0x51, 4, 0, 0]] ∧
     (run1 (.setSectorFormat (vfis 0 1)) ataDirty).hif.cmds.map (·.toMedia) = [[(1, 5, 9)]]) := by decide +kernel
theorem witness_dv40_buffer : (let t := run1 (.dv40RetireBufferPage (vfis 5 0)) ata
     t.buf.toRetire = [(5, true)] ∧ t.hif.cmds.length = 1 ∧ ata.retireRefused 5 = false) ∧
    (let t := run1 (.dv40RetireBufferPage (vfis 0x7FFFFF 0)) ata
     ata.retireRefused 0x7FFFFF = true ∧ sent t = [[1, 0x51, 4, 0, 0]] ∧ t.buf = ata.buf) ∧
    (let t := run1 (.dv40DeclareBufferChipDead (vfis 2 0)) ata
     ata.groupFitted 0 = true ∧ t.buf.switching = [(0, 2)] ∧ sent t = [[1, 0x50, 0, 0, 2]]) ∧
    (ata.groupFitted 3 = false ∧ sent (run1 (.dv40DeclareBufferChipDead (vfis 0x32 0)) ata) = [[1, 0x51, 4, 0, 0]]) := by decide +kernel

/-! ## Chapter 18 -/

/-- THERMAL with channel 0 a diode (n 1, 0 Ω, Cones 60, 70 and 80 °C with 5 °C), channel 8 on-die (Cones 95, 100 and 108 °C),
media channel 0, window 5 to 65 °C with 3 °C, three restarts; MAX hold 60 s. -/
def thermalImage : List Byte :=
  [0, 8, 31, 8] ++ leBytes 2 7200 ++ leBytes 2 32767 ++ leBytes 2 50 ++ leBytes 2 650 ++ leBytes 2 30 ++ leBytes 2 500 ++ leBytes 2 60 ++
    [3, 0] ++ zeros 12 ++
    ([1, 7, 0, 0] ++ leBytes 2 16384 ++ zeros 10 ++ leBytes 2 600 ++ leBytes 2 700 ++ leBytes 2 800 ++ leBytes 2 50 ++ leBytes 2 50 ++
      leBytes 2 50 ++ zeros 4) ++ zeros 224 ++
    ([3, 7, 0, 0] ++ zeros 12 ++ leBytes 2 950 ++ leBytes 2 1000 ++ leBytes 2 1080 ++ leBytes 2 50 ++ leBytes 2 50 ++ leBytes 2 50 ++ zeros 4) ++ zeros 96
/-- A running device with that section, locked, the conversion of channel `c` due. -/
def warm (c : Nat) : State :=
  let s := { wheelIn 4 with boot := { (wheelIn 4).boot with image := some (imageOf [(1, geo1), (7, thermalImage)]) } }
  (s.setKln { s.kln with next := some c }).put Reg.IMG_BOOT_STATUS_LOCKED 1

/-- A reading, or -10,000 less the fault. -/
def measured (e : List Byte) (m : Conversion) : Int := match evaluate e 0 m with
  | .ok t => t
  | .error k => -10000 - k

theorem witness_scan : (run1 .kilnScanStart (warm 5)).kln.next = some 0 ∧ thermalImage.length = 416 ∧
    (run1 .kilnScanStart ((warm 5).put Reg.IMG_BOOT_STATUS_LOCKED 0)).kln.next = some 8 := by decide +kernel
/-- ΔV of 59,159 µV is 298.15 K × 10 × k × ln 10 / q: 25.0 °C. -/
theorem witness_conversion : measured ((warm 0).channel 0) (.diode 59159) = 250 ∧ measured ((warm 0).channel 0) (.diode 90001) = -10000 ∧
    (let t := run1 (.kilnConversionEnd 0 (.diode 59159)) (warm 0)
     t.get (Reg.KLN_TEMP_READING 0) = 250 ∧ t.get (Reg.KLN_TEMP_VALID 0) = 1 ∧ t.get (Reg.KLN_PEAK_MAX 0) = 250 ∧ t.get (Reg.KLN_PEAK_MIN 0) = 250 ∧
     t.get Reg.KLN_STATUS_WRITE_OPEN = 1 ∧ t.kln.next = some 8 ∧ t.shutState = 0) ∧
    (let s := ((warm 8).put (coneField 8 2) 1)
     let t := run1 (.kilnConversionEnd 8 (.onDie 950)) s
     t.get (coneField 8 1) = 1 ∧ t.get (coneField 8 2) = 1 ∧ t.get (coneField 8 3) = 0 ∧ t.get Reg.KLN_STATUS_CONE2 = 1 ∧
     (let u := run1 (.kilnConversionEnd 8 (.onDie 949)) s
      u.get (coneField 8 1) = 0 ∧ u.get (coneField 8 2) = 0)) := by decide +kernel
/-- 10 kΩ at 25 °C with B 3,950 K has 3,588 Ω at 50 °C; the OFFSET is 0.5 °C. -/
theorem test_ntc : measured ([2, 0, 0, 0, 0, 0, 0, 0] ++ leBytes 4 10000 ++ leBytes 2 3950) (.ntc 500000) = 250 ∧
    measured ([2, 0, 5, 0, 0, 0, 0, 0] ++ leBytes 4 10000 ++ leBytes 2 3950) (.ntc 264060) = 505 ∧
    measured [] (.ntc 19999) = -10001 ∧ measured [] (.ntc 980001) = -10000 := by decide +kernel
theorem test_window : (let s := (warm 0).put Reg.KLN_STATUS_WRITE_OPEN 1
     let f := fun s uv => (run1 (.kilnConversionEnd 0 (.diode uv)) s).get Reg.KLN_STATUS_WRITE_OPEN
     (measured (s.channel 0) (.diode 67096), f s 67096, f s 67300, f (warm 0) 67000, f (warm 0) 66400) = (650, 1, 0, 0, 1)) := by
  decide +kernel
/-- The example of R638: 108.2 °C on an on-die channel. -/
theorem witness_cone3 : (let t := run1 (.kilnConversionEnd 8 (.onDie 1082)) (warm 8)
     t.get Reg.KLN_STATUS_CONE3 = 1 ∧ t.shutState = 1 ∧ t.whl.stopWanted = true ∧ (t.lane 0).sek.phase = .parked ∧
     (let u := run1 .orderlyStop t
      u.shutState = 3 ∧ u.get Reg.KLN_HOLD_LEFT_S = 60 ∧ u.pins.safeStopN = t.pins.safeStopN) ∧
     (let u := run1 .shutdownTimeout t
      u.shutState = 3 ∧ u.pins.safeStopN = false ∧ u.whl.holders = [.kiln] ∧ u.kln.holdMs = 60000 ∧
      run1 .coolingHoldEnd u = u ∧
      (let v := run1 (.kilnConversionEnd 8 (.onDie 1029)) (u.setKln { u.kln with next := some 8 })
       v.get Reg.KLN_STATUS_CONE3 = 0 ∧
       (let w := run1 .coolingHoldEnd v
        w.shutState = 4 ∧ w.get Reg.KLN_STATUS_RESTARTS = 1 ∧ w.whl.holders = [] ∧ w.whlState = 1 ∧ w.kln.toLock = [0] ∧
        w.get Reg.KLN_HOLD_LEFT_S = 0 ∧
        (w.kilnLaneDone 0).1.shutState = 0) ∧
       run1 .coolingHoldEnd (v.put Reg.KLN_STATUS_RESTARTS 3) = v.put Reg.KLN_STATUS_RESTARTS 3))) := by decide +kernel
theorem witness_sensor_fault : (let s := (warm 0).put Reg.KLN_STATUS_WRITE_OPEN 1
     let t := run1 (.kilnConversionEnd 0 (.diode 29999)) s
     t.get (kilnFaultField 0) = 1 ∧ t.get (Reg.KLN_TEMP_VALID 0) = 0 ∧ t.get (coneField 0 2) = 1 ∧ t.get Reg.KLN_STATUS_CONE2 = 1 ∧
     t.get Reg.KLN_STATUS_WRITE_OPEN = 0 ∧ t.get (coneField 0 1) = 0 ∧
     (let again := fun (s : State) => run1 (.kilnConversionEnd 0 (.diode 59159)) (s.setKln { s.kln with next := some 0 })
      (again (again t)).get (kilnFaultField 0) = 1 ∧ (again t).get (Reg.KLN_TEMP_VALID 0) = 1 ∧
      (again (again (again t))).get (kilnFaultField 0) = 0 ∧ (again (again (again t))).get (coneField 0 2) = 0 ∧
      (again (again (again t))).get Reg.KLN_STATUS_WRITE_OPEN = 1)) := by decide +kernel
theorem witness_write_wait : (let c := { io 5 opWrite 3 0 with waitWindow := true }
     let s := (withCmds store [c]).put Reg.KLN_STATUS_WRITE_OPEN 0
     ends (run1 (.writeWaitTimeout 5) s) 5 0x7C1 0 = true ∧ run1 (.writeWaitTimeout 5) (s.put Reg.KLN_STATUS_WRITE_OPEN 1) = s.put Reg.KLN_STATUS_WRITE_OPEN 1 ∧
     (let d := { ata.ataCommand 0x3D 0 opWrite 8 8 0xFFFF true with waitWindow := true }
      sent (run1 (.writeWaitTimeout d.seq) ((withCmds ata [d]).put Reg.KLN_STATUS_WRITE_OPEN 0)) = [[1, 0x51, 4, 0, 8]])) := by decide +kernel

/-! ## Chapter 19 -/

/-- A running device whose lane 0 holds its track. -/
def tracking : State := onLane (wheelIn 4) fun l => { l with sek := { l.sek with phase := .onTrack, head := some 0, target := 9 } }
/-- Whether lane 0 retracts, out of service, with its cut latched and counted. -/
def away (t : State) : Bool := t.laneOut 0 && t.cutLatched 0 && (t.lane 0).sek.phase == .retracting && t.get (Reg.LKO_CNT_WG_CUT_COUNT 0) == 1

theorem witness_hang : after (exec (.hangTimeout 0) (running tracking 0)) (fun t => away t && t.get (Reg.LKO_LANE_CAUSE 0) == 5 &&
      (t.seq 0).run == .hung && t.lko.barred == [0] && t.devState == 0 && after (exec (.sfOverrun 0) t) fun u => u.lanes == t.lanes) = true ∧
    after (exec (.restartTimeout 6) (tracking.setSeq 6 { tracking.seq 6 with run := .restarting })) (fun t => away t && t.devState == 2 &&
      t.get Reg.LKO_STATUS_DEV_CAUSE == 6 && t.whl.stopWanted && t.cfs 0 && t.cfs 1) = true ∧
    after (exec (.sfOverrun 4) (running tracking 4)) (fun t => away t && t.get Reg.LKO_STATUS_DEV_CAUSE == 4) = true ∧
    run1 (.hangTimeout 0) tracking = tracking ∧ (let s := tracking.setSeq 0 { tracking.seq 0 with run := .stalled }
     run1 (.hangTimeout 0) s = s) ∧ run1 (.restartTimeout 0) (running tracking 0) = running tracking 0 ∧
    after (exec (.sfOverrun 8) tracking) (fun t => t.lanes == tracking.lanes) = true := by decide +kernel
theorem witness_fatal_ata : sent (run1 (.hangTimeout 4) (running (withCmds ata [ata.ataCommand 0x25 0 opRead 8 8 0xFFFF false]) 4)) =
    [[1, 0x71, 4, 0, 8]] := by decide +kernel
theorem witness_wedge : after (exec (.wedgeTimeout 0) (tracking.setFmt 0 { (tracking.lane 0).fmt with wgate := true })) (fun t => (t.lane 0).mts.lost &&
      !(t.lane 0).fmt.wgate && t.cutLatched 0 && t.get (Reg.LKO_CNT_WG_CUT_COUNT 0) == 1 && (t.lane 0).sek.phase == .onTrack &&
      after (exec (.relockTimeout 0) t) fun u => away u && u.get (Reg.LKO_LANE_CAUSE 0) == 4) = true ∧
    run1 (.relockTimeout 0) tracking = tracking ∧ run1 (.wedgeTimeout 0) (inPhase .parkDrive) = inPhase .parkDrive := by decide +kernel
theorem witness_runaway_check : (let s := (onLane tracking fun l => { l with sek := { l.sek with phase := .retracting } }).put (Reg.LKO_LANE_CAUSE 0) 3
    let f := fun v => s.setLko { s.lko with lastVel := [v, 0, 0, 0] }
    after (exec (.runawayRetractCheck 0) (f 16385)) (fun t => !t.pins.safeStopN && t.whlState == 7 && t.whl.holders == [.lookout]) = true ∧
    run1 (.runawayRetractCheck 0) (f 16384) = f 16384) := by decide +kernel
/-- Lane 0 parked, out of service after a loss of media time, at speed, with `k` returns made of the two allowed. -/
def outLane (k : Nat) : State :=
  let s := { wheelIn 4 with boot := { (wheelIn 4).boot with image := some (imageOf [(1, geo1), (16, zeros 6 ++ [2] ++ zeros 25)]) } }
  (((s.put (laneOutField 0) 1).put (Reg.LKO_LANE_CAUSE 0) 4).put (Reg.LKO_LANE_RETURNS 0) k).put Reg.WHL_STATUS_AT_SPEED 1
theorem witness_return : after (exec (.laneReturn 0) (outLane 1)) (fun t => !t.laneOut 0 && t.get (Reg.LKO_LANE_RETURNS 0) == 2 &&
      t.get (Reg.SEK_STATUS_STATE 0) == 1) = true ∧ run1 (.laneReturn 0) (outLane 2) = outLane 2 ∧
    after (exec (.laneReturn 0) ((outLane 2).setLko { (outLane 2).lko with reload := [0, 1] })) (fun t => !t.laneOut 0 && t.lko.reload == [1] &&
      t.get (Reg.LKO_LANE_RETURNS 0) == 2 && t.get (Reg.SEK_STATUS_STATE 0) == 1) = true ∧
    (let s := (outLane 1).setLko { (outLane 1).lko with barred := [0] }
     run1 (.laneReturn 0) s = s) := by decide +kernel
theorem witness_supply : after (exec (.supplyTrip 0) tracking) (fun t => away t && t.devState == 3 && t.whlState == 6 && t.whl.mode == .rectify &&
      t.lko.rails == [0] && after (exec (.supplyTrip 0) t) (fun u => u.devState == 3 && away u && u.out == t.out) &&
      after (exec .supplyReturn t) (fun u => u == t)) = true ∧
    after (exec (.supplyTrip 2) tracking) (fun t => away t && t.devState == 4 && t.get Reg.LKO_STATUS_DEV_CAUSE == 3 && !t.pins.safeStopN &&
      t.whlState == 7) = true ∧ run1 (.supplyTrip 1) (tracking.put Reg.LKO_TRIP_V5_TRIP 0) = tracking.put Reg.LKO_TRIP_V5_TRIP 0 := by decide +kernel
theorem witness_supply_flush : after (exec (.supplyTrip 1) { tracking with crn := { tracking.crn with scanned := true } }) (fun t => away t && t.crn.flushing &&
      t.crn.staged.any (·.id == 0x7F7)) = true := by decide +kernel
theorem witness_hard : after (exec .dieOverTemperature tracking) (fun t => away t && t.devState == 4 && t.get Reg.LKO_STATUS_DEV_CAUSE == 2) = true ∧
    after (exec .oscEdgeLoss tracking) (fun t => away t && t.get Reg.LKO_STATUS_DEV_CAUSE == 8 && !t.pins.safeStopN) = true ∧
    after (exec (.oscCalibration 3439999) tracking) (fun t => away t && t.get Reg.LKO_OSC_CAL == 3439999) = true ∧
    after (exec (.oscCalibration 6560001) tracking) away = true ∧
    after (exec (.oscCalibration 3440000) tracking) (fun t => t.get Reg.LKO_OSC_CAL == 3440000 && t.get Reg.LKO_STATUS_CAL_VALID == 1 && t.devState == 0) = true ∧
    after (exec (.oscCalibration 6560000) tracking) (fun t => t.devState == 0) = true ∧
    (let s := { tracking with pwr := { tracking.pwr with crystalStopped := true } }
     run1 .oscEdgeLoss s = s ∧ (let u := { tracking with pins := { tracking.pins with domains := [] } }
       u.oscRuns = false ∧ run1 (.supplyTrip 0) u = u) ∧ run1 (.oscCalibration 1) s = s) := by decide +kernel
theorem witness_overspeed : (let f := fun p => tracking.setLko { tracking.lko with tripPeriod := some 100, lastPeriod := p }
    after (exec .overspeedCheck (f 99)) (fun t => !t.pins.safeStopN && t.whlState == 7) = true ∧ run1 .overspeedCheck (f 100) = f 100 ∧
    (f 100).mediaStatus 0 = 0x7C4) ∧ away (tracking.deviceStop 1) = true ∧ (tracking.deviceStop 1).devState = 2 := by decide +kernel
theorem witness_supply_return : after (exec .supplyReturn ((wheelIn 0).put Reg.LKO_STATUS_DEV_STATE 3 |>.setLko
      { (wheelIn 0).lko with supplyDone := true, rails := [0] })) (fun t => t.devState == 0 && t.whlState == 1 && t.lko.reload == [0] && t.lko.rails == []) = true := by
  decide +kernel

/-! ## Chapter 20 -/

/-- A record as staged, of event `id` with SEQ `k`. -/
def rec1 (k id : Nat) : Record := ⟨k, id, 100, 1, 0, false, false, false, 7, zeros 14⟩
/-- A scanned Cairn with `l` staged, flash of 64 MiB. -/
def recording (l : List Record) : State :=
  { locked1 with boot := { locked1.boot with density := 67108864 }
                 crn := { locked1.crn with scanned := true, staged := l, nextSeq := 9, usedPrimary := 3, lastBody := zeros 60 } }
/-- A flush of those. -/
def flushing (l : List Record) : State := { recording l with crn := { (recording l).crn with flushing := true } }

theorem witness_cairn_flush : after (exec .cairnFlushStart (recording (List.replicate 96 (rec1 8 1)))) (·.crn.flushing) = true ∧
    after (exec .cairnFlushStart (recording [rec1 8 1])) (fun t => !t.crn.flushing) = true ∧
    after (exec .stagingAgeTimeout (recording [rec1 8 1])) (·.crn.flushing) = true ∧
    (let s := { recording [rec1 8 1] with hif := nvme.hif, pins := nvme.pins }
     s.barOpen 0 = true ∧ after (exec (.crnFlushGo (.port 0)) s) (fun t => t.crn.flushing && t.get Reg.CRN_FLUSH_GO == 1) = true) := by decide +kernel
theorem witness_program : after (exec (.cairnRecordProgrammed true) (flushing [rec1 7 1, rec1 8 2])) (fun t => t.crn.commit == 7 && t.crn.used == 4 &&
      t.crn.flushing &&
      after (exec (.cairnRecordProgrammed true) t) (fun u => u.crn.commit == 8 && u.crn.staged.isEmpty && !u.crn.flushing &&
        u.get Reg.CRN_FLUSH_GO == 0)) = true ∧
    after (exec (.cairnRecordProgrammed true) (recording [rec1 7 1])) (fun t => t.crn.staged.length == 1 && t.crn.used == 3) = true := by decide +kernel
theorem witness_program_fails : after (exec .cairnProgramTimeout (flushing [rec1 7 1, rec1 8 2])) (fun t => t.crn.retried && t.crn.used == 4 &&
      t.crn.count == 3 && t.crn.skipped == [3] &&
      after (exec (.cairnRecordProgrammed false) t) (fun u => u.crn.spare && u.crn.staged.map (fun r => (r.id, r.seq)) == [(0x7F3, 7), (1, 8), (2, 9)] &&
        u.crn.used == 0 && u.crn.flushing && u.crn.nextSeq == 10 && (u.crn.staged.map (·.payload)).head? == some 4) &&
      after (exec (.cairnRecordProgrammed false) { t with crn := { t.crn with badSpare := true } }) (fun u => u.crn.bothFail && !u.crn.flushing &&
        u.crn.staged.length == 2)) = true := by decide +kernel
theorem witness_optime : after (exec .optimeSave { locked1 with crn := { locked1.crn with opTime := 5000, pcyc := 3 } }) (fun t =>
    (t.lane 0).sys.opTime == 5000 && (t.lane 0).sys.pcyc == 3 && (t.lane 1).sys.opTime == 0) = true := by decide +kernel

/-- A slot with SEQ 5, OP_TIME 1,000 and PCYC 2 of event 0x123, with a good or a bad CRC. -/
def slot5 (good : Bool) : List Byte :=
  let b : List Byte := leBytes 6 5 ++ leBytes 2 (0x123 + 2 * 2 ^ 11) ++ leBytes 5 1000 ++ leBytes 3 2 ++ zeros 44
  b ++ leBytes 4 (if good then crc32c b else crc32c b + 1)
/-- A device before its scan, 200 ms after POR_N, one event held, with slots of the primary region from slot 0 on. -/
def unscanned (l : List Byte) : State :=
  { locked1 with boot := { locked1.boot with density := 67108864 }, crn := { Cairn.reset with staged := [{ rec1 0 0x10 with opTime := 150 }], elapsed := 200 }
                 flash := Memory.write flashDefault [] (67108864 - 2097152) l }

theorem witness_scan_blank : after (exec (.cairnBootScanEnd false false) (unscanned [])) (fun t => t.flash == [] && t.crn.scanned &&
      t.crn.staged.map (fun r => (r.id, r.seq, r.pcyc, r.opTime)) == [(0x7F0, 1, 1, 200), (0x10, 2, 1, 150)] && t.crn.nextSeq == 3 && !t.crn.chainBreak &&
      after (exec (.cairnBootScanEnd false false) t) (fun u => u.crn.staged == t.crn.staged)) = true := by decide +kernel
theorem witness_scan_one : after (exec (.cairnBootScanEnd false false) (unscanned (slot5 true))) (fun t => t.crn.commit == 5 && t.crn.opTime == 1200 &&
      t.crn.staged.map (fun r => (r.id, r.seq, r.pcyc, r.opTime)) == [(0x7F6, 6, 3, 1200), (0x10, 7, 3, 1150)] && t.crn.used == 1 && t.crn.firstSeq == 5 &&
      !t.crn.chainBreak) = true ∧
    after (exec (.cairnBootScanEnd false false) (unscanned (slot5 true ++ slot5 false))) (fun t => t.crn.staged.map (·.seq) == [6, 7] && t.crn.used == 2 &&
      t.crn.skipped == [1] && t.crn.count == 1 && !t.crn.chainBreak) = true ∧
    after (exec (.cairnBootScanEnd true true) (unscanned [])) (fun t => t.crn.bothFail && t.crn.scanned) = true := by decide +kernel
theorem test_scan_primary_unreadable : after (exec (.cairnBootScanEnd true false) (unscanned [])) (fun t => t.crn.spare && !t.crn.bothFail &&
      t.crn.staged.map (fun r => (r.id, r.seq)) == [(0x7F3, 1), (0x7F0, 2), (0x10, 3)]) = true := by decide +kernel

/-- A clear whose erases end: the CLEAR record with SEQ 9 waits, its command is 5. -/
def clearing1 : State :=
  let s := withCmds (recording [rec1 10 1]) [{ adm 5 0xC1 0 [29920] with started := true }]
  { s with crn := { s.crn with clearing := true, clearOwner := some 5, clearSeq := 9, nextSeq := 11, clearBytes := leBytes 6 9 ++ leBytes 2 0x7F1 ++ zeros 56,
                               chainBreak := true, breakSeq := 4 }
           flash := Memory.write flashDefault [] (67108864 - 2097152) (slot5 true) }
theorem witness_clear_end : after (exec (.cairnClearEraseEnd true) clearing1) (fun t => ends t 5 0 0 && t.crn.commit == 9 && t.crn.firstSeq == 9 &&
      t.crn.count == 1 && !t.crn.clearing && !t.crn.chainBreak && t.crn.breakSeq == 0 && slotSeq (t.slotBytes false 0) == 9 &&
      slotEmpty (t.slotBytes false 1) && slotEmpty (t.slotBytes true 0) && t.crn.staged.map (·.seq) == [10]) = true ∧
    after (exec (.cairnClearEraseEnd false) clearing1) (fun t => ends t 5 0 0 && t.crn.spare && slotSeq (t.slotBytes true 0) == 9 &&
      slotSeq (t.slotBytes false 0) == 5 && t.crn.staged.map (fun r => (r.id, r.seq)) == [(0x7F3, 10), (1, 11)]) = true := by decide +kernel
theorem witness_clear_refused : (let s := withCmds (recording []) [adm 5 0xC1 0 [29920]]
     ends (run1 (.cairnClear 5 .ok []) s) 5 0x7C5 0 = true ∧ ends (run1 (.cairnClear 5 .ok []) (withCmds s [adm 5 0xC1 0 [1]])) 5 0x002 0 = true) ∧
    (let s := { ata with crn := { ata.crn with scanned := true } }
     (sent (run1 (.dv40CairnClear (vfis 0 58) [] .ok) s)).head? = some [1, 0x51, 4, 0, 0]) := by decide +kernel
/-- What an accepted token does, whatever the signature check answers. -/
theorem witness_clear_start : (let t := (withCmds (recording [rec1 8 1]) [adm 5 0xC1 0 [29920]]).clearStart 5 (zeros 6 ++ [1])
     t.crn.clearing = true ∧ t.crn.clearOwner = some 5 ∧ t.crn.clearSeq = 9 ∧ t.crn.nextSeq = 10 ∧ t.crn.flushing = true ∧ t.crn.clearKeySlot = 1) := by
  decide +kernel
/-- R619: the record of `slot5` as a DV-40 event record: SEQ 5, 1 s, PCYC 2, code 0xFFFF. -/
theorem witness_log_a0 : (let s := { ata with boot := { ata.boot with density := 67108864 }
                                              crn := { ata.crn with scanned := true, usedPrimary := 1, commit := 5 }
                                              flash := Memory.write flashDefault [] (67108864 - 2097152) (slot5 true) }
     s.committed.length = 1 ∧ ((dataOf (run1 (.readLogExt (fis 0xA0 1) .ok) s)).take 18).map (·.toNat) = [5, 0, 0, 0, 1, 0, 0, 0, 2, 0, 255, 255, 2, 0, 0, 0, 0x23, 1]) := by decide +kernel

/-! ## Chapter 21 -/

/-- A unit whose chain state is `k`, on I3C or SMBus, without an address. -/
def chained (k pos : Nat) (i3c : Bool) : State :=
  { locked1 with sbd := { locked1.sbd with chain := k, position := pos }
                 boot := { locked1.boot with straps := { locked1.boot.straps with sbSel := i3c } } }
/-- The same with an alert presented. -/
def alerted (i3c : Bool) : State :=
  let s := (chained 1 5 i3c).takeAddr 0x33
  { s with sbd := { s.sbd with alertPend := true }, pins := { s.pins with alertLow := true } }

theorem test_frame_of_the_example : chainFrameOf 5 = [true, false, false, false, false, false, false, false, true, false, true, false, false] ∧
    chainFrameOf 7 = [true, false, false, false, false, false, false, false, true, true, true, true, false] := by decide
theorem witness_chain : (chained 0 0 false).powered = true ∧
    after (exec (.chainFrameReceived 5) (chained 0 0 false)) (fun t => t.sbd.chain == 0 && t.sbd.lastFrame == some 5 &&
      after (exec (.chainFrameReceived 5) t) (fun u => u.sbd.chain == 1 && u.chainId == 5 && u.out.contains (.smbus [0x10, 0xC2, 0, 0]) &&
        u.sbd.joined && !u.pins.chnOut && u.udid.drop 12 == [0, 0, 0, 5] &&
        after (exec .chainFrameSend u) (fun v => v.out.head? == some (.chainFrame (chainFrameOf 6))))) = true ∧
    after (exec .chainSteadyLow (chained 0 0 true)) (fun t => t.sbd.chain == 2 && t.chainId == 0 && t.out.contains (.i3c [2])) = true ∧
    after (exec .chainErrorTimeout (chained 0 0 false)) (fun t => t.sbd.chain == 3 && t.chainId == 0x3FF && t.pins.chnOut &&
      after (exec .chainFrameSend t) (fun u => u.out == t.out)) = true ∧
    after (exec .chainFrameSend (chained 0 0 false)) (fun t => t.out == .chainFrame (chainFrameOf 0) :: locked1.out) = true := by decide +kernel
theorem witness_chain_fixed : after (exec .chainSteadyLow (chained 1 5 false)) (fun t => t == chained 1 5 false) = true ∧
    after (exec (.chainFrameReceived 9) (chained 1 5 false)) (fun t => after (exec (.chainFrameReceived 9) t) (fun u => u.sbd.chain == 1 &&
      u.chainId == 5 && u.sbd.lastFrame == none)) = true := by decide +kernel
theorem witness_arp : after (exec (.arpAssignAddress (chained 2 0 false).udid 0x33) (chained 2 0 false)) (fun t => t.smbusAddr == some 0x33 &&
      t.get Reg.SBD_STATUS_ADDR_VALID == 1) = true ∧ (chained 2 0 false).smbusAddr = some 0x1D ∧
    after (exec (.arpAssignAddress (chained 2 0 false).udid 0x33) (chained 1 0 false)) (fun t => t.smbusAddr == some 0x33) = true ∧
    after (exec (.arpAssignAddress (chained 2 0 false).udid 0x33) (chained 1 5 false)) (fun t => t.smbusAddr == none) = true ∧
    (alerted false).smbusAddr = some 0x33 ∧ after (exec .sclLowTimeout (alerted false)) (fun t => t.out.head? == some .busRelease) = true := by
  decide +kernel
theorem witness_alert_release : after (exec .alertResponseAddressRead (alerted false)) (fun t => !t.sbd.alertPend && !t.pins.alertLow) = true ∧
    after (exec .ibiAcknowledge (alerted true)) (fun t => !t.sbd.alertPend && !t.pins.alertLow) = true := by decide +kernel
theorem witness_i3c : (let s := chained 1 5 true
     s.powered = true ∧ s.i3c = true ∧ s.hasAddr = false ∧
     s.pid = [0x05, 0x8A, s.deviceId / 256, s.deviceId % 256, 0, 5].map (BitVec.ofNat 8) ∧
     after (exec (.entdaa 0x44) s) (fun t => t.hasAddr && t.get Reg.SBD_ADDR_ADDR == 0x44 && t.out.head? == some (.i3c (s.pid ++ [6, 0])) &&
       after (exec (.entdaa 0x45) t) (fun u => u == t) && after (exec .rstdaa t) (fun u => !u.hasAddr && u.get Reg.SBD_ADDR_ADDR == 0) &&
       after (exec (.setnewda 0x21) t) (fun u => u.get Reg.SBD_ADDR_ADDR == 0x21) && after (exec .getbcr t) (fun u => u.out.head? == some (.i3c [6])) &&
       after (exec (.setmwl 300) t) (fun u => after (exec .getmwl u) (fun v => v.out.head? == some (.i3c [1, 0])))) = true) ∧
    after (exec .getstatus (alerted true)) (fun t => t.free == locked1.free + 1) = true ∧
    after (exec (.enec 1) (chained 1 5 true)) (fun t => t.sbd.ibi && after (exec (.disec 1) t) (fun u => !u.sbd.ibi)) = true := by decide +kernel

/-- EID 9 is set, and the configuration is locked. -/
def eid9 (s : State) : State := ((s.put Reg.SBD_ADDR_EID 9).put Reg.SBD_STATUS_EID_VALID 1).put Reg.IMG_BOOT_STATUS_LOCKED 1
theorem witness_mctp : (chained 1 5 false).answers 0 = true ∧ (chained 1 5 false).answers 9 = false ∧ (eid9 nvme).miOpen 9 = true ∧
    after (exec (.setEndpointId 0 3 9) (chained 1 5 false)) (fun t => t.answers 9 && t.out.contains (.mctp [0, 3, 1, 0, 0, 9, 0])) = true ∧
    after (exec (.setEndpointId 0 3 255) (chained 1 5 false)) (fun t => !t.answers 9 && t.out.head? == some (.mctp [0, 3, 1, 2])) = true ∧
    after (exec (.getMessageTypeSupport 0 3) (chained 1 5 false)) (fun t => t.out.head? == some (.mctp [0, 3, 5, 0, 2, 0, 4])) = true ∧
    after (exec (.getMctpVersionSupport 0 3 5) (chained 1 5 false)) (fun t => t.out.head? == some (.mctp [0, 3, 4, 0x80])) = true ∧
    after (exec (.mctpMessageDrop 1) (chained 1 5 false)) (fun t => t.get Reg.SBD_CNT_MCTP_ERR_COUNT == 1) = true := by decide +kernel
theorem witness_mi : (eid9 nvme).miControllers ≠ [] ∧
    after (exec (.readNvmeMiDataStructure 9 0x2000000 0) (eid9 nvme)) (fun t => t.out.head? == some (.miResponse 0 [6, 0, 0, 2, 0, 1, 0, 2, 0])) = true ∧
    after (exec (.readNvmeMiDataStructure 9 0 0) (eid9 nvme)) (fun t => t.out.head? == some (.miResponse 0 ([32, 0, 0, 2, 2] ++ zeros 30))) = true ∧
    after (exec (.nvmSubsystemHealthStatusPoll 9) (eid9 nvme)) (fun t => t.free == nvme.free + 1) = true ∧
    after (exec (.controllerHealthStatusPoll 9 0) (eid9 nvme)) (fun t => t.free == nvme.free + 1) = true ∧
    ((eid9 nvme).csts 0, ((eid9 nvme).put Reg.IMG_BOOT_STATUS_HOLD 1).csts 0 / 2 % 2) = (1, 1) ∧
    after (exec (.configurationSet 9 3 64) (eid9 nvme)) (fun t => t.sbd.miMtu == 64 &&
      after (exec (.configurationGet 9 3) t) (fun u => u.out.head? == some (.miResponse 0 [64, 0, 0]))) = true ∧
    after (exec (.configurationGet 9 5) (eid9 nvme)) (fun t => t.out.head? == some (.miResponse 4 [0, 0, 0])) = true ∧
    after (exec (.miReset 9 0) (eid9 (withCmds nvme [done1 7]))) (fun t => gone t 0) = true ∧
    (eid9 nvme).portServes 0 = true ∧ ((eid9 nvme).hif.cmds.all fun c => !c.transferred) = true ∧ (eid9 nvme).cache.selfTest = none ∧
    after (exec (.miReset 9 0x1000000) (eid9 nvme)) (fun t => (t.ctl 0).rdy && t.out.head? == some (.miResponse 4 [0, 0, 0])) = true := by
  decide +kernel
theorem witness_tunnel : after (exec (.tunnelledAdminCommand 9 1 ⟨0x06, 0, 0, 1, 0, [1]⟩) (eid9 nvme)) (fun t => t.hif.cmds.any fun c =>
      c.seq == nvme.hif.nextSeq && c.sq == sqTunnel && c.opcode == 6 && c.port == 0 && !c.ended) = true ∧
    after (exec (.tunnelledAdminCommand 9 1 ⟨0x01, 0, 0, 1, 0, []⟩) (eid9 nvme)) (fun t => t.out.head? == some (.miResponse 3 [])) = true ∧
    after (exec (.tunnelledAdminCommand 9 7 ⟨0x06, 0, 0, 1, 0, []⟩) (eid9 nvme)) (fun t => t.out.head? == some (.miResponse 4 [])) = true ∧
    after (exec (.tunnelledAdminCommand 9 1 ⟨0x06, 0, 0, 1, 0, []⟩) (eid9 ata)) (fun t => t.out.head? == some (.miResponse 4 [])) = true := by
  decide +kernel
theorem witness_mi_in_band : ends (run1 (.nvmeMiSend 5) (withCmds store [adm 5 0x1D 0 [0, 3, 3, 64]])) 5 0 0 = true ∧
    ends (run1 (.nvmeMiSend 5) (withCmds store [adm 5 0x1D 0 [0, 9, 3, 64]])) 5 0 3 = true ∧
    ends (run1 (.nvmeMiReceive 5 .ok) (withCmds store [adm 5 0x1E 0 [0, 4, 3, 0]])) 5 0 (64 * 256) = true := by decide +kernel

/-- EID 9 with the gate open. -/
def gateOpen : State := (eid9 nvme).put Reg.SBD_GATE_OPEN 1
theorem witness_gate_access : (eid9 nvme).locked = true ∧ (eid9 nvme).held = false ∧
    after (exec (.registerRead 9 0xC0008 1) ((eid9 nvme).put Reg.IMG_BOOT_STATUS_LOCKED 0)) (fun t => t.out.head? == some (.miResponse 0xE0 [0, 0, 0])) = true ∧
    after (exec (.registerWrite 9 0xC0008 0) ((eid9 nvme).put Reg.IMG_BOOT_STATUS_LOCKED 0)) (fun t => t.out.head? == some (.miResponse 0xE0 [0, 0, 0])) = true ∧
    after (exec (.registerRead 9 0xC0008 1) (eid9 nvme)) (fun t => t.out.head? == some (.miResponse 7 [0, 0, 0])) = true ∧
    after (exec (.registerRead 9 0xC0008 65) (eid9 nvme)) (fun t => t.out.head? == some (.miResponse 4 [0, 0, 0])) = true ∧
    after (exec (.registerRead 9 0xC0004 1) (eid9 nvme)) (fun t => t.out.head? == some (.miResponse 0 [0, 0, 0, 0, 9, 0, 0])) = true ∧
    after (exec (.registerWrite 9 0xC0008 0) (eid9 nvme)) (fun t => t.out.head? == some (.miResponse 7 [0, 0, 0])) = true ∧
    after (exec (.registerRead 9 0xC0008 1) gateOpen) (fun t => t.out.head? == some (.miResponse 0 [0, 0, 0, 0, 0, 0, 0x80])) = true ∧
    after (exec (.registerWrite 9 0xC0008 5) gateOpen) (fun t => t.get Reg.SBD_GATE_OPEN == 1 && t.get Reg.SBD_GATE_TIMEOUT_S == 0 &&
      t.out.head? == some (.miResponse 0 [0, 0, 0])) = true := by decide +kernel
theorem witness_gate_read_waits : gateOpen.sidebandReads tqPopLo = true ∧ (gateOpen.queue 7).depth = 0 ∧ gateOpen.tqWait = [] ∧
    after (exec (.registerRead 9 tqPopLo 1) gateOpen) (fun t => t.tqWait == [.sideband] && t.out == gateOpen.out &&
      after (exec (.tqPopTimeout .sideband) t) (fun u => u.out.head? == some (.miResponse 0 [0, 0, 0, 0, 128, 0, 0]) && u.tqWait.isEmpty)) = true := by
  decide +kernel
theorem witness_gate_write : (eid9 nvme).barOpen 0 = true ∧ after (exec (.sbdGateWrite 0 0x8000003C) (eid9 nvme)) (fun t => t.get Reg.SBD_GATE_OPEN == 1 &&
      t.get Reg.SBD_GATE_TIMEOUT_S == 60 && after (exec .gateTimeout t) (fun u => u.get Reg.SBD_GATE_OPEN == 0 && u.get Reg.SBD_GATE_TIMEOUT_S == 60)) = true ∧
    after (exec .gateTimeout gateOpen) (fun t => t == gateOpen) = true := by decide +kernel
/-- A drive on track whose one link is gone, with dirty blocks. -/
def unlinked : State := (onLane { cached with hif := { cached.hif with trained := [0] } } fun l => { l with sek := { l.sek with phase := .onTrack } }).setPort 0
  { (cached.port 0) with linkUp := false }
theorem witness_link_loss : unlinked.anyLink = false ∧ unlinked.destageable = true ∧ unlinked.devState ≠ 3 ∧ unlinked.used 0 = true ∧
    after (exec .hostLinkLoss unlinked) (fun t => t.get Reg.SBD_STATUS_HOST_LINK_LOST == 1 && t.sbd.lossDestage && t.mustDestage &&
      after (exec .hostLinkLossTimeout t) (fun u => u.whl.stopWanted && (u.lane 0).sek.phase != .onTrack && u.cache == t.cache)) = true ∧
    after (exec .hostLinkLoss { unlinked with sbd := { unlinked.sbd with shutdown := true } })
      (fun t => t.get Reg.SBD_STATUS_HOST_LINK_LOST == 0) = true ∧
    after (exec .hostLinkLossTimeout unlinked) (fun t => t == unlinked) = true := by decide +kernel

/-! ## Chapter 22 -/

/-- Port 0's BAR2 is open, after the lock. -/
def windowed : State := nvme.put Reg.IMG_BOOT_STATUS_LOCKED 1
/-- The last value read. -/
def readBack (t : State) (v : Nat) : Bool := t.out.head? == some (.readData (.port 0) (BitVec.ofNat 32 v))
/-- Register `off` holds 77; the command reads and clears its `w` bits. -/
def clears (i : Instr) (off w : Nat) : Bool := after (exec i (windowed.setReg off 77)) fun t => readBack t 77 && (t.reg off).toNat % 2 ^ w == 0

theorem witness_counters : windowed.barOpen 0 = true ∧ windowed.locked = true ∧ windowed.present 1 = true ∧ windowed.seqPresent 6 = true ∧
    clears (.absentCntRead (.port 0)) 0x20 32 = true ∧ clears (.slotPeakRead (.port 0)) 0x71004 17 = true ∧
    clears (.cntMctpErrRead (.port 0)) 0xC0010 32 = true ∧ clears (.cntWgCutRead (.port 0) 1) 0xA0044 32 = true ∧
    clears (.privLostRead (.port 0) 1) 0x2004C 30 = true ∧ clears (.qDropsRead (.port 0) 7) 0x130E8 8 = true ∧
    clears (.qDropsRead (.port 0) 6) 0x130C8 8 = true ∧ clears (.whlCounterRead (.port 0) 3) 0x8002C 32 = true ∧
    clears (.bufCounterRead (.port 0) 6) 0x40118 32 = true := by decide +kernel
theorem witness_lane_counters : clears (.chnCounterRead (.port 0) 1 0) 0x140060 32 = true ∧ clears (.chnCounterRead (.port 0) 1 5) 0x140074 32 = true ∧
    clears (.chnCounterRead (.port 0) 1 21) 0x1400BC 32 = true ∧ clears (.rcvCounterRead (.port 0) 1 17) 0x140184 32 = true ∧
    clears (.fmtCounterRead (.port 0) 1 3) 0x15001C 32 = true ∧ clears (.sveCounterRead (.port 0) 1 3) 0x16002C 32 = true ∧
    clears (.sekCounterRead (.port 0) 1 4) 0x170030 32 = true := by decide +kernel
theorem witness_lo_read : (let s := { windowed with crn := { windowed.crn with opTime := 0xFFFFFFFF } }
     after (exec (.loRegisterRead (.port 0) 0xB0020) s) (fun t => readBack t 0xFFFFFFFF &&
       (({ t with crn := { t.crn with opTime := 2 ^ 32 } } : State).readReg (.req (.port 0)) 0xB0024).1 == 0)) = true ∧
    (let s := { windowed with hif := { windowed.hif with nextSeq := 5 + 2 ^ 32 } }
     after (exec (.loRegisterRead (.port 0) 0x71008) s) (fun t => readBack t 5 && (t.readReg (.req (.port 0)) 0x7100C).1 == 1)) = true ∧
    after (exec (.loRegisterRead (.port 0) 0x130010) ((windowed.setReg 0x130010 7).setReg 0x130014 2)) (fun t => readBack t 7 &&
      !t.absentAt 0x130014 && (t.readReg (.req (.port 0)) 0x130014).1 == 2) = true := by decide +kernel

theorem witness_window_write : nvme.barOpen 0 = true ∧ nvme.locked = false ∧
    after (exec (.registerWindowWrite (.port 0) 0x30 5) nvme) (fun t => t.reg 0x30 == 0) = true ∧
    after (exec (.registerWindowWrite (.port 0) 0x30 5) windowed) (fun t => t.reg 0x30 == 5) = true ∧
    after (exec (.registerWindowWrite (.port 0) 0x120FC 5) (windowed.setReg 0x120FC 7)) (fun t => t.reg 0x120FC == 2) = true ∧
    after (exec (.registerWindowWrite (.port 0) 0x28 5) windowed) (fun t => t == windowed) = true ∧
    after (exec (.registerWindowWrite (.port 0) 0xE0000 5) windowed) (fun t => t == windowed) = true ∧
    after (exec (.registerWindowWrite (.port 0) 0x3FFFFC 5) windowed) (fun t => t == windowed) = true := by decide +kernel
theorem test_reserved_encoding : after (exec (.registerWindowWrite (.port 0) 0x13004 129) windowed) (fun t =>
    t.get (Reg.EVT_Q_CTRL_LEVEL 0) == windowed.get (Reg.EVT_Q_CTRL_LEVEL 0)) = true := by decide +kernel

/-- A PX84-D: lanes 2 and 3 are absent. -/
def px84d : State := { windowed with fuses := { windowed.fuses with variant := .d } }
theorem test_example_of_r722 : px84d.present 2 = false ∧ px84d.barOpen 0 = true ∧
    after (exec (.absentAccess (.port 0) 0x1A0F00 false 0) px84d) (fun t => t.reg 0x20 == 1 && t.reg 0x24 == 0x1A0F00 &&
      t.out.contains (.readData (.port 0) 0)) = true ∧
    after (exec (.absentAccess (.port 0) 0x1A0F00 true 9) px84d) (fun t => t.reg 0x20 == 1 && t.reg 0x24 == 0x5A0F00) = true ∧
    windowed.absentAt (dword 0x1A0F00) = false ∧ after (exec (.absentAccess (.port 0) 0x1A0F00 false 0) windowed) (fun t => t == windowed) = true := by
  decide +kernel
theorem witness_malformed : after (exec (.partialWrite 0 0x30) (windowed.put (Reg.EVT_ROUTE_WORD 14) 0x4000)) (fun t => t.reg 0x30 == 0 && bit (t.reg 0x12000).toNat 14) = true ∧
    after (exec (.boundaryCrossingRequest 0) windowed) (fun t => t.out.head? == some .completerAbort) = true ∧
    after (exec (.atomicopRequest 0) windowed) (fun t => t.out.head? == some .unsupportedRequest) = true := by decide +kernel

/-! ## Well-formedness: an ill-formed term for each check -/

def goodDecode : DecodeResult :=
  { needs := 3, ran := 0, crcOk := true, freqLimit := false, data := zeros 4096, tag := zeros 8, rawErrors := 0, mse := 0, snr := 0
    agc := [], asym := [], phase := 0, freqPpm := 0, cells := [], layers := 0 }
def goodAnswer : PspAnswer := ⟨0, 0, 0, 0⟩
def goodDemod : Demod := ⟨some 12, 0, 0, 0, 0, 0⟩
def goodEnv : SampleEnv := ⟨12000, [], 1, false, 0, 0⟩
def goodEntry : SqEntry := ⟨0, 0, 0, 0, 0, [0, 0, 0, 0, 0, 0]⟩
def goodFis : AtaFis := ⟨0, 0, 0, 0, false⟩
/-- No term of the list is well formed. -/
def refused (l : List Instr) : Bool := l.all fun i => !i.wf

theorem test_wf_accepts : [Instr.sectorDecodeEnd 0 goodDecode, .pspReadFrame 0 127 goodAnswer, .servoSample 0 goodDemod goodEnv, .commandFetch 0 goodEntry,
    .readDma goodFis .ok quiet, .progressRecord [0, 0, 0, 0], .spinSample ⟨0, 2047, true, 0, 0⟩, .statusFrame ⟨255, 255, 65535, 65535⟩,
    .read (2 ^ 48 - 1) .ok quiet, .eventRaise 0 [0]].all (·.wf) = true := by decide +kernel
theorem test_wf_decode : refused ([{ goodDecode with needs := 65 }, { goodDecode with ran := 65 }, { goodDecode with rawErrors := 36865 },
    { goodDecode with phase := 64 }, { goodDecode with mse := 65536 }, { goodDecode with snr := 65536 }, { goodDecode with freqPpm := 32768 },
    { goodDecode with agc := [(4096, 0)] }, { goodDecode with agc := [(0, 2048)] }, { goodDecode with asym := [(65536, 0)] },
    { goodDecode with asym := [(0, 32768)] }, { goodDecode with data := [] }, { goodDecode with cells := [some [0, 0]] }, { goodDecode with cells := [some [0, 128, 0]] }, { goodDecode with tag := [] }].map (.sectorDecodeEnd 0)) = true ∧
    refused [.sectorPreambleStart 0 0 (2 ^ 41) goodDecode, .sectorPreambleStart 0 0 0 { goodDecode with mse := 65536 },
      .framingDecision 0 0 [] ⟨[], [some [-129, 0, 0]]⟩] = true := by decide +kernel
theorem test_wf_preamp : refused [.pspReadFrame 0 128 goodAnswer, .pspReadFrame 0 0 ⟨65536, 0, 0, 0⟩, .pspReadFrame 0 0 ⟨0, 0, 65536, 0⟩, .pspReadFrame 0 0 ⟨0, 256, 0, 0⟩, .pspReadFrame 0 0 ⟨0, 0, 0, 256⟩,
    .pspWriteFrame 0 128 0 goodAnswer goodAnswer, .pspWriteFrame 0 0 65536 goodAnswer goodAnswer, .pspWriteFrame 0 0 0 ⟨65536, 0, 0, 0⟩ goodAnswer,
    .pspWriteFrame 0 0 0 goodAnswer ⟨65536, 0, 0, 0⟩, .pspAccessGo 0 .sideband 0 ⟨65536, 0, 0, 0⟩ goodAnswer,
    .pspAccessGo 0 .sideband 0 goodAnswer ⟨65536, 0, 0, 0⟩, .pfaultNFall 0 ⟨65536, 0, 0, 0⟩, .servoLock 0 true ⟨65536, 0, 0, 0⟩] = true := by
  decide +kernel
theorem test_wf_servo : refused ([{ goodDemod with sam := some 6400 }, { goodDemod with wedge := 1024 }, { goodDemod with track := 2 ^ 24 }, { goodDemod with n := 32768 },
    { goodDemod with q := -32769 }, { goodDemod with rro := 2 ^ 18 }].map fun d => .servoSample 0 d goodEnv) = true ∧
    refused [.servoSample 0 goodDemod { goodEnv with acc := [(32768, 0)] },
      .servoSample 0 goodDemod { goodEnv with acc := [(0, 32768)] }, .seek 0 8 0, .seek 0 0 (2 ^ 22), .load 0 8 0, .load 0 0 (2 ^ 22),
      .actSample 0 32768 0, .actSample 0 0 32768] = true := by decide +kernel
theorem test_wf_wheel : refused [.spinSample ⟨32768, 0, true, 0, 0⟩, .spinSample ⟨0, 2048, true, 0, 0⟩, .spinSample ⟨0, 0, true, 2048, 5000⟩,
    .spinSample ⟨0, 0, true, 5, 4⟩, .statusFrame ⟨256, 0, 0, 0⟩, .statusFrame ⟨0, 256, 0, 0⟩, .statusFrame ⟨0, 0, 65536, 0⟩, .statusFrame ⟨0, 0, 0, 65536⟩,
    .uplinkFrameDiscard true 8, .motorFaultNFall 256 0] = true := by decide +kernel
theorem test_wf_media : refused [.writeStepStart 0 [2 ^ 41], .parityRebuild 0 32 0 0, .parityRebuild 0 0 (2 ^ 22) 0, .inPlaceVerify 0 (2 ^ 41) true,
    .recalibration 0 32 [], .pageCorrectionEnd (2 ^ 23) .uncorrectable false, .progressRecord [0, 0, 0], .eventRaise 0 [],
    .eventRaise 0 (List.replicate 9 0), .eventRaise 0 [2 ^ 48]] = true := by decide +kernel
theorem test_wf_ports : refused [.pcieLinkUp 0 0 1, .pcieLinkUp 0 6 1, .pcieLinkUp 0 1 0, .pcieLinkUp 0 1 3, .msixUnmask 0 2048 true, .coalescingTimeout 0 2048,
    .ccShnWrite 0 4, .sataLinkUp 0, .sataLinkUp 4, .setFeaturesSetTransferMode 256, .standby 256, .idle 256] = true ∧
    refused ([{ goodEntry with opcode := 256 }, { goodEntry with psdt := 4 }, { goodEntry with cid := 65536 }, { goodEntry with nsid := 2 ^ 32 },
      { goodEntry with cdw := [] }, { goodEntry with cdw := [2 ^ 32, 0, 0, 0, 0, 0] }].map (.commandFetch 0)) = true := by decide +kernel
theorem test_wf_sequence_numbers : refused ([Instr.completionPost, .deleteIoSubmissionQueue, .createIoSubmissionQueue, .deleteIoCompletionQueue,
    .createIoCompletionQueue, .abort, .asynchronousEventRequest, .firmwareCommit, .firmwareImageDownload, .nvmeMiSend, .formatNvm, .sanitize,
    .retireBufferPage, .declareBufferChipDead, .flush, .writeUncorrectable, .writeZeroes, .writeCommit, .writeWaitTimeout].map (· (2 ^ 48))) = true ∧
    refused ([Instr.getLogPage, .identify, .getFeatures, .nvmeMiReceive, .reservationReport].map (· (2 ^ 48) .ok)) = true ∧
    refused ([Instr.verify, .readResolve].map (· (2 ^ 48) quiet)) = true ∧
    refused ([Instr.setFeatures, .cairnClear, .reservationRegister, .reservationAcquire, .reservationRelease].map (· (2 ^ 48) .ok [])) = true ∧
    refused [.deviceSelfTest (2 ^ 48) false, .read (2 ^ 48) .ok quiet, .write (2 ^ 48) [] .ok] = true := by decide +kernel
theorem test_wf_fis : refused ([{ goodFis with features := 65536 }, { goodFis with lba := 2 ^ 48 }, { goodFis with count := 65536 },
    { goodFis with tag := 32 }].map .writeUncorrectableExt) = true ∧
    (let f : AtaFis := { goodFis with tag := 32 }
     refused ([Instr.writeUncorrectableExt, .smartAttributeAutosave, .smartEnableOperations, .smartDisableOperations, .smartReturnStatus, .setSectorFormat,
       .dv40RetireBufferPage, .dv40DeclareBufferChipDead].map (· f)) = true ∧
     refused ([Instr.readLogExt, .readLogDmaExt, .smartReadData, .smartReadThresholds, .smartReadLog, .readCounters, .readGrownDefects, .readPending,
       .readBufferHealth].map (· f .ok)) = true ∧
     refused ([Instr.readSectors, .readSectorsExt, .readDmaExt, .readDma, .readFpdmaQueued].map (· f .ok quiet)) = true ∧
     refused ([Instr.writeSectors, .writeSectorsExt, .writeDmaExt, .writeDma, .writeDmaFuaExt, .writeFpdmaQueued].map (· f [] .ok)) = true ∧
     refused ([Instr.readVerifySectors, .readVerifySectorsExt].map (· f quiet)) = true ∧
     refused ([Instr.writeLogExt, .writeLogDmaExt, .smartWriteLog].map (· f [] .ok)) = true ∧ refused [.dv40CairnClear f [] .ok] = true ∧
     refused [.smartExecuteOffLineImmediate f false] = true) := by decide +kernel
theorem test_wf_sideband : refused [.chainFrameReceived 1024, .setEndpointId 256 0 9, .setEndpointId 0 32 9, .setEndpointId 0 0 256, .getEndpointId 256 0,
    .getEndpointId 0 32, .getEndpointUuid 256 0, .getEndpointUuid 0 32, .getMctpVersionSupport 256 0 0, .getMctpVersionSupport 0 32 0,
    .getMessageTypeSupport 256 0, .getMessageTypeSupport 0 32, .readNvmeMiDataStructure 256 0 0, .nvmSubsystemHealthStatusPoll 256,
    .controllerHealthStatusPoll 256 0, .configurationSet 256 0 0, .configurationGet 256 0, .miReset 256 0, .registerRead 256 0 1,
    .registerRead 0 4194304 1, .registerRead 0 0 0, .registerRead 0 0 65, .registerWrite 256 0 0, .registerWrite 0 4194304 0,
    .tunnelledAdminCommand 256 0 goodEntry, .tunnelledAdminCommand 0 65536 goodEntry, .tunnelledAdminCommand 0 0 { goodEntry with psdt := 4 },
    .entdaa 128, .setnewda 128, .setmrl 65536, .setmwl 65536, .enec 256, .disec 256, .arpAssignAddress [] 0, .arpAssignAddress (zeros 16) 128] = true := by
  decide +kernel
theorem test_wf_rest : refused [.oscCalibration (2 ^ 24), .sfOverrun 16, .absentAccess .sideband 4194304 false 0, .partialWrite 0 4194304,
    .loRegisterRead .sideband 4194304, .registerWindowWrite .sideband 4194304 0, .avsResponse 65536] = true := by decide +kernel

end Sys2Proof.Tests
end

section
/-! What work on a lane leaves unchanged: loading an active set, preamp writes that become due, and going on to the next operation. -/

namespace Sys2Proof.Machine

/-- What choosing an active set, or the next operation of a lane, keeps of a lane: the system area, the spares given out, and of FMT the
gate, the write step, the refusal and what the preamp holds. -/
structure LaneKept (x y : LaneState) : Prop where
  sys : y.sys = x.sys
  remap : y.rcv.remap = x.rcv.remap
  wgate : y.fmt.wgate = x.fmt.wgate
  write : y.fmt.write = x.fmt.write
  refused : y.fmt.refused = x.fmt.refused
  preamp : y.fmt.preamp = x.fmt.preamp

theorem LaneKept.refl (x : LaneState) : LaneKept x x := ⟨rfl, rfl, rfl, rfl, rfl, rfl⟩

theorem LaneKept.trans {x y z : LaneState} (h : LaneKept x y) (k : LaneKept y z) : LaneKept x z :=
  ⟨k.sys.trans h.sys, k.remap.trans h.remap, k.wgate.trans h.wgate, k.write.trans h.write, k.refused.trans h.refused,
    k.preamp.trans h.preamp⟩

/-- What such work keeps of the machine: all but registers, schedulers, drawn free values and, in the lanes, what `LaneKept` leaves open. -/
structure LaneFrame (s t : State) : Prop where
  rest : ∃ r l c f, t = { s with regs := r, lanes := l, scheds := c, free := f }
  lane : ∀ n, LaneKept (s.lane n) (t.lane n)

theorem LaneFrame.refl (s : State) : LaneFrame s s := ⟨⟨_, _, _, _, rfl⟩, fun _ => .refl _⟩

theorem LaneFrame.trans {s t u : State} (h : LaneFrame s t) (k : LaneFrame t u) : LaneFrame s u := by
  refine ⟨?_, fun n => (h.lane n).trans (k.lane n)⟩
  obtain ⟨_, _, _, _, rfl⟩ := h.rest
  obtain ⟨r, l, c, f, rfl⟩ := k.rest
  exact ⟨r, l, c, f, rfl⟩

theorem LaneFrame.put (s : State) (f : Fld) (v : Nat) : LaneFrame s (s.put f v) := ⟨⟨_, _, _, _, rfl⟩, fun _ => .refl _⟩

theorem LaneFrame.wake (s : State) (b : GateBlock) : LaneFrame s (s.wake b) := by
  unfold State.wake
  split
  · exact .put ..
  · exact .refl s

theorem LaneFrame.setSched (s : State) (n : Lane) (l : List MediaOp) : LaneFrame s (s.setSched n l) :=
  ⟨⟨_, _, _, _, rfl⟩, fun _ => .refl _⟩

theorem LaneFrame.setLane (s : State) (n : Lane) (l : LaneState) (h : LaneKept (s.lane n) l) : LaneFrame s (s.setLane n l) := by
  refine ⟨⟨_, _, _, _, rfl⟩, fun m => ?_⟩
  by_cases hm : m = n
  · subst hm; rwa [State.lane_setLane_same]
  · rw [State.lane_setLane_ne _ _ hm]; exact .refl _

theorem LaneFrame.setChan (s : State) (n : Lane) (c : Chan) : LaneFrame s (s.setChan n c) :=
  .setLane _ _ _ ⟨rfl, rfl, rfl, rfl, rfl, rfl⟩

theorem LaneFrame.pspDue (s : State) (n : Lane) (addr data : Nat) : LaneFrame s (s.pspDue n addr data) :=
  .setLane _ _ _ ⟨rfl, rfl, rfl, rfl, rfl, rfl⟩

theorem LaneFrame.foldl {α : Type} (f : State → α → State) (h : ∀ s a, LaneFrame s (f s a)) (l : List α) (s : State) :
    LaneFrame s (l.foldl f s) := by
  induction l generalizing s with
  | nil => exact .refl s
  | cons a t ih => exact (h s a).trans (ih _)

theorem LaneFrame.loadEntries (s : State) (n : Lane) : LaneFrame s (s.loadEntries n) := .setChan ..

theorem LaneFrame.readStep (s : State) (n : Lane) : LaneFrame s (s.readStep n) :=
  ((((loadEntries s n).trans (.put ..)).trans (.put ..)).trans (.put ..)).trans (.put ..)

theorem LaneFrame.retune (s : State) (n : Lane) : LaneFrame s (s.retune n) := by
  unfold State.retune
  simp only
  repeat' split
  · exact .refl s
  · exact .setChan ..
  · exact .refl s

theorem LaneFrame.loadNow (s : State) (n : Lane) (ix target : Nat) : LaneFrame s (s.loadNow n ix target) := by
  unfold State.loadNow
  split
  · exact .refl s
  · refine LaneFrame.trans ?_ (.foldl _ (fun _ _ => .pspDue ..) _ _)
    refine LaneFrame.trans ?_ (.retune ..)
    refine LaneFrame.trans ?_ (.loadEntries ..)
    refine LaneFrame.trans ?_ (.setChan ..)
    exact ((((put s _ _).trans (.put ..)).trans (.put ..)).trans (.put ..)).trans (.put ..)

theorem LaneFrame.stepEnded (s : State) (n : Lane) : LaneFrame s (s.stepEnded n) := by
  unfold State.stepEnded
  repeat' split
  · exact .refl s
  · exact .loadNow ..
  · exact .refl s

end Sys2Proof.Machine
end

section
/-! POR_N and the supply domains (R44, R58, R59, R70): the obligation `PorFallResetsAndRiseStartsBoot`. -/

namespace Sys2Proof.Machine

/-- What POR_N's fall keeps. -/
structure PowerKept (s t : State) : Prop where
  pending : t.pending = s.pending
  flash : t.flash = s.flash
  fuses : t.fuses = s.fuses
  sys : ∀ n, (t.lane n).sys = (s.lane n).sys

theorem PowerKept.refl (s : State) : PowerKept s s := ⟨rfl, rfl, rfl, fun _ => rfl⟩

theorem PowerKept.trans {s t u : State} (h : PowerKept s t) (k : PowerKept t u) : PowerKept s u :=
  ⟨k.pending.trans h.pending, k.flash.trans h.flash, k.fuses.trans h.fuses, fun n => (k.sys n).trans (h.sys n)⟩

theorem PowerKept.foldl {α : Type} (f : State → α → State) (h : ∀ s a, PowerKept s (f s a)) (l : List α) (s : State) :
    PowerKept s (l.foldl f s) := by
  induction l generalizing s with
  | nil => exact .refl s
  | cons a t ih => exact (h s a).trans (ih _)

theorem LaneFrame.powerKept {s t : State} (h : LaneFrame s t) : PowerKept s t := by
  obtain ⟨_, _, _, _, rfl⟩ := h.rest
  exact ⟨rfl, rfl, rfl, fun n => (h.lane n).sys⟩

theorem PowerKept.writeMedia (s : State) (pba : Nat) (data tag : List Byte) (key : Option (Nat × Nat)) (whole : Bool) :
    PowerKept s (s.writeMedia pba data tag key whole) := ⟨rfl, rfl, rfl, fun _ => rfl⟩

theorem PowerKept.markStale (s : State) (g : GroupId) : PowerKept s (s.markStale g) := ⟨rfl, rfl, rfl, fun _ => rfl⟩

theorem PowerKept.setFmt (s : State) (n : Lane) (f : Fmt) : PowerKept s (s.setFmt n f) := by
  refine ⟨rfl, rfl, rfl, fun m => ?_⟩
  by_cases hm : m = n
  · subst hm; rw [State.setFmt, State.lane_setLane_same]
  · rw [State.setFmt, State.lane_setLane_ne _ _ hm]

/-- A sector cut off leaves its lane's system area, flash and fuses. -/
theorem PowerKept.cutWrite (s : State) (n : Lane) : PowerKept s (s.cutWrite n) := by
  unfold State.cutWrite
  refine PowerKept.trans (PowerKept.trans ?_ (.setFmt ..)) (LaneFrame.stepEnded _ _).powerKept
  split
  · exact .refl s
  · exact .refl s
  · refine PowerKept.trans (PowerKept.trans ?_ (.setFmt ..)) (.foldl _ (fun _ _ => .markStale ..) _ _)
    split
    · exact .writeMedia ..
    · exact .refl s

theorem lane_powerReset (s : State) (n : Lane) : s.powerReset.lane n =
    { LaneState.reset with sys := (s.lane n).sys, fmt := { LaneState.reset.fmt with pfaultN := (s.lane n).fmt.pfaultN } } := by
  simp [State.lane, State.powerReset]

/-- POR_N's reset keeps what it does not reset. -/
theorem PowerKept.powerReset (s : State) : PowerKept s s.powerReset :=
  ⟨rfl, rfl, rfl, fun n => by rw [lane_powerReset]⟩

/-- With no pin taken over, every output and bidirectional signal of a domain within range is in its reset state. -/
theorem inResetState_of_none_taken {t : State} (ht : t.pins.taken = []) {x : Signal} {d : Domain}
    (hx : x.row.1 = .output ∨ x.row.1 = .both) (hd : x.domain = some d) (hin : t.pins.domains.contains d = true) :
    t.inResetState x = true := by
  unfold State.inResetState
  rw [hd, ht, Option.any_some, hin, Bool.true_and]
  split
  · rfl
  · rcases hx with hx | hx <;> simp [hx]

theorem execPorNFall_spec (s : State) (h : s.pins.porN = true) : ∃ u, execPorNFall s = .next u.powerReset ∧ PowerKept s u := by
  refine ⟨_, by rw [execPorNFall, if_neg (by simp [h])], ?_⟩
  refine .foldl _ (fun t n => ?_) _ _
  split
  · exact .cutWrite ..
  · exact .refl t

theorem execPorNRise_spec (s : State) (straps : Straps) (h : s.pins.porN = false) : ∃ u,
    execPorNRise straps s = .next u ∧ u.pins.porN = true ∧ u.boot.straps = straps ∧ u.boot.running = !straps.testMode ∧
    u.regs = [] ∧ PowerKept s u := by
  have k := PowerKept.powerReset s
  exact ⟨_, congrArg Host.Outcome.next (if_neg (by simp [h])), rfl, rfl, rfl, rfl, k.pending, k.flash, k.fuses, k.sys⟩

/-- With no register changed since reset, IMG.BOOT_STATUS shows the FUSE stage, no lock and no hold. -/
theorem bootStatus_of_regs_reset {t : State} (h : t.regs = []) : t.stage = 0 ∧ t.locked = false ∧ t.held = false := by
  have e : t.reg 0x30000 = resetOf 0x30000 := by rw [State.reg, h]; rfl
  refine ⟨?_, ?_, ?_⟩
  · rw [State.stage, State.get, show t.reg Reg.IMG_BOOT_STATUS_STAGE.off = _ from e]; decide
  · rw [State.locked, State.get, show t.reg Reg.IMG_BOOT_STATUS_LOCKED.off = _ from e]; decide
  · rw [State.held, State.get, show t.reg Reg.IMG_BOOT_STATUS_HOLD.off = _ from e]; decide

theorem execSupplyDomainInRange_spec (s : State) (d : Domain) (h : s.pins.porN = false) :
    execSupplyDomainInRange d s = .next { s with pins := { s.pins with domains := s.pins.domains.insert d } } :=
  congrArg Host.Outcome.next (if_neg (by simp [h]))

end Sys2Proof.Machine

open Sys2Proof Sys2Proof.Machine

/-- Settles O8: POR_N's fall is `powerReset` after the sectors being written are cut; its rise is `powerReset` with the straps. -/
theorem porFallResetsAndRiseStartsBoot : Obligations.PorFallResetsAndRiseStartsBoot := by
  refine ⟨fun s h => ?_, fun s straps h => ?_, fun s d h => ?_⟩
  · obtain ⟨u, hu, hk⟩ := execPorNFall_spec s h
    have k := hk.trans (.powerReset u)
    exact ⟨_, hu, rfl, rfl, fun _ _ => inResetState_of_none_taken rfl, fun n => by rw [lane_powerReset]; rfl,
      rfl, k.flash, k.fuses, k.sys, k.pending⟩
  · obtain ⟨u, hu, hpor, hstraps, hrun, hregs, k⟩ := execPorNRise_spec s straps h
    obtain ⟨hstage, hlocked, hheld⟩ := bootStatus_of_regs_reset hregs
    exact ⟨u, hu, hpor, hstraps, hstage, hlocked, hheld, hrun, k.flash, k.fuses, k.pending⟩
  · exact ⟨_, execSupplyDomainInRange_spec s d h, by simp, rfl⟩
end

section
/-! The preamp's serial port (R289 to R292, R299): frames, port errors and diagnostic accesses. -/

namespace Sys2Proof.Machine

/-! ## Waking a block (R126) -/

theorem wake_eq (s : State) (b : GateBlock) : s.wake b = { s with regs := (s.wake b).regs } := by
  unfold State.wake
  split <;> rfl

theorem gateField_off (b : GateBlock) : (gateField b).off = 0xD0014 := by cases b <;> rfl

/-- Waking a block changes only its GATE_STATUS bit. -/
theorem reg_wake_ne (s : State) (b : GateBlock) {off : Nat} (h : off ≠ 0xD0014) : (s.wake b).reg off = s.reg off := by
  unfold State.wake
  split
  · exact s.reg_put_ne _ _ (by rwa [gateField_off])
  · rfl

theorem get_wake (s : State) (b : GateBlock) {f : Fld} (h : f.off ≠ 0xD0014) : (s.wake b).get f = s.get f := by
  rw [State.get, reg_wake_ne s b h, State.get]

theorem used_wake (s : State) (b : GateBlock) (n : Nat) : (s.wake b).used n = s.used n := by
  rw [wake_eq]
  rfl

/-! ## Preamp frames (R289 to R292) -/

theorem lane_setFmt_same (s : State) (n : Lane) (f : Fmt) : (s.setFmt n f).lane n = { s.lane n with fmt := f } :=
  s.lane_setLane_same n _

/-- Read frames only show on the port. -/
theorem pspReadFrames_eq (s : State) (n : Lane) (addr : Nat) (a : PspAnswer) :
    ∃ o, s.pspReadFrames n addr a = { s with out := o } := by
  unfold State.pspReadFrames
  simp only
  split <;> exact ⟨_, rfl⟩

theorem pspWriteFrames_eq (s : State) (n : Lane) (addr data : Nat) (a : PspAnswer) :
    ∃ o, s.pspWriteFrames n addr data a = { s with out := o } := by
  obtain ⟨o, h⟩ := pspReadFrames_eq (s.emit (.pspFrame n (pspBits false addr data))) n addr a
  exact ⟨o, h⟩

/-- A write verified at the first or second try puts the value into the register. -/
theorem pspWrite_of_verified (s : State) (n : Lane) (addr data : Nat) (a retry : PspAnswer) (step : Bool)
    (h : pspValue addr a = some data ∨ pspValue addr retry = some data) :
    ∃ o, s.pspWrite n addr data a retry step =
      (State.setFmt { s with regs := (s.wake (.fmt n)).regs, out := o } n ((s.lane n).fmt.verified addr data), true) := by
  obtain ⟨o, h1⟩ := pspWriteFrames_eq (s.wake (.fmt n)) n addr data a
  rw [wake_eq] at h1
  by_cases ha : pspValue addr a = some data
  · refine ⟨o, ?_⟩
    rw [State.pspWrite, if_pos ha, wake_eq, h1]
    rfl
  · obtain ⟨p, h2⟩ := pspWriteFrames_eq { s with regs := (s.wake (.fmt n)).regs, out := o } n addr data retry
    refine ⟨p, ?_⟩
    rw [State.pspWrite, if_neg ha, if_pos (h.resolve_left ha), wake_eq, h1, h2]
    rfl

/-- A write that failed twice is a port error (R291). -/
theorem pspWrite_of_failed (s : State) (n : Lane) (addr data : Nat) (a retry : PspAnswer) (step : Bool)
    (ha : pspValue addr a ≠ some data) (hr : pspValue addr retry ≠ some data) :
    ∃ o m, s.pspWrite n addr data a retry step =
      (State.pspError { s with regs := (s.wake (.fmt n)).regs, out := o } n addr m step, false) := by
  obtain ⟨o, h1⟩ := pspWriteFrames_eq (s.wake (.fmt n)) n addr data a
  rw [wake_eq] at h1
  obtain ⟨p, h2⟩ := pspWriteFrames_eq { s with regs := (s.wake (.fmt n)).regs, out := o } n addr data retry
  refine ⟨p, (pspValue addr retry).isSome, ?_⟩
  rw [State.pspWrite, if_neg ha, if_neg hr, wake_eq, h1, h2]

@[simp] theorem holds_verified (f : Fmt) (addr data : Nat) : (f.verified addr data).holds addr = data := by
  rw [Fmt.holds, Fmt.verified, Sparse.get_set, if_pos rfl]

/-- The end of a write step drops the step and keeps the refusal and what the preamp holds. -/
theorem endStep_fmt (s : State) (n : Lane) : ((s.endStep n).lane n).fmt.write = none ∧
    ((s.endStep n).lane n).fmt.refused = (s.lane n).fmt.refused ∧ ((s.endStep n).lane n).fmt.preamp = (s.lane n).fmt.preamp := by
  have hp : LaneFrame s (if (s.lane n).fmt.write.isSome then s.setPreheat n false else s) := by
    split
    · exact .pspDue ..
    · exact .refl s
  unfold State.endStep
  simp only
  generalize (if (s.lane n).fmt.write.isSome then s.setPreheat n false else s) = u at hp ⊢
  have he := (LaneFrame.stepEnded (u.setFmt n { (u.lane n).fmt with write := none, wgate := false }) n).lane n
  rw [lane_setFmt_same] at he
  exact ⟨he.write, he.refused.trans (hp.lane n).refused, he.preamp.trans (hp.lane n).preamp⟩

/-- FMT of a lane after a port error (R291): the gate refused, the register unknown and no longer waiting. -/
def Fmt.portFailed (f : Fmt) (addr : Nat) : Fmt :=
  { f with refused := true, preamp := Sparse.set (fun _ => pspUnwritten) f.preamp addr pspUnwritten,
           waiting := f.waiting.filter (·.1 != addr) }

@[simp] theorem holds_portFailed (f : Fmt) (addr : Nat) : (f.portFailed addr).holds addr = pspUnwritten := by
  rw [Fmt.holds, Fmt.portFailed, Sparse.get_set, if_pos rfl]

theorem lane_pspError (s : State) (n : Lane) (addr : Nat) (m : Bool) (hg : (s.lane n).fmt.wgate = false) :
    (s.pspError n addr m true).lane n = ((s.setFmt n ((s.lane n).fmt.portFailed addr)).endStep n).lane n := by
  rw [State.pspError, if_pos (by simp [hg])]
  exact (raiseLane_frame _ n 0x23 _).lane n

/-- A port error that meets no high gate refuses the gate, ends the step and forgets the register (R291). -/
theorem pspError_fmt (s : State) (n : Lane) (addr : Nat) (m : Bool) (hg : (s.lane n).fmt.wgate = false) :
    ((s.pspError n addr m true).lane n).fmt.refused = true ∧ ((s.pspError n addr m true).lane n).fmt.write = none ∧
    ((s.pspError n addr m true).lane n).fmt.holds addr = pspUnwritten := by
  obtain ⟨hw, hr, hp⟩ := endStep_fmt (s.setFmt n ((s.lane n).fmt.portFailed addr)) n
  rw [lane_setFmt_same] at hr hp
  rw [lane_pspError s n addr m hg]
  refine ⟨hr, hw, ?_⟩
  rw [Fmt.holds, hp]
  exact holds_portFailed _ addr

/-- With the gate low, PSP_WRITE_FRAME of a register that FMT writes is the verified write. -/
theorem execPspWriteFrame_of_gate_low (s : State) (n : Lane) (addr data : Nat) (a retry : PspAnswer) (hu : s.used n.val = true)
    (hg : (s.lane n).fmt.wgate = false) (hlo : 1 ≤ addr) (hhi : addr ≤ 9) :
    execPspWriteFrame n addr data a retry s = .next (s.pspWrite n addr data a retry true).1 := by
  have ho : pspOwn addr = true := by simp [pspOwn, hlo, hhi]
  rw [execPspWriteFrame, if_neg (by simp [hu, ho]), if_neg (by simp [hg])]

/-- With the gate high, a frame to a register that it holds, other than HEAD, waits (R292). -/
theorem execPspWriteFrame_of_gate_high (s : State) (n : Lane) (addr data : Nat) (a retry : PspAnswer) (hu : s.used n.val = true)
    (hg : (s.lane n).fmt.wgate = true) (ha : addr ∈ [2, 3, 5, 6]) :
    execPspWriteFrame n addr data a retry s = .next (s.setFmt n { (s.lane n).fmt with
      waiting := (s.lane n).fmt.waiting.filter (·.1 != addr) ++ [(addr, data)] }) := by
  have hr : pspOwn addr = true ∧ pspHeld addr = true ∧ addr ≠ 1 := by
    simp only [List.mem_cons, List.not_mem_nil, or_false] at ha
    obtain rfl | rfl | rfl | rfl := ha <;> decide
  obtain ⟨ho, hh, h1⟩ := hr
  rw [execPspWriteFrame, if_neg (by simp [hu, ho]), if_pos (by simp [hg, hh, h1])]

/-- PSP_READ_FRAME of FAULT that is read releases the fault pin (R290). -/
theorem execPspReadFrame_fault (s : State) (n : Lane) (a : PspAnswer) (hu : s.used n.val = true)
    (ha : (pspValue 0x0A a).isSome = true) : ∃ r o, execPspReadFrame n 0x0A a s =
      .next (State.setFmt { s with regs := r, out := o } n { (s.lane n).fmt with pfaultN := true }) := by
  obtain ⟨v, hv⟩ := Option.isSome_iff_exists.mp ha
  obtain ⟨o, h⟩ := pspReadFrames_eq (s.wake (.fmt n)) n 0x0A a
  rw [wake_eq] at h
  refine ⟨(s.wake (.fmt n)).regs, o, ?_⟩
  rw [execPspReadFrame, if_neg (by simp [hu]), wake_eq, h, hv]
  rfl

/-! ## Diagnostic access to the preamp (R299) -/

theorem dword_pspAccess (n : Lane) : dword (laneBase n + 0x10020) = 0x110020 + 0x40000 * n.val := by
  have := n.isLt
  unfold dword laneBase
  omega

/-- FMT.PSP_ACCESS of a lane is where the register map has it. -/
theorem locate_pspAccess (n : Lane) : ∃ r, locate (0x110020 + 0x40000 * n.val) = some r ∧ r.row.name = .FMT_PSP_ACCESS ∧
    r.lane = n.val := by
  have h : (locate (0x110020 + 0x40000 * n.val)).map (fun r => (r.row.name, r.lane)) = some (.FMT_PSP_ACCESS, n.val) := by
    revert n; decide
  obtain ⟨r, hr, he⟩ := Option.map_eq_some_iff.mp h
  rw [Prod.mk.injEq] at he
  exact ⟨r, hr, he⟩

theorem wakeAt_pspAccess (s : State) (n : Lane) : s.wakeAt (0x110020 + 0x40000 * n.val) = s.wake (.fmt n) := by
  have := n.isLt
  have hl : (0x110020 + 0x40000 * n.val - 0x100000) / 0x40000 % 4 = n.val := by omega
  have hb : (0x110020 + 0x40000 * n.val - 0x100000) % 0x40000 / 0x10000 = 1 := by omega
  rw [State.wakeAt, if_pos (by omega)]
  simp only [hl, hb]

theorem absentAt_pspAccess (s : State) (n : Lane) (h : s.present n.val = true) :
    s.absentAt (0x110020 + 0x40000 * n.val) = false := by
  have := n.isLt
  have hl : (0x110020 + 0x40000 * n.val - 0x100000) / 0x40000 = n.val := by omega
  have ho : (0x110020 + 0x40000 * n.val - 0x100000) % 0x40000 = 0x10020 := by omega
  rw [State.absentAt, if_pos (by omega)]
  simp [hl, ho, h]

theorem execPspAccessGo_port (s : State) (n : Lane) (p : Port) (v : Word) (a retry : PspAnswer) (hb : s.barOpen p = true)
    (hl : s.locked = true) (hp : s.present n.val = true) : execPspAccessGo n (.port p) v a retry s =
      .next ((s.wake (.fmt n)).pspAccess n (setBits v.toNat 31 31 1) a retry) := by
  obtain ⟨r, hr, hname, hlane⟩ := locate_pspAccess n
  rw [execPspAccessGo, State.busWrite, if_pos (by simp [hb, hl]), dword_pspAccess, State.writeReg,
    if_neg (by simp [absentAt_pspAccess s n hp]), hr]
  have hn : (⟨r.lane % 4, Nat.mod_lt _ (by decide)⟩ : Lane) = n := Fin.ext (by simp [hlane, Nat.mod_eq_of_lt n.isLt])
  simp only [hname, hn, wakeAt_pspAccess]

theorem get_pspGo_wake (s : State) (b : GateBlock) (n : Nat) :
    (s.wake b).get (Reg.FMT_PSP_ACCESS_GO n) = s.get (Reg.FMT_PSP_ACCESS_GO n) :=
  get_wake s b (by show 0x110020 + 0x40000 * n ≠ 0xD0014; omega)

theorem bit_eq_bits (w i : Nat) : bit w i = (bits w i i == 1) := by
  rw [bit, bits, show i + 1 - i = 1 by omega, Nat.pow_one]

/-- Writing with GO leaves what the write carries below it. -/
theorem bits_setBits_go (v hi lo : Nat) (h : hi < 31) : bits (setBits v 31 31 1) hi lo = bits v hi lo :=
  bits_setBits_below _ _ _ _ _ _ (Nat.le_refl 31) h

theorem bit_setBits_go (v i : Nat) (h : i < 31) : bit (setBits v 31 31 1) i = bit v i := by
  rw [bit_eq_bits, bits_setBits_go v i i h, bit_eq_bits]

theorem bit_go_setBits_go (v : Nat) : bit (setBits v 31 31 1) 31 = true := by
  rw [bit_eq_bits, bits_setBits _ _ _ _ (Nat.le_refl 31)]
  decide

theorem get_put_pspErr (s : State) (n v : Nat) :
    (s.put (Reg.FMT_PSP_ACCESS_ERR n) v).get (Reg.FMT_PSP_ACCESS_ERR n) = v % 2 :=
  s.get_put _ v (Nat.le_refl 29) (by show 29 ≤ 31; omega)

theorem get_pspData_put_pspErr (s : State) (n v : Nat) :
    (s.put (Reg.FMT_PSP_ACCESS_ERR n) v).get (Reg.FMT_PSP_ACCESS_DATA n) = s.get (Reg.FMT_PSP_ACCESS_DATA n) :=
  s.get_put_ne _ _ v (Nat.le_refl 29) (by show 29 ≤ 31; omega) (.inr (.inr (by show 15 < 29; omega)))

theorem get_put_pspData (s : State) (n v : Nat) :
    (s.put (Reg.FMT_PSP_ACCESS_DATA n) v).get (Reg.FMT_PSP_ACCESS_DATA n) = v % 65536 :=
  s.get_put _ v (Nat.zero_le 15) (by show 15 ≤ 31; omega)

/-- FMT.PSP_ACCESS with the fields of a write in it (R299). -/
def State.pspFields (s : State) (n : Lane) (v : Nat) : State :=
  ((s.put (Reg.FMT_PSP_ACCESS_READ n) (bits v 30 30)).put (Reg.FMT_PSP_ACCESS_ADDR n) (bits v 22 16)).put
    (Reg.FMT_PSP_ACCESS_DATA n) (bits v 15 0)

/-- Writing a field after changes of registers only is a change of registers only. -/
theorem put_regs_only {s t : State} (h : ∃ r, t = { s with regs := r }) (f : Fld) (v : Nat) :
    ∃ r, t.put f v = { s with regs := r } := by
  obtain ⟨r, rfl⟩ := h
  exact ⟨_, rfl⟩

theorem pspFields_regs_only {s t : State} (h : ∃ r, t = { s with regs := r }) (n : Lane) (v : Nat) :
    ∃ r, t.pspFields n v = { s with regs := r } :=
  put_regs_only (put_regs_only (put_regs_only h _ _) _ _) _ _

section
variable {s : State} {n : Lane} {v : Nat} (hgo : s.get (Reg.FMT_PSP_ACCESS_GO n.val) = 0) (hu : s.used n.val = true)
  (h31 : bit v 31 = true)
include hgo hu h31

/-- A diagnostic write to a register of the profile sets ERR and sends nothing. -/
theorem pspAccess_of_own (a retry : PspAnswer) (h30 : bit v 30 = false) (hlo : 1 ≤ bits v 22 16) (hhi : bits v 22 16 ≤ 0x0A) :
    s.pspAccess n v a retry = (s.pspFields n v).put (Reg.FMT_PSP_ACCESS_ERR n) 1 := by
  rw [State.pspAccess, if_neg (by simp [hgo, hu]), if_neg (by simp [h31]), if_neg (by simp [h30]), if_pos ⟨hlo, hhi⟩]
  rfl

/-- A diagnostic read shows the data and clears ERR. -/
theorem pspAccess_of_read (a retry : PspAnswer) (h30 : bit v 30 = true) {d : Nat} (hd : pspValue (bits v 22 16) a = some d) :
    ∃ u : State, s.pspAccess n v a retry = (u.put (Reg.FMT_PSP_ACCESS_DATA n) d).put (Reg.FMT_PSP_ACCESS_ERR n) 0 ∧
      u.media = s.media := by
  obtain ⟨o, ho⟩ := pspReadFrames_eq (s.pspFields n v) n (bits v 22 16) a
  obtain ⟨r, hr⟩ := pspFields_regs_only ⟨s.regs, rfl⟩ n v
  rw [hr] at ho
  rw [State.pspAccess, if_neg (by simp [hgo, hu]), if_neg (by simp [h31]), if_pos h30, ← State.pspFields, hr, ho]
  simp only [hd]
  refine ⟨_, rfl, ?_⟩
  split <;> rfl

end

/-- On an unused lane a diagnostic access does nothing (R44, R66). -/
theorem pspAccess_of_unused (s : State) (n : Lane) (v : Nat) (a retry : PspAnswer) (hu : s.used n.val = false) :
    s.pspAccess n v a retry = s := by
  rw [State.pspAccess, if_pos (by simp [hu])]

end Sys2Proof.Machine
end

section
/-! Track parity (R282 to R288): what a rebuild writes, when it ends, and the save of the stale bits. -/

namespace Sys2Proof.Machine

/-! ## A sector on media (R277) -/

/-- A sector just written lies at its address. -/
theorem mediaAt_writeMedia (s : State) (pba : Nat) (data tag : List Byte) (key : Option (Nat × Nat)) (whole : Bool) :
    ∃ m, (s.writeMedia pba data tag key whole).mediaAt pba = some m ∧ m.data = data ∧ m.tag = tag ∧ m.whole = whole := by
  have h : ∀ m : MediaSector, ((s.media.filter fun e => e.1 < pba) ++ (pba, m) :: s.media.filter fun e => pba < e.1).find?
      (·.1 == pba) = some (pba, m) := by
    intro m
    rw [List.find?_append, List.find?_eq_none.mpr ?_, Option.none_or, List.find?_cons_of_pos (by simp)]
    intro e he
    have hlt := (List.mem_filter.mp he).2
    simp only [decide_eq_true_eq] at hlt
    simp only [beq_iff_eq]
    omega
  simp only [State.mediaAt, State.writeMedia, h]
  exact ⟨_, rfl, rfl, rfl, rfl⟩

/-- An unencrypted sector laid down is whole on media, and nothing but media and the pins shows it. -/
theorem laySector_spec (s : State) (pba : Nat) (data tag : List Byte) : ∃ m d o,
    s.laySector pba data tag none = { s with media := d, out := o } ∧ (s.laySector pba data tag none).mediaAt pba = some m ∧
    m.data = data ∧ m.tag = tag ∧ m.whole = true := by
  obtain ⟨m, hm, hdata, htag, hwhole⟩ := mediaAt_writeMedia s pba data tag none true
  have e : s.laySector pba data tag none =
      (s.writeMedia pba data tag none true).emit (.mediaCells pba (sectorCells m.cells m.tag m.crc)) := by
    rw [State.laySector, if_neg (by simp)]
    simp only [hm]
  exact ⟨m, _, _, e, by rw [e]; exact hm, hdata, htag, hwhole⟩

/-! ## The contents of a group's sectors (R283, R286) -/

theorem laneAt_eq (s : State) (n : Nat) : s.laneAt n = if h : n < 4 then s.lane ⟨n, h⟩ else .reset := by
  unfold State.laneAt State.lane
  split
  · rename_i h
    simp [h]
  · rename_i h
    simp [List.getD_eq_getElem?_getD, h]

/-- What the cache holds for a sector follows from the image, the fuses, the cache and, of the lanes, spares and system areas. -/
theorem heldSymbols_congr {s t : State} (hb : t.boot = s.boot) (hf : t.fuses = s.fuses) (hc : t.cache = s.cache)
    (hl : ∀ n, LaneKept (s.lane n) (t.lane n)) : t.heldSymbols = s.heldSymbols := by
  have hk : ∀ n, LaneKept (s.laneAt n) (t.laneAt n) := fun n => by
    rw [laneAt_eq, laneAt_eq]
    split
    · exact hl _
    · exact .refl _
  have hsec : t.section = s.section := by unfold State.section; rw [hb, hf]
  have hused : t.used = s.used := by unfold State.used State.present State.laneCount; rw [hsec, hb, hf]
  have hcap : t.cap0 = s.cap0 := by unfold State.cap0; rw [hf]
  have hzones : t.laneZones = s.laneZones := by
    unfold State.laneZones State.tpUsable State.sparePermille
    rw [hsec, hb, hcap]
  have hblocks : t.laneBlocks = s.laneBlocks := by
    funext n
    unfold State.laneBlocks
    rw [hused, hzones, (hk n).sys]
  have hmaps : t.nsMaps = s.nsMaps := by unfold State.nsMaps; rw [hblocks, hused, hsec, hb, hcap]
  funext p
  unfold State.heldSymbols State.lbaAt State.extent State.blockKey State.nsEncrypts State.nsMap State.ns
  simp only [hsec, hzones, hmaps, hcap, hb, hc, (hk _).sys, (hk _).remap]

theorem LaneFrame.heldSymbols {s t : State} (h : LaneFrame s t) : t.heldSymbols = s.heldSymbols := by
  have hl := h.lane
  obtain ⟨_, _, _, _, rfl⟩ := h.rest
  exact heldSymbols_congr rfl rfl rfl hl

theorem LaneFrame.groupParity {s t : State} (h : LaneFrame s t) : t.groupParity = s.groupParity := by
  obtain ⟨_, _, _, _, rfl⟩ := h.rest
  rfl

theorem LaneFrame.groupData {s t : State} (h : LaneFrame s t) : t.groupData = s.groupData := by
  obtain ⟨_, _, _, _, rfl⟩ := h.rest
  rfl

theorem LaneFrame.mediaAt {s t : State} (h : LaneFrame s t) : t.mediaAt = s.mediaAt := by
  obtain ⟨_, _, _, _, rfl⟩ := h.rest
  rfl

theorem LaneFrame.mediaSymbols {s t : State} (h : LaneFrame s t) : t.mediaSymbols = s.mediaSymbols := by
  funext p
  rw [State.mediaSymbols, h.mediaAt, State.mediaSymbols]

theorem LaneFrame.stale {s t : State} (h : LaneFrame s t) : t.stale = s.stale := by
  obtain ⟨_, _, _, _, rfl⟩ := h.rest
  rfl

theorem LaneFrame.media {s t : State} (h : LaneFrame s t) : t.media = s.media := by
  obtain ⟨_, _, _, _, rfl⟩ := h.rest
  rfl

theorem LaneFrame.rebuilds {s t : State} (h : LaneFrame s t) : t.rebuilds = s.rebuilds := by
  obtain ⟨_, _, _, _, rfl⟩ := h.rest
  rfl

theorem LaneFrame.hif {s t : State} (h : LaneFrame s t) : t.hif = s.hif := by
  obtain ⟨_, _, _, _, rfl⟩ := h.rest
  rfl

/-- Looking a sector up in the list of those held gives what is held of it. -/
theorem find_held (f : Nat → Option (List Nat)) (l : List Nat) (p : Nat) (hp : p ∈ l) :
    ((l.filterMap fun q => (f q).map fun x => (q, x)).find? (·.1 == p)).map (·.2) = f p := by
  induction l with
  | nil => cases hp
  | cons a t ih =>
    by_cases ha : a = p
    · subst ha
      cases hfa : f a with
      | some x => simp [hfa]
      | none =>
        rw [List.find?_eq_none.mpr, Option.map_none]
        intro e he
        obtain ⟨q, -, hq⟩ := List.mem_filterMap.mp he
        obtain ⟨x, hx, rfl⟩ := Option.map_eq_some_iff.mp hq
        simp only [beq_iff_eq]
        rintro rfl
        rw [hfa] at hx
        cases hx
    · have ih := ih ((List.mem_cons.mp hp).resolve_left (Ne.symm ha))
      cases hfa : f a with
      | some x => simpa [List.filterMap_cons, hfa, ha] using ih
      | none => simpa [List.filterMap_cons, hfa] using ih

/-- The parity sector that a rebuild of a group of one writes, from `d` for each data sector. -/
theorem writeParity_spec (s : State) (g : GroupId) (q : Nat) (held : List (Nat × List Nat)) (d : Nat → List Nat)
    (hq : s.groupParity g = [q]) (hd : ∀ p ∈ s.groupData g, ((held.find? (·.1 == p)).map (·.2)).getD (s.mediaSymbols p) = d p)
    (hk : ∀ p ∈ s.groupData g, ((held.find? (·.1 == p)).map (·.2)).isSome = true ∨ (s.mediaAt p).isSome = true) :
    ∃ m r c o, s.writeParity g held = { s with regs := r, media := c, out := o } ∧ (s.writeParity g held).mediaAt q = some m ∧
      m.whole = true ∧ m.data ++ m.tag = symbolBytes (parityQ0 ((s.groupData g).map d)) := by
  have hknown : ((s.groupData g).all fun p => ((held.find? (·.1 == p)).map (·.2)).isSome || (s.mediaAt p).isSome) = true :=
    List.all_eq_true.mpr fun p hp => by simpa using hk p hp
  have e : s.writeParity g held = (s.wake .tpar).laySector q ((symbolBytes (parityQ0 ((s.groupData g).map d))).take 4096)
      ((symbolBytes (parityQ0 ((s.groupData g).map d))).drop 4096) none := by
    rw [State.writeParity]
    simp only [hknown, if_true, hq, List.map_congr_left hd]
    rfl
  obtain ⟨m, c, o, hlay, hm, hdata, htag, hwhole⟩ := laySector_spec (s.wake .tpar) q
    ((symbolBytes (parityQ0 ((s.groupData g).map d))).take 4096) ((symbolBytes (parityQ0 ((s.groupData g).map d))).drop 4096)
  refine ⟨m, (s.wake .tpar).regs, c, o, ?_, by rw [e]; exact hm, hwhole, ?_⟩
  · rw [e, hlay, wake_eq]
  · rw [hdata, htag, List.take_append_drop]

/-- The end of a rebuild with every data sector at hand and no later write: the parity of the contents at hand is on media, and the group is
neither stale nor in rebuild. -/
theorem rebuilt_spec (s : State) (g : GroupId) (q : Nat) (hq : s.groupParity g = [q])
    (hk : ∀ p ∈ s.groupData g, (s.heldSymbols p).isSome = true ∨ (s.mediaAt p).isSome = true)
    (hl : ∀ r ∈ s.rebuilds, r.1 = g → r.2 = false) :
    ∃ m r c o, s.rebuilt g = { s with regs := r, media := c, out := o, rebuilds := s.rebuilds.filter (·.1 != g),
                                      stale := s.stale.erase g } ∧
      (s.rebuilt g).mediaAt q = some m ∧ m.whole = true ∧
      m.data ++ m.tag = symbolBytes (parityQ0 ((s.groupData g).map fun p => (s.heldSymbols p).getD (s.mediaSymbols p))) := by
  have hf := find_held s.heldSymbols (s.groupData g)
  have hlater : ((s.rebuilds.find? (·.1 == g)).map (·.2)).getD false = false := by
    cases h : s.rebuilds.find? (·.1 == g) with
    | none => rfl
    | some r => exact hl r (List.mem_of_find?_eq_some h) (by simpa using List.find?_some h)
  obtain ⟨m, r, c, o, hw, hm, hwhole, hbytes⟩ := writeParity_spec s g q
    ((s.groupData g).filterMap fun p => (s.heldSymbols p).map fun x => (p, x)) (fun p => (s.heldSymbols p).getD (s.mediaSymbols p)) hq
    (fun p hp => by rw [hf p hp]) (fun p hp => by rw [hf p hp]; exact hk p hp)
  have e : s.rebuilt g = { s with regs := r, media := c, out := o, rebuilds := s.rebuilds.filter (·.1 != g),
                                  stale := s.stale.erase g } := by
    rw [State.rebuilt]
    simp only [hlater, hw]
    rfl
  refine ⟨m, r, c, o, e, ?_, hwhole, hbytes⟩
  rw [hw] at hm
  rw [e]
  exact hm

/-! ## The start and the end of a rebuild (R286, R313) -/

/-- The machine after a rebuild's start is recorded. -/
def State.rebuildBegun (s : State) (g : GroupId) : State := { s.wake .tpar with rebuilds := s.rebuilds ++ [(g, false)] }

theorem rebuildBegun_eq (s : State) (g : GroupId) :
    ∃ r, s.rebuildBegun g = { s with regs := r, rebuilds := s.rebuilds ++ [(g, false)] } := by
  refine ⟨(s.wake .tpar).regs, ?_⟩
  rw [State.rebuildBegun, wake_eq]

section
variable {s : State} {n : Lane} {h k g : Nat} (ho : s.writesOpen n = true) (hn : headLane (s.section secGeometry) h = n.val)
  (hs : (h, k, g) ∈ s.stale) (hr : ∀ r ∈ s.rebuilds, r.1 ≠ (h, k, g))
include ho hn hs hr

theorem execParityRebuild_begins : ¬ ((!s.stale.contains (h, k, g)) = true ∨ headLane (s.section secGeometry) h ≠ n.val ∨
    (!s.writesOpen n) = true ∨ s.rebuilds.any (·.1 == (h, k, g)) = true) := by
  have hany : s.rebuilds.any (·.1 == (h, k, g)) = false := List.any_eq_false.mpr fun r hm => by simpa using hr r hm
  simp [ho, hn, hs, hany]

/-- With every data sector in the cache the rebuild ends at once. -/
theorem execParityRebuild_of_held (hh : ∀ p ∈ s.groupData (h, k, g), (s.heldSymbols p).isSome = true) :
    execParityRebuild n h k g s = .next ((s.rebuildBegun (h, k, g)).rebuilt (h, k, g)) := by
  have hm : ((s.groupData (h, k, g)).filter fun p => (s.heldSymbols p).isNone).isEmpty = true := by
    rw [List.isEmpty_iff, List.filter_eq_nil_iff]
    intro p hp
    simp [Option.isSome_iff_ne_none.mp (hh p hp)]
  rw [execParityRebuild, if_neg (execParityRebuild_begins ho hn hs hr)]
  simp only [hm, if_true]
  rfl

/-- With a data sector missing, a read of the device is handed to the lane. -/
theorem execParityRebuild_of_missing (hh : ∃ p ∈ s.groupData (h, k, g), s.heldSymbols p = none) :
    ∃ o : MediaOp, o.host = false ∧ execParityRebuild n h k g s = .next ((s.rebuildBegun (h, k, g)).addOp n o) := by
  obtain ⟨p, hp, hnone⟩ := hh
  have hm : ¬ ((s.groupData (h, k, g)).filter fun p => (s.heldSymbols p).isNone).isEmpty = true := by
    rw [List.isEmpty_iff, List.filter_eq_nil_iff]
    exact fun hall => hall p hp (by rw [hnone]; rfl)
  rw [execParityRebuild, if_neg (execParityRebuild_begins ho hn hs hr)]
  simp only [hm]
  exact ⟨_, rfl, rfl⟩

end

/-- Handing an operation of the device itself to a lane leaves the stale bits, media and the rebuilds under way. -/
theorem addOp_kept (s : State) (n : Lane) (o : MediaOp) (ho : o.host = false) :
    (s.addOp n o).stale = s.stale ∧ (s.addOp n o).media = s.media ∧ (s.addOp n o).rebuilds = s.rebuilds := by
  unfold State.addOp
  simp only [ho, Bool.false_eq_true, if_false]
  generalize hu : (if (s.sched n).isEmpty then _ else s) = u
  have hf : LaneFrame s u := by
    subst hu
    split
    · split
      · exact .setChan ..
      · exact (LaneFrame.setChan ..).trans (.readStep ..)
    · exact .refl s
  split
  · exact ⟨(raise_frame _ 0x681 _).stale.trans hf.stale, (raise_frame _ 0x681 _).media.trans hf.media,
      (raise_frame _ 0x681 _).rebuilds.trans hf.rebuilds⟩
  · exact ⟨hf.stale, hf.media, hf.rebuilds⟩

theorem LaneFrame.mediaBlock (s : State) (b : OpBlock) : LaneFrame s (s.mediaBlock b).2 := by
  have hfree : LaneFrame s s.freeBlock.2 := ⟨⟨_, _, _, _, rfl⟩, fun _ => .refl _⟩
  unfold State.mediaBlock
  split
  · split
    · dsimp only
      split
      · exact .wake ..
      · exact .refl s
    · exact hfree
  · exact hfree

theorem LaneFrame.readBlocks (s : State) (l : List OpBlock) : LaneFrame s (s.readBlocks l).2 := by
  have key : ∀ r : List (Nat × BlockData) × State, LaneFrame r.2 (l.foldl (fun r b =>
      (r.1 ++ [(b.lba, (r.2.mediaBlock b).1)], (r.2.mediaBlock b).2)) r).2 := by
    induction l with
    | nil => exact fun r => .refl r.2
    | cons b t ih =>
      intro r
      rw [List.foldl_cons]
      exact (LaneFrame.mediaBlock r.2 b).trans (ih (r.1 ++ [(b.lba, (r.2.mediaBlock b).1)], (r.2.mediaBlock b).2))
  exact key ([], s)

theorem LaneFrame.nextOp (s : State) (n : Lane) : LaneFrame s (s.nextOp n) := by
  unfold State.nextOp
  simp only
  split
  · exact .setChan ..
  · split
    · exact (LaneFrame.setChan ..).trans (.setSched ..)
    · exact ((LaneFrame.setChan ..).trans (.setSched ..)).trans (.readStep ..)

theorem LaneFrame.opGone (s : State) (n : Lane) (o : MediaOp) : LaneFrame s (s.opGone n o) := by
  unfold State.opGone
  simp only
  refine LaneFrame.trans ?_ (.setLane _ _ _ ⟨rfl, rfl, rfl, rfl, rfl, rfl⟩)
  refine LaneFrame.trans ?_ (.nextOp ..)
  refine LaneFrame.trans ?_ (.setSched ..)
  exact .setLane _ _ _ ⟨rfl, rfl, rfl, rfl, rfl, rfl⟩

/-- With no command in a slot, what a read delivered goes to none. -/
theorem giveParts_of_no_command (s : State) (h : s.hif.cmds = []) (o : MediaOp) (ok : List (Nat × BlockData)) (bad : List Nat)
    (status : Nat) : s.giveParts o ok bad status = s := by
  have hc : ∀ q, s.cmd q = none := fun q => by rw [State.cmd, h]; rfl
  unfold State.giveParts
  generalize o.owners = l
  induction l with
  | nil => rfl
  | cons q t ih =>
    rw [List.foldl_cons]
    simp only [hc]
    exact ih

theorem LaneFrame.showCache (s : State) : LaneFrame s s.showCache :=
  (((put s _ _).trans (.put ..)).trans (.put ..)).trans (.put ..)

/-- The blocks of a read operation that were not delivered. -/
def State.undelivered (s : State) (n : Lane) (o : MediaOp) : List OpBlock :=
  o.blocks.filter fun b => !(s.lane n).chan.delivered.contains b.pba

/-- A read of the device itself that no ladder mended and no command waits for ends with the end of its rebuild. -/
theorem endRead_of_device (s : State) (n : Lane) (o : MediaOp) (status : Nat) (hh : o.host = false)
    (hm : (s.lane n).chan.mended = []) (hc : s.hif.cmds = []) : ∃ u, LaneFrame s u ∧
      s.endRead n o status = (u.endRebuild o (!(s.undelivered n o).isEmpty)).showCache := by
  have hf := (LaneFrame.readBlocks s (o.blocks.filter fun b => (s.lane n).chan.delivered.contains b.pba)).trans (.opGone _ n o)
  have hu : ((s.readBlocks (o.blocks.filter fun b => (s.lane n).chan.delivered.contains b.pba)).2.opGone n o).hif.cmds = [] := by
    rw [hf.hif, hc]
  have hnone : ∀ l : List OpBlock, (l.filter fun b => (s.lane n).chan.mended.contains b.pba) = [] := fun l =>
    List.filter_eq_nil_iff.mpr fun b _ => by simp [hm]
  refine ⟨_, hf, ?_⟩
  unfold State.endRead
  simp only [hh, hnone, Bool.false_eq_true, if_false, List.foldl_nil]
  rw [giveParts_of_no_command _ hu, List.isEmpty_map]
  rfl

theorem testRead_of_rebuild (s : State) (n : Lane) (o : MediaOp) (missed : List Nat) {g : GroupId} (hg : o.rebuild = some g) :
    s.testRead n o missed = s := by
  have ht : o.isTest = false := by simp [MediaOp.isTest, hg]
  unfold State.testRead
  simp only [ht]
  cases s.cache.selfTest <;> rfl

/-- The read of a rebuild ends once each of its sectors was delivered or reported by a ladder. -/
theorem execMediaOperationEnd_of_rebuild (s : State) (n : Lane) (gaveUp : Bool) (o : MediaOp) (rest : List MediaOp) {g : GroupId}
    (hs : s.sched n = o :: rest) (hw : o.write = false) (hg : o.rebuild = some g) (hd : s.mediaStatus n.val = 0)
    (hl : (s.lane n).rcv.ladder = none)
    (ha : ∀ b ∈ o.blocks, (s.lane n).chan.delivered.contains b.pba = true ∨ (b.pba, causeReported) ∈ (s.lane n).chan.failed) :
    execMediaOperationEnd n gaveUp s = .next (s.endRead n o 0x281) := by
  have hall : (o.blocks.all fun b => (s.lane n).chan.delivered.contains b.pba ||
      (s.lane n).chan.failed.any fun q => q.1 == b.pba && decide (causeUntried ≤ q.2)) = true := by
    refine List.all_eq_true.mpr fun b hb => ?_
    rcases ha b hb with h | h
    · rw [h, Bool.true_or]
    · rw [List.any_eq_true.mpr ⟨_, h, by simp [causeUntried, causeReported]⟩, Bool.or_true]
  rw [execMediaOperationEnd, hs]
  simp only [List.head?_cons, hw, hd, hl, hall, Bool.false_eq_true, false_and, if_false, ne_eq, not_true, Option.isSome_none, true_or,
    if_true, testRead_of_rebuild _ _ _ _ hg]

/-- Where no sector is missing, the end of the rebuild's read is the end of the rebuild. -/
theorem endRebuild_of_delivered (s u : State) (n : Lane) (o : MediaOp) {g : GroupId} (hg : o.rebuild = some g)
    (hd : ∀ b ∈ o.blocks, (s.lane n).chan.delivered.contains b.pba = true) :
    u.endRebuild o (!(s.undelivered n o).isEmpty) = u.rebuilt g := by
  have hb : (s.undelivered n o).isEmpty = true := by
    rw [List.isEmpty_iff, State.undelivered, List.filter_eq_nil_iff]
    exact fun b hb => by rw [hd b hb]; decide
  rw [State.endRebuild, hg, hb]
  rfl

/-- Where a sector is missing, the rebuild is dropped. -/
theorem endRebuild_of_undelivered (s u : State) (n : Lane) (o : MediaOp) {g : GroupId} (hg : o.rebuild = some g)
    (hd : ∃ b ∈ o.blocks, (s.lane n).chan.delivered.contains b.pba = false) :
    u.endRebuild o (!(s.undelivered n o).isEmpty) = { u with rebuilds := u.rebuilds.filter (·.1 != g) } := by
  obtain ⟨b, hb, hn⟩ := hd
  have hb : (s.undelivered n o).isEmpty = false :=
    List.isEmpty_eq_false_iff_exists_mem.mpr ⟨b, List.mem_filter.mpr ⟨hb, by rw [hn]; rfl⟩⟩
  rw [State.endRebuild, hg, hb]
  rfl

/-! ## Saving the stale bits (R288, R320) -/

/-- One lane's part of `saveStale`. -/
def State.saveStaleLane (s : State) (n : Lane) : State :=
  if s.used n.val then
    s.setLane n { s.lane n with sys := { (s.lane n).sys with
      stale := s.stale.filter (fun g => headLane (s.section secGeometry) g.1 == n.val), pending := (s.lane n).rcv.pending } }
  else s

/-- Whether a lane's system area, in `t`, holds the stale bits and the pending list of `s`. -/
def StaleSaved (s t : State) (n : Lane) : Prop :=
  (t.lane n).sys.pending = (s.lane n).rcv.pending ∧
    (t.lane n).sys.stale = s.stale.filter (fun g => headLane (s.section secGeometry) g.1 == n.val)

/-- What saving the stale bits keeps: all but the lanes' system areas and what the cache has saved. -/
structure SaveFrame (s t : State) : Prop where
  rest : ∃ l c, t = { s with lanes := l, cache := c }
  rcv : ∀ n, (t.lane n).rcv = (s.lane n).rcv

theorem saveStaleLane_spec {s t : State} (h : SaveFrame s t) (n : Lane) : SaveFrame s (t.saveStaleLane n) ∧
    (∀ m, m = n ∨ StaleSaved s t m → s.used m.val = true → StaleSaved s (t.saveStaleLane n) m) := by
  have hrcv := h.rcv
  obtain ⟨l, c, rfl⟩ := h.rest
  unfold State.saveStaleLane
  split
  · refine ⟨⟨⟨_, _, rfl⟩, fun m => ?_⟩, fun m hm _ => ?_⟩
    · by_cases e : m = n
      · subst e; rw [State.lane_setLane_same]; exact hrcv m
      · rw [State.lane_setLane_ne _ _ e]; exact hrcv m
    · unfold StaleSaved
      by_cases e : m = n
      · subst e; rw [State.lane_setLane_same]; exact ⟨congrArg Recovery.pending (hrcv m), rfl⟩
      · rw [State.lane_setLane_ne _ _ e]; exact hm.resolve_left e
  · rename_i hn
    exact ⟨h, fun m hm hu => hm.elim (fun e => absurd (e ▸ hu) hn) id⟩

theorem saveStaleLanes_spec {s t : State} (h : SaveFrame s t) (l : List Lane) : SaveFrame s (l.foldl State.saveStaleLane t) ∧
    (∀ m, m ∈ l ∨ StaleSaved s t m → s.used m.val = true → StaleSaved s (l.foldl State.saveStaleLane t) m) := by
  induction l generalizing t with
  | nil => exact ⟨h, fun m hm _ => hm.resolve_left (by simp)⟩
  | cons n l ih =>
    obtain ⟨h1, hs⟩ := saveStaleLane_spec h n
    obtain ⟨h2, ht⟩ := ih h1
    refine ⟨h2, fun m hm hu => ht m ?_ hu⟩
    rcases hm with hm | hm
    · rcases List.mem_cons.mp hm with e | hm
      · exact .inr (hs m (.inl e) hu)
      · exact .inl hm
    · exact .inr (hs m (.inr hm) hu)

theorem saveStale_spec (s : State) : SaveFrame s s.saveStale ∧ ∀ n, s.used n.val = true → StaleSaved s s.saveStale n := by
  have h0 : SaveFrame s { s with cache := { s.cache with saved := { s.cache.saved with wunc := s.cache.wunc } } } :=
    ⟨⟨_, _, rfl⟩, fun _ => rfl⟩
  obtain ⟨h, hs⟩ := saveStaleLanes_spec h0 (List.finRange 4)
  exact ⟨h, fun n => hs n (.inl (List.mem_finRange n))⟩

end Sys2Proof.Machine
end

section
/-! The obligation `PreampPortAndTrackParity`, clause by clause. -/

namespace Sys2Proof.Machine

theorem reg_setFmt_wake (s : State) (n : Lane) (o : List Output) (f : Fmt) {off : Nat} (h : off ≠ 0xD0014) :
    (State.setFmt { s with regs := (s.wake (.fmt n)).regs, out := o } n f).reg off = s.reg off :=
  reg_wake_ne s (.fmt n) h

theorem pspWriteFrame_verified (s : State) (n : Lane) (addr data : Nat) (a retry : PspAnswer) (hu : s.used n.val = true)
    (hg : (s.lane n).fmt.wgate = false) (hlo : 1 ≤ addr) (hhi : addr ≤ 9)
    (hv : pspValue addr a = some data ∨ pspValue addr retry = some data) :
    ∃ t, exec (.pspWriteFrame n addr data a retry) s = .next t ∧
      (t.lane n).fmt.holds addr = data ∧ (t.lane n).fmt.refused = ((s.lane n).fmt.refused && addr != 1) ∧
      t = { s with lanes := t.lanes, out := t.out, regs := t.regs } ∧ (∀ off, off ≠ 0xD0014 → t.reg off = s.reg off) := by
  obtain ⟨o, h⟩ := pspWrite_of_verified s n addr data a retry true hv
  refine ⟨_, execPspWriteFrame_of_gate_low s n addr data a retry hu hg hlo hhi, ?_⟩
  rw [h]
  refine ⟨?_, ?_, rfl, fun off => reg_setFmt_wake s n o _⟩
  · rw [lane_setFmt_same, holds_verified]
  · rw [lane_setFmt_same]
    rfl

theorem pspWriteFrame_failed (s : State) (n : Lane) (addr data : Nat) (a retry : PspAnswer) (hu : s.used n.val = true)
    (hg : (s.lane n).fmt.wgate = false) (hlo : 1 ≤ addr) (hhi : addr ≤ 9)
    (ha : pspValue addr a ≠ some data) (hr : pspValue addr retry ≠ some data) :
    ∃ t, exec (.pspWriteFrame n addr data a retry) s = .next t ∧
      (t.lane n).fmt.refused = true ∧ (t.lane n).fmt.write = none ∧ (t.lane n).fmt.holds addr = pspUnwritten := by
  obtain ⟨o, m, h⟩ := pspWrite_of_failed s n addr data a retry true ha hr
  refine ⟨_, execPspWriteFrame_of_gate_low s n addr data a retry hu hg hlo hhi, ?_⟩
  rw [h]
  exact pspError_fmt _ n addr m hg

theorem pspReadFrame_releases_fault (s : State) (n : Lane) (a : PspAnswer) (hu : s.used n.val = true)
    (ha : (pspValue 0x0A a).isSome = true) : ∃ t, exec (.pspReadFrame n 0x0A a) s = .next t ∧ (t.lane n).fmt.pfaultN = true ∧
      t = { s with lanes := t.lanes, out := t.out, regs := t.regs } := by
  obtain ⟨r, o, h⟩ := execPspReadFrame_fault s n a hu ha
  exact ⟨_, h, by rw [lane_setFmt_same], rfl⟩

section
variable {s : State} {n : Lane} {p : Port} {v : Word} (hb : s.barOpen p = true) (hl : s.locked = true)
  (hp : s.present n.val = true)
include hb hl hp

theorem pspAccessGo_own_refused (a retry : PspAnswer) (hgo : s.get (Reg.FMT_PSP_ACCESS_GO n.val) = 0) (hu : s.used n.val = true)
    (h30 : bit v.toNat 30 = false) (hlo : 1 ≤ bits v.toNat 22 16) (hhi : bits v.toNat 22 16 ≤ 0x0A) :
    ∃ t, exec (.pspAccessGo n (.port p) v a retry) s = .next t ∧ t.get (Reg.FMT_PSP_ACCESS_ERR n.val) = 1 ∧
      t = { s with regs := t.regs } := by
  have e := pspAccess_of_own (s := s.wake (.fmt n)) (n := n) (by rw [get_pspGo_wake, hgo])
    (by rw [used_wake, hu]) (bit_go_setBits_go v.toNat) a retry (by rw [bit_setBits_go _ _ (by decide), h30])
    (by rwa [bits_setBits_go _ _ _ (by decide)]) (by rwa [bits_setBits_go _ _ _ (by decide)])
  refine ⟨_, execPspAccessGo_port s n p v a retry hb hl hp, ?_⟩
  rw [e]
  refine ⟨get_put_pspErr .., ?_⟩
  obtain ⟨r, hr⟩ := put_regs_only (pspFields_regs_only ⟨_, wake_eq s (.fmt n)⟩ n (setBits v.toNat 31 31 1))
    (Reg.FMT_PSP_ACCESS_ERR n) 1
  rw [hr]

theorem pspAccessGo_read (a retry : PspAnswer) (hgo : s.get (Reg.FMT_PSP_ACCESS_GO n.val) = 0) (hu : s.used n.val = true)
    (h30 : bit v.toNat 30 = true) {d : Nat} (hd : pspValue (bits v.toNat 22 16) a = some d) (h16 : d < 65536) :
    ∃ t, exec (.pspAccessGo n (.port p) v a retry) s = .next t ∧
      t.get (Reg.FMT_PSP_ACCESS_DATA n.val) = d ∧ t.get (Reg.FMT_PSP_ACCESS_ERR n.val) = 0 ∧ t.media = s.media := by
  obtain ⟨u, e, hm⟩ := pspAccess_of_read (s := s.wake (.fmt n)) (n := n)
    (by rw [get_pspGo_wake, hgo])
    (by rw [used_wake, hu]) (bit_go_setBits_go v.toNat) a retry (by rw [bit_setBits_go _ _ (by decide), h30])
    (by rwa [bits_setBits_go _ _ _ (by decide)])
  refine ⟨_, execPspAccessGo_port s n p v a retry hb hl hp, ?_⟩
  rw [e]
  refine ⟨?_, get_put_pspErr .., ?_⟩
  · rw [get_pspData_put_pspErr, get_put_pspData, Nat.mod_eq_of_lt h16]
  · rw [State.put_media, State.put_media, hm, wake_eq]

theorem pspAccessGo_unused (a retry : PspAnswer) (hu : s.used n.val = false) :
    ∃ t, exec (.pspAccessGo n (.port p) v a retry) s = .next t ∧ t.out = s.out ∧ t.lanes = s.lanes := by
  refine ⟨_, execPspAccessGo_port s n p v a retry hb hl hp, ?_⟩
  rw [pspAccess_of_unused _ _ _ _ _ (by rw [used_wake, hu]), wake_eq]
  exact ⟨rfl, rfl⟩

end

section
variable {s : State} {n : Lane} {h k g : Nat} (ho : s.writesOpen n = true) (hn : headLane (s.section secGeometry) h = n.val)
  (hs : (h, k, g) ∈ s.stale) (hr : ∀ r ∈ s.rebuilds, r.1 ≠ (h, k, g))
include ho hn hs hr

theorem parityRebuild_held {q : Nat} (hq : s.groupParity (h, k, g) = [q])
    (hh : ∀ p ∈ s.groupData (h, k, g), (s.heldSymbols p).isSome = true) :
    ∃ t m, exec (.parityRebuild n h k g) s = .next t ∧ t.stale = s.stale.erase (h, k, g) ∧ t.mediaAt q = some m ∧ m.whole = true ∧
      m.data ++ m.tag = symbolBytes (parityQ0 ((s.groupData (h, k, g)).map fun p => (s.heldSymbols p).getD [])) ∧
      t.rebuilds = s.rebuilds ∧ t.lanes = s.lanes ∧ t.cache = s.cache := by
  have hx := execParityRebuild_of_held ho hn hs hr hh
  obtain ⟨r0, e0⟩ := rebuildBegun_eq s (h, k, g)
  have hheld : (s.rebuildBegun (h, k, g)).heldSymbols = s.heldSymbols := by
    rw [e0]; exact heldSymbols_congr rfl rfl rfl fun _ => .refl _
  have hfresh : ∀ r ∈ s.rebuilds ++ [((h, k, g), false)], r.1 = (h, k, g) → r.2 = false := by
    intro r hm e
    rcases List.mem_append.mp hm with hm | hm
    · exact absurd e (hr r hm)
    · rw [List.mem_singleton.mp hm]
  have hkept : (s.rebuilds ++ [((h, k, g), false)]).filter (·.1 != (h, k, g)) = s.rebuilds := by
    rw [List.filter_append, List.filter_eq_self.mpr fun r hm => by simpa using hr r hm]
    simp
  obtain ⟨m, r, c, o, e, hm, hw, hbytes⟩ := rebuilt_spec (s.rebuildBegun (h, k, g)) (h, k, g) q (by rw [e0]; exact hq)
    (fun p hp => .inl (by rw [hheld]; exact hh p (by rw [e0] at hp; exact hp))) (by rw [e0]; exact hfresh)
  refine ⟨_, m, hx, ?_, hm, hw, ?_, ?_, ?_, ?_⟩
  · rw [e, e0]
  · rw [hbytes, hheld, e0]
    congr 2
    refine List.map_congr_left fun p hp => ?_
    obtain ⟨x, hx⟩ := Option.isSome_iff_exists.mp (hh p hp)
    rw [hx]
    rfl
  · rw [e, e0]; exact hkept
  · rw [e, e0]
  · rw [e, e0]

theorem parityRebuild_missing (hh : ∃ p ∈ s.groupData (h, k, g), s.heldSymbols p = none) :
    ∃ t, exec (.parityRebuild n h k g) s = .next t ∧ t.stale = s.stale ∧ t.media = s.media ∧
      t.rebuilds = s.rebuilds ++ [((h, k, g), false)] := by
  obtain ⟨o, hhost, hx⟩ := execParityRebuild_of_missing ho hn hs hr hh
  obtain ⟨r, e⟩ := rebuildBegun_eq s (h, k, g)
  obtain ⟨hstale, hmedia, hreb⟩ := addOp_kept (s.rebuildBegun (h, k, g)) n o hhost
  rw [e] at hstale hmedia hreb hx
  exact ⟨_, hx, hstale, hmedia, hreb⟩

end

section
variable {s : State} {n : Lane} {o : MediaOp} {rest : List MediaOp} {g : GroupId} (hs : s.sched n = o :: rest)
  (hw : o.write = false) (hh : o.host = false) (hg : o.rebuild = some g) (hd : s.mediaStatus n.val = 0)
  (hl : (s.lane n).rcv.ladder = none) (hm : (s.lane n).chan.mended = []) (hc : s.hif.cmds = [])
include hs hw hh hg hd hl hm hc

theorem mediaOperationEnd_rebuilds (gaveUp : Bool) {q : Nat}
    (ha : ∀ b ∈ o.blocks, (s.lane n).chan.delivered.contains b.pba = true) (hq : s.groupParity g = [q])
    (hk : ∀ p ∈ s.groupData g, (s.heldSymbols p).isSome = true ∨ (s.mediaAt p).isSome = true)
    (hr : ∀ r ∈ s.rebuilds, r.1 = g → r.2 = false) :
    ∃ t m, exec (.mediaOperationEnd n gaveUp) s = .next t ∧ t.stale = s.stale.erase g ∧ t.mediaAt q = some m ∧ m.whole = true ∧
      m.data ++ m.tag = symbolBytes (parityQ0 ((s.groupData g).map fun p => (s.heldSymbols p).getD (s.mediaSymbols p))) := by
  have hx := execMediaOperationEnd_of_rebuild s n gaveUp o rest hs hw hg hd hl fun b hb => .inl (ha b hb)
  obtain ⟨u, hf, he⟩ := endRead_of_device s n o 0x281 hh hm hc
  rw [he, endRebuild_of_delivered s u n o hg ha] at hx
  have hk' : ∀ p ∈ u.groupData g, (u.heldSymbols p).isSome = true ∨ (u.mediaAt p).isSome = true := by
    rwa [hf.groupData, hf.heldSymbols, hf.mediaAt]
  obtain ⟨m, r, c, out, e, hmedia, hwhole, hbytes⟩ := rebuilt_spec u g q (by rw [hf.groupParity, hq]) hk' (by rwa [hf.rebuilds])
  have hshow := LaneFrame.showCache (u.rebuilt g)
  refine ⟨_, m, hx, ?_, ?_, hwhole, ?_⟩
  · rw [hshow.stale, e, ← hf.stale]
  · rw [hshow.mediaAt, hmedia]
  · rw [hbytes, hf.groupData, hf.heldSymbols, hf.mediaSymbols]

theorem mediaOperationEnd_keeps_stale (gaveUp : Bool)
    (hn : ∃ b ∈ o.blocks, (s.lane n).chan.delivered.contains b.pba = false)
    (ha : ∀ b ∈ o.blocks, (s.lane n).chan.delivered.contains b.pba = true ∨ (b.pba, causeReported) ∈ (s.lane n).chan.failed) :
    ∃ t, exec (.mediaOperationEnd n gaveUp) s = .next t ∧ t.stale = s.stale ∧ t.media = s.media := by
  have hx := execMediaOperationEnd_of_rebuild s n gaveUp o rest hs hw hg hd hl ha
  obtain ⟨u, hf, he⟩ := endRead_of_device s n o 0x281 hh hm hc
  rw [he, endRebuild_of_undelivered s u n o hg hn] at hx
  have hshow := LaneFrame.showCache { u with rebuilds := u.rebuilds.filter (·.1 != g) }
  exact ⟨_, hx, hshow.stale.trans hf.stale, hshow.media.trans hf.media⟩

end

theorem staleBitmapSave_spec (s : State) : ∃ t, exec .staleBitmapSave s = .next t ∧ t.stale = s.stale ∧ t.regs = s.regs ∧
    t.media = s.media ∧ (∀ n : Lane, s.used n.val = true → (t.lane n).sys.pending = (s.lane n).rcv.pending ∧
      (t.lane n).sys.stale = s.stale.filter (fun g => headLane (s.section secGeometry) g.1 == n.val)) := by
  obtain ⟨h, hs⟩ := saveStale_spec s
  obtain ⟨_, _, e⟩ := h.rest
  refine ⟨s.saveStale, rfl, ?_, ?_, ?_, hs⟩ <;> rw [e]

end Sys2Proof.Machine

open Sys2Proof Sys2Proof.Machine

/-- Settles O26: frames by the verified write, diagnostic accesses by PSP_ACCESS, rebuilds by what `rebuilt` writes, and the save by the
system areas. -/
theorem preampPortAndTrackParity : Obligations.PreampPortAndTrackParity := by
  refine ⟨fun s n addr data a retry hu hg hlo hhi => ⟨?_, ?_⟩, fun s n addr data a retry hu hg ha => ?_, ?_,
    fun s n p v a retry hb hl hp hgo => ⟨?_, ?_, ?_⟩, fun s n h k g q ho hn hs hr => ⟨?_, ?_⟩,
    fun s n gaveUp o rest g q hs hw hh hg hd hl hm hc => ⟨?_, ?_⟩, staleBitmapSave_spec⟩
  · exact pspWriteFrame_verified s n addr data a retry hu hg hlo hhi
  · exact pspWriteFrame_failed s n addr data a retry hu hg hlo hhi
  · exact ⟨_, execPspWriteFrame_of_gate_high s n addr data a retry hu hg ha, rfl⟩
  · exact pspReadFrame_releases_fault
  · exact pspAccessGo_own_refused hb hl hp a retry hgo
  · exact fun hu h30 d hd h16 => pspAccessGo_read hb hl hp a retry hgo hu h30 hd h16
  · exact pspAccessGo_unused hb hl hp a retry
  · exact parityRebuild_held ho hn hs hr
  · exact parityRebuild_missing ho hn hs hr
  · exact mediaOperationEnd_rebuilds hs hw hh hg hd hl hm hc gaveUp
  · exact mediaOperationEnd_keeps_stale hs hw hh hg hd hl hm hc gaveUp
end
